-- ==== Sys2Proof/Word.lean ====
section
/-!
DEFINITION. Word.lean: the 72-bit word (R9) and its plainest arithmetic on bit fields.
-/
namespace Sys2Proof

/-- The native unit of the device: the 72-bit word, bit 0 least significant (R9). -/
abbrev Word := BitVec 72

/-- A word from a natural number, modulo 2^72. -/
abbrev Word.of (n : Nat) : Word := BitVec.ofNat 72 n

end Sys2Proof
end

