-- ==== Sys2Proof/Syntax.lean ====
section
/-!
DEFINITION. Syntax.lean: the commands of the block, one constructor per row of spec/opcode_table.json, in its order. The
table gives a row no bits, so the operands are the model's own (log entry 1): a Dolry instruction names its thread `t`
(0–511 the thread of that stream channel, 512 + c the service context of clerk c), its condition field and its operand
fields (R84); a register write of a row of its own names the master (R27), the index and the word; an event carries
what happened.
-/

namespace Sys2Proof

/-- What a TIME frame tells (R565): the root it speaks for, with its priority and whether it holds a locked uplink, the
sender's distance from that root, the offset measured, and the time to be on. -/
structure TimeMsg where
  rootPri : Nat
  rootId : Nat
  rootLocked : Bool
  hops : Nat
  offset : Int
  time : Nat
  deriving DecidableEq, Repr

/-- A piece of the byte stream that a datagram of an ingest receiver yields (R597): whether an access unit starts with it and
ends with it, the time stamp of an access unit that starts in it, and its bytes. -/
structure UPiece where
  auStart : Bool
  auEnd : Bool
  pts : Option Nat
  bytes : List (BitVec 8)
  deriving DecidableEq, Repr

/-- A frame received on an uplink port (R595), as its receiver parses it: whether its FCS holds, its size, its destination address
(none for a multicast one) and the destination of its IP header, PTP or UDP, the length and port that meters look at, when its
last bit came, the RTP fields, whether sequence numbers were skipped (R599), whether it is older than the window of R597, breaks
R597, or exceeds the limit of R34, and the pieces of its payload. -/
structure UPacket where
  fcsOk : Bool
  size : Nat
  mac : Option Nat
  dstHi : Nat
  dstLo : Nat
  ptp : Bool
  udp : Bool
  ipLen : Nat
  dstPort : Nat
  at_ns : Nat
  rtpVer : Nat
  pt : Nat
  ssrc : Nat
  seqGap : Bool
  late : Bool
  badType : Bool
  overLimit : Bool
  pieces : List UPiece
  deriving DecidableEq, Repr

/-- What the boot chain finds (R619–R626): the two images' check results (R621), the accepted image's identities, firmware
words and config record (R622), its microwords (micro-address and 144 bits), the patch set's result, the DRAM's training
result, rate and organisation, the banks that fail the assay with their failing offsets and first failing bit, the stage
at which the boot fails for another cause (0 for none), how long it takes, the clocks that are good (bits 0–4: PCIE, MEM,
SD, CAP, XTAL32), and the host link's speed and width. -/
structure BootInfo where
  primaryResult : Nat
  alternateResult : Nat
  imageId : Nat
  firmware : List Word
  config : List Word
  baseId : Nat
  microwords : List (Nat × Nat)
  patchLevel : Nat
  patches : Nat
  patchResult : Nat
  patchIndex : Nat
  trainResult : Nat
  dramRate : Nat
  dramOrg : Nat
  rdimm : Bool
  failedBanks : List (Nat × List Nat × Nat)
  failStage : Nat
  bootMs : Nat
  clocks : Nat
  linkSpeed : Nat
  linkWidth : Nat
  deriving DecidableEq, Repr

/-- A frame received from a receiver card (R419, R420): whether its FCS is right, whether its header is sound (EtherType,
lengths and reserved fields), and the fields the device reads. -/
structure CardFrame where
  fcsOk : Bool
  sound : Bool
  version : Nat
  card : Nat
  first : Nat
  count : Nat
  body : List Nat
  deriving DecidableEq, Repr

/-- A sequence as its headers state it (R207, R208, R213): the profile as its place in the standard's row of R207 (4 for
another), the level code, the chroma format, the bit depths, the size, the picture buffer, luma samples per second, the
coding-tree size, and whether a tool outside R209–R212 is used, with the log's DETAIL for it. -/
structure SeqInfo where
  profile : Nat
  level : Nat
  chroma : Nat
  depthY : Nat
  depthC : Nat
  width : Nat
  height : Nat
  dpb : Nat
  rate : Nat
  ctb : Nat
  badTool : Bool
  detail : Nat
  deriving DecidableEq, Repr

/-- A margin payload that passes R281 and applies to a picture (R279, R356): its grid boundaries, its margins and its flags, and the
picture's place in a sweep with SWEEP_WIDTH, where the refresh fields put it in one (R277, R280). -/
structure Payload where
  colB : List Nat
  rowB : List Nat
  marginH : Nat
  marginV : Nat
  tileAligned : Bool
  noFilterCross : Bool
  sweep : Option (Nat × Nat)
  deriving DecidableEq, Repr

/-- A picture as its headers state it (R224, R227, R236, R366): coded size, crop, depth, field, colour codes, its place in
output order, its key and order hint, its references by tag, whether it is marked for reference, is to be shown, and takes
film grain, and its payload. -/
structure PicInfo where
  width : Nat
  height : Nat
  cropL : Nat
  cropR : Nat
  cropT : Nat
  cropB : Nat
  depth : Nat
  field : Nat
  transfer : Nat
  primaries : Nat
  matrix : Nat
  full : Bool
  poc : Int
  key : Nat
  hint : Nat
  refs : List Nat
  isRef : Bool
  shown : Bool
  grain : Bool
  payload : Option Payload
  deriving DecidableEq, Repr

/-- What DEC_NEXT parses (R230): `what` is 0 a coded unit, 1 a non-picture unit, 2 no complete unit, 3 the end of the access
unit, 4 a sequence header or active parameter set, 5 a picture that the standard skips, 6 a show-existing-frame of `tag`; the
bytes consumed and the byte position of the unit; the kind of damage found in it (0 none), and whether that stands in a
parameter set or sequence header; whether it begins a random-access point; the sequence or picture it begins; the tags it
unmarks and those it makes due; the unit's fields (R232); and where firmware puts the blocks in the work area, with its own
words there. -/
structure DecUnit where
  what : Nat
  consumed : Nat
  bytePos : Nat
  damage : Nat
  inSet : Bool
  rap : Bool
  tag : Nat
  seq : Option SeqInfo
  pic : Option PicInfo
  unref : List Nat
  due : List Nat
  kind : Nat
  firstRow : Nat
  rows : Nat
  dataPos : Nat
  dataBytes : Nat
  entOff : Nat
  reconOff : Nat
  seamOff : Nat
  paramOff : Nat
  params : List (Nat × Word)
  deriving DecidableEq, Repr

/-- What firmware chooses at ENC_PICTURE beyond what R272–R292 fix: under HIER_B the held source coded now, by its place in the
order offered, and its TYPE; the tags its references are taken from and those it frees; where its blocks and parameter words
stand in the work area; and the words of the header fragments written so far. -/
structure EncPlan where
  code : Option Nat
  ptype : Nat
  refs : List Nat
  unref : List Nat
  searchOff : Nat
  rateOff : Nat
  reconOff : Nat
  paramOff : Nat
  headerBytes : Nat
  params : List (Nat × Word)
  deriving DecidableEq, Repr

/-- A lost CTB (R250–R253): its column and row, whether it is concealed spatially whatever the picture has, and for each block of
16 × 16 (8 × 8 in AV1) in raster order the source's vector, in whole luma samples; a block past the list has none. -/
structure LostCtb where
  col : Nat
  row : Nat
  spatial : Bool
  mvs : List (Int × Int)
  deriving DecidableEq, Repr

/-- The source of a SEARCH in analysis mode, which its block does not state: width, height, packing, depth, and whether blocks of
64 are searched (R269). -/
structure SearchGeom where
  w : Nat
  h : Nat
  packing : Nat
  depth : Nat
  with64 : Bool
  deriving DecidableEq, Repr

/-- A sample row data header of an ST 2110-20 packet with its samples (R333): row, offset, field bit, and the samples of Y, Cb and
Cr (G, B and R); the row that carries the chroma of a pair holds it in 4:2:0. -/
structure FlowRow where
  row : Nat
  offset : Nat
  field : Bool
  luma : List Nat
  cb : List Nat
  cr : List Nat
  deriving DecidableEq, Repr

/-- An ST 2110-20 packet that arrived on an uplink port (R333): when, its IP length, destination, RTP payload type, SSRC, timestamp
and marker, and its rows. -/
structure FlowPacket where
  q : Nat
  at_ns : Nat
  ipLen : Nat
  hi : Nat
  lo : Nat
  dstPort : Nat
  pt : Nat
  ssrc : Nat
  rts : Nat
  marker : Bool
  rows : List FlowRow
  deriving DecidableEq, Repr

/-- A read of reference samples outside A (R358, R369): the place of the owner in the member table, the plane, the reference's PIC_KEY
and ORDER_HINT, the rectangle in samples of the plane, and whether the reader's payload is binding. -/
structure FetchNeed where
  owner : Nat
  plane : Nat
  key : Nat
  hint : Nat
  x : Nat
  y : Nat
  w : Nat
  h : Nat
  breach : Bool
  deriving DecidableEq, Repr

/-- The commands. -/
inductive Instr where
  | registerWrite (mst a : Nat) (v : Word)
  | rcRead (mst a : Nat)
  | paceWindow (paces : List Nat) (temps : List Int)
  | governorPoint (mv cur : Nat)
  | governorLoop (other : Nat)
  | targetMiss
  | avsFrame (ok : Bool) (status : Nat)
  | add (t : Nat) (c : BitVec 4) (d a b : BitVec 5)
  | adc (t : Nat) (c : BitVec 4) (d a b : BitVec 5)
  | sub (t : Nat) (c : BitVec 4) (d a b : BitVec 5)
  | sbc (t : Nat) (c : BitVec 4) (d a b : BitVec 5)
  | cmp (t : Nat) (c : BitVec 4) (a b : BitVec 5)
  | and (t : Nat) (c : BitVec 4) (d a b : BitVec 5)
  | or (t : Nat) (c : BitVec 4) (d a b : BitVec 5)
  | xor (t : Nat) (c : BitVec 4) (d a b : BitVec 5)
  | andn (t : Nat) (c : BitVec 4) (d a b : BitVec 5)
  | tst (t : Nat) (c : BitVec 4) (a b : BitVec 5)
  | not (t : Nat) (c : BitVec 4) (d a : BitVec 5)
  | neg (t : Nat) (c : BitVec 4) (d a : BitVec 5)
  | min (t : Nat) (c : BitVec 4) (d a b : BitVec 5)
  | max (t : Nat) (c : BitVec 4) (d a b : BitVec 5)
  | minu (t : Nat) (c : BitVec 4) (d a b : BitVec 5)
  | maxu (t : Nat) (c : BitVec 4) (d a b : BitVec 5)
  | shl (t : Nat) (c : BitVec 4) (d a b : BitVec 5)
  | shr (t : Nat) (c : BitVec 4) (d a b : BitVec 5)
  | sar (t : Nat) (c : BitVec 4) (d a b : BitVec 5)
  | rol (t : Nat) (c : BitVec 4) (d a b : BitVec 5)
  | clz (t : Nat) (c : BitVec 4) (d a : BitVec 5)
  | popc (t : Nat) (c : BitVec 4) (d a : BitVec 5)
  | mov (t : Nat) (c : BitVec 4) (d a : BitVec 5)
  | mul (t : Nat) (c : BitVec 4) (d a b : BitVec 5)
  | mulhu (t : Nat) (c : BitVec 4) (d a b : BitVec 5)
  | mulhs (t : Nat) (c : BitVec 4) (d a b : BitVec 5)
  | divu (t : Nat) (c : BitVec 4) (d a b : BitVec 5)
  | divs (t : Nat) (c : BitVec 4) (d a b : BitVec 5)
  | remu (t : Nat) (c : BitVec 4) (d a b : BitVec 5)
  | rems (t : Nat) (c : BitVec 4) (d a b : BitVec 5)
  | addi (t : Nat) (c : BitVec 4) (d a : BitVec 5) (imm : BitVec 48)
  | cmpi (t : Nat) (c : BitVec 4) (a : BitVec 5) (imm : BitVec 48)
  | andi (t : Nat) (c : BitVec 4) (d a : BitVec 5) (imm : BitVec 48)
  | ori (t : Nat) (c : BitVec 4) (d a : BitVec 5) (imm : BitVec 48)
  | xori (t : Nat) (c : BitVec 4) (d a : BitVec 5) (imm : BitVec 48)
  | ldi (t : Nat) (c : BitVec 4) (d : BitVec 5) (imm : BitVec 48)
  | ldhi (t : Nat) (c : BitVec 4) (d : BitVec 5) (imm : BitVec 48)
  | shli (t : Nat) (c : BitVec 4) (d a : BitVec 5) (imm : BitVec 48)
  | shri (t : Nat) (c : BitVec 4) (d a : BitVec 5) (imm : BitVec 48)
  | sari (t : Nat) (c : BitVec 4) (d a : BitVec 5) (imm : BitVec 48)
  | extu (t : Nat) (c : BitVec 4) (d a : BitVec 5) (imm : BitVec 48)
  | exts (t : Nat) (c : BitVec 4) (d a : BitVec 5) (imm : BitVec 48)
  | ins (t : Nat) (c : BitVec 4) (d a : BitVec 5) (imm : BitVec 48)
  | gate (t : Nat) (c : BitVec 4) (imm : BitVec 48)
  | s6add (t : Nat) (c : BitVec 4) (d a b : BitVec 5)
  | s6adds (t : Nat) (c : BitVec 4) (d a b : BitVec 5)
  | s6sub (t : Nat) (c : BitVec 4) (d a b : BitVec 5)
  | s6subs (t : Nat) (c : BitVec 4) (d a b : BitVec 5)
  | s6avg (t : Nat) (c : BitVec 4) (d a b : BitVec 5)
  | s6min (t : Nat) (c : BitVec 4) (d a b : BitVec 5)
  | s6max (t : Nat) (c : BitVec 4) (d a b : BitVec 5)
  | s6absd (t : Nat) (c : BitVec 4) (d a b : BitVec 5)
  | s6sad (t : Nat) (c : BitVec 4) (d a b : BitVec 5)
  | s6mulq (t : Nat) (c : BitVec 4) (d a b : BitVec 5)
  | s6shrr (t : Nat) (c : BitVec 4) (d a b : BitVec 5)
  | s6shl (t : Nat) (c : BitVec 4) (d a b : BitVec 5)
  | s6ceq (t : Nat) (c : BitVec 4) (d a b : BitVec 5)
  | s6cgt (t : Nat) (c : BitVec 4) (d a b : BitVec 5)
  | s6hsum (t : Nat) (c : BitVec 4) (d a : BitVec 5)
  | s6bcast (t : Nat) (c : BitVec 4) (d a : BitVec 5)
  | n9add (t : Nat) (c : BitVec 4) (d a b : BitVec 5)
  | n9adds (t : Nat) (c : BitVec 4) (d a b : BitVec 5)
  | n9sub (t : Nat) (c : BitVec 4) (d a b : BitVec 5)
  | n9subs (t : Nat) (c : BitVec 4) (d a b : BitVec 5)
  | n9avg (t : Nat) (c : BitVec 4) (d a b : BitVec 5)
  | n9min (t : Nat) (c : BitVec 4) (d a b : BitVec 5)
  | n9max (t : Nat) (c : BitVec 4) (d a b : BitVec 5)
  | n9absd (t : Nat) (c : BitVec 4) (d a b : BitVec 5)
  | n9sad (t : Nat) (c : BitVec 4) (d a b : BitVec 5)
  | n9mulq (t : Nat) (c : BitVec 4) (d a b : BitVec 5)
  | n9shrr (t : Nat) (c : BitVec 4) (d a b : BitVec 5)
  | n9shl (t : Nat) (c : BitVec 4) (d a b : BitVec 5)
  | n9ceq (t : Nat) (c : BitVec 4) (d a b : BitVec 5)
  | n9cgt (t : Nat) (c : BitVec 4) (d a b : BitVec 5)
  | n9hsum (t : Nat) (c : BitVec 4) (d a : BitVec 5)
  | n9bcast (t : Nat) (c : BitVec 4) (d a : BitVec 5)
  | q4adds (t : Nat) (c : BitVec 4) (d a b : BitVec 5)
  | q4subs (t : Nat) (c : BitVec 4) (d a b : BitVec 5)
  | q4shrr (t : Nat) (c : BitVec 4) (d a b : BitVec 5)
  | q4clipu (t : Nat) (c : BitVec 4) (d a b : BitVec 5)
  | cnv96 (t : Nat) (c : BitVec 4) (d a b : BitVec 5)
  | cnv69l (t : Nat) (c : BitVec 4) (d a : BitVec 5)
  | cnv69h (t : Nat) (c : BitVec 4) (d a : BitVec 5)
  | cnvq6 (t : Nat) (c : BitVec 4) (d a b : BitVec 5)
  | rdtsw (t : Nat) (c : BitVec 4) (d : BitVec 5)
  | wrtsw (t : Nat) (c : BitVec 4) (a : BitVec 5)
  | cmpp (t : Nat) (c : BitVec 4) (a b : BitVec 5) (func : BitVec 11)
  | nop (t : Nat) (c : BitVec 4)
  | fence (t : Nat) (c : BitVec 4)
  | brk (t : Nat) (c : BitVec 4)
  | gret (t : Nat) (c : BitVec 4)
  | tret (t : Nat) (c : BitVec 4)
  | jmpr (t : Nat) (c : BitVec 4) (d a : BitVec 5)
  | mfs (t : Nat) (c : BitVec 4) (d b : BitVec 5)
  | mts (t : Nat) (c : BitVec 4) (a b : BitVec 5)
  | rdt (t : Nat) (c : BitVec 4) (d b : BitVec 5)
  | wrt (t : Nat) (c : BitVec 4) (d a b : BitVec 5)
  | rdtime (t : Nat) (c : BitVec 4) (d : BitVec 5)
  | tadd (t : Nat) (c : BitVec 4) (d a b : BitVec 5)
  | swap (t : Nat) (c : BitVec 4) (d a b : BitVec 5)
  | kill (t : Nat) (c : BitVec 4) (d a : BitVec 5)
  | ld (t : Nat) (c : BitVec 4) (d a b : BitVec 5) (scale : BitVec 3) (off : BitVec 40)
  | st (t : Nat) (c : BitVec 4) (d a b : BitVec 5) (scale : BitVec 3) (off : BitVec 40)
  | ldv (t : Nat) (c : BitVec 4) (d a b : BitVec 5) (scale : BitVec 3) (off : BitVec 40)
  | stv (t : Nat) (c : BitVec 4) (d a b : BitVec 5) (scale : BitVec 3) (off : BitVec 40)
  | ldr (t : Nat) (c : BitVec 4) (d a b : BitVec 5) (scale : BitVec 3) (off : BitVec 40)
  | str (t : Nat) (c : BitVec 4) (d a b : BitVec 5) (scale : BitVec 3) (off : BitVec 40)
  | ldp (t : Nat) (c : BitVec 4) (d a b : BitVec 5) (scale : BitVec 3) (off : BitVec 40)
  | aadd (t : Nat) (c : BitVec 4) (d a b : BitVec 5) (scale : BitVec 3) (off : BitVec 40)
  | aswp (t : Nat) (c : BitVec 4) (d a b : BitVec 5) (scale : BitVec 3) (off : BitVec 40)
  | acas (t : Nat) (c : BitVec 4) (d a b : BitVec 5) (scale : BitVec 3) (off : BitVec 40)
  | aaddv (t : Nat) (c : BitVec 4) (d a b : BitVec 5) (scale : BitVec 3) (off : BitVec 40)
  | acasv (t : Nat) (c : BitVec 4) (d a b : BitVec 5) (scale : BitVec 3) (off : BitVec 40)
  | jmp (t : Nat) (c : BitVec 4) (d : BitVec 5) (target : BitVec 24)
  | enq (t : Nat) (c : BitVec 4) (d a : BitVec 5) (queue flags : BitVec 8) (len : BitVec 32)
  | tstat (t : Nat) (c : BitVec 4) (d a b : BitVec 5)
  | fpush (t : Nat) (c : BitVec 4) (d a b : BitVec 5)
  | ftry (t : Nat) (c : BitVec 4) (d a b : BitVec 5)
  | flen (t : Nat) (c : BitVec 4) (d a : BitVec 5)
  | mpost (t : Nat) (c : BitVec 4) (d a b : BitVec 5)
  | mrecv (t : Nat) (c : BitVec 4) (d a b : BitVec 5)
  | mack (t : Nat) (c : BitVec 4) (d a b : BitVec 5)
  | mstat (t : Nat) (c : BitVec 4) (d a : BitVec 5)
  | give (t : Nat) (c : BitVec 4) (d a b : BitVec 5)
  | owner (t : Nat) (c : BitVec 4) (d a : BitVec 5)
  | waitk (t : Nat) (c : BitVec 4) (d a b : BitVec 5) (guard : BitVec 3)
  | waite (t : Nat) (c : BitVec 4) (d a b : BitVec 5) (guard : BitVec 3)
  | waitt (t : Nat) (c : BitVec 4) (d a : BitVec 5) (guard : BitVec 3)
  | fpop (t : Nat) (c : BitVec 4) (d a b : BitVec 5) (guard : BitVec 3)
  | moveDramDram (t : Nat) (c : BitVec 4) (d a b : BitVec 5)
  | moveDramVault (t : Nat) (c : BitVec 4) (d a b : BitVec 5)
  | moveVaultDram (t : Nat) (c : BitVec 4) (d a b : BitVec 5)
  | moveVaultVault (t : Nat) (c : BitVec 4) (d a b : BitVec 5)
  | fillDram (t : Nat) (c : BitVec 4) (d a b : BitVec 5)
  | fillVault (t : Nat) (c : BitVec 4) (d a b : BitVec 5)
  | sumDram (t : Nat) (c : BitVec 4) (d a b : BitVec 5)
  | sumVault (t : Nat) (c : BitVec 4) (d a b : BitVec 5)
  | compose (t : Nat) (c : BitVec 4) (d a b : BitVec 5)
  | draink (t : Nat) (c : BitVec 4) (d a : BitVec 5)
  | drainc (t : Nat) (c : BitVec 4) (d a : BitVec 5)
  | longProgressStep (t : Nat)
  | microwordWaitEnd (t : Nat)
  | waitConditionMet (t : Nat)
  | asyncTrap (t : Nat)
  | ucLoadLo (mst : Nat) (v : Word)
  | ucLoadHi (mst : Nat) (v : Word)
  | chanCtrlWrite (mst n : Nat) (v : Word)
  | cmdLoad (mst n record : Nat)
  | cmdSwap (mst n record : Nat)
  | cmdKill (mst n : Nat)
  | cmdStop (mst n : Nat)
  | stopTimeout (n : Nat)
  | cmdResume (mst n : Nat)
  | cmdClear (mst n : Nat)
  | cmdUnshed (mst n : Nat)
  | cmdReserved (mst n cmd : Nat)
  | exchangeEffect (n : Nat)
  | swapLimitExpiry (n : Nat)
  | effectTimeReached (n : Nat)
  | liveIssueWindow (n used : Nat)
  | liveGuaranteeRestore (n : Nat)
  | timerExpiry (t k : Nat)
  | schedEnable (mst : Nat) (v : Word)
  | schedEntryDue
  | loadWindow (c load live : Nat)
  | poolGet (t : Nat)
  | poolPut (t : Nat)
  | poolPass (t : Nat)
  | fifoClose (t : Nat)
  | hostRetire (t : Nat)
  | hostComplete (t : Nat)
  | decOpen (t : Nat)
  | decNext (t : Nat) (x : DecUnit)
  | decPicDone (t off : Nat)
  | decOutput (t off : Nat)
  | decRelease (t : Nat)
  | decFlush (t : Nat)
  | decClose (t : Nat)
  | decGap (t : Nat) (consumed : Option Nat)
  | regionOpen (t : Nat)
  | encOpen (t : Nat)
  | encPicture (t : Nat) (x : EncPlan)
  | encNext (t off : Nat)
  | encUnitDone (t off payAt : Nat) (heads : List (Nat × Nat)) (words : List (Nat × Word))
  | encPicDone (t off : Nat) (heads : List (Nat × Nat)) (filler : Nat) (words : List (Nat × Word))
  | encRefresh (t : Nat)
  | encFlush (t : Nat)
  | encClose (t : Nat)
  | rcSet (t : Nat)
  | engineTakeWork (key : Nat) (ready : List Nat) (pre : List Word) (needs : List FetchNeed)
  | entropyRowEnd (e bins pipe : Nat) (spill : List Word)
  | entropyDecDone (e kind row col bins : Nat)
  | pipeSegmentEnd (p samples spent : Nat) (rowEnd : Bool) (poison : Option Nat) (writes : List (Nat × Word)) (lost : List LostCtb) (used : List Nat) (drift : Bool)
  | reconDecDone (p n tag missing row pos : Nat) (lost : List LostCtb)
  | picTimeout (n tag missing row pos : Nat) (lost : List LostCtb)
  | engineMeterWindow
  | searchBandEnd (e band : Nat) (g : SearchGeom) (motion : List (Nat × Word))
  | searchDone (e n order : Nat) (g : SearchGeom)
  | rateDone (a : Nat)
  | reconEncDone (p n tag intraPct : Nat)
  | entropyEncDone (e bins : Nat) (data : List (BitVec 8))
  | srcEnable (mst i : Nat) (v : Word)
  | srcDisable (mst i : Nat) (v : Word)
  | csiFrameStart (p vc : Nat)
  | csiLongPacket (p vc dt : Nat) (ecc crc : Bool) (luma cb cr : List Nat)
  | csiLineStart (p vc line : Nat)
  | csiFrameEnd (p vc : Nat)
  | flowPacket (f : Nat) (x : FlowPacket)
  | frameTimeout (i : Nat)
  | captureNoSignal (p : Nat)
  | slotRelease (i : Nat)
  | scaleBandEnd (k : Nat)
  | scaleDone (n order : Nat)
  | post (k : Nat) (ws : List Word)
  | pre (k : Nat) (ws : List Word)
  | fetchReq (k : Nat) (ws : List Word)
  | fetchReply (k : Nat) (ws : List Word)
  | fetchNak (k : Nat) (ws : List Word)
  | absent (k : Nat) (ws : List Word)
  | away (k : Nat) (ws : List Word)
  | seamWaitExpiry (n tag : Nat) (pre : Bool)
  | fetchWaitExpiry (n req : Nat)
  | memberDeparted (ident : Nat)
  | seamDone (k n tag : Nat)
  | configWrite (mst a : Nat) (v : Word)
  | holdConfigClear (mst : Nat) (v : Word)
  | mapCheckDone
  | refreshStart (overrun : Bool)
  | calCmd (mst : Nat) (v : Word)
  | calListDone
  | portEnable (mst p : Nat) (v : Word)
  | lampLinkUp (p rate : Nat)
  | lampLinkDown (p : Nat)
  | lampLinkRetry (p : Nat)
  | lampFrameTx (p : Nat)
  | discoverTimer (p : Nat)
  | cardHello (p : Nat) (f : CardFrame)
  | cardStatus (p : Nat) (f : CardFrame)
  | holdTimer (p : Nat)
  | portBlank (mst p : Nat) (v : Word)
  | uploadCmd (mst : Nat) (v : Word)
  | calData (p : Nat) (f : CardFrame)
  | calReqTimeout
  | ledgerEnable (mst : Nat) (v : Word)
  | ledgerRestoreDone
  | journalEnable (mst : Nat) (v : Word)
  | journalPassStart
  | journalPassDone (ok : Bool)
  | ledgerPass (mst : Nat) (v : Word)
  | zero (mst : Nat) (v : Word)
  | import (mst : Nat) (v : Word)
  | lifeSecond (model : Nat)
  | calSet (mst : Nat) (v : Word)
  | calendarTrim
  | calendarFollow (diff : Int)
  | vaultOwnerWrite (mst b : Nat) (v : Word)
  | vaultRetire (mst : Nat) (v : Word)
  | vaultPowerWrite (mst : Nat) (v : Word)
  | domainClearDone (d : Nat)
  | assayStart (mst : Nat) (v : Word)
  | assayDone (saveFailed : Bool) (fails : List (Nat × List Nat × Nat))
  | dramRefresh (ch bank : Nat) (busy : Bool)
  | mr4Poll (ch rank : Nat) (x2 ovr : Bool)
  | zqCalibration (ch : Nat)
  | patrolScrub (err syn loc : Nat)
  | dramReadComplete (cls held a err syn loc : Nat)
  | ceInterval
  | caParityAlert (ch a loc : Nat) (persists : Bool)
  | phyLockLoss (ch : Nat)
  | poolEnable (mst p : Nat) (v : Word)
  | poolDisable (mst p : Nat) (v : Word)
  | poolInitDone (p upTo : Nat)
  | poolTake (mst p : Nat)
  | poolHostPut (mst : Nat) (v : Word)
  | poolHostPass (mst : Nat) (v : Word)
  | reclaim (mst : Nat) (v : Word)
  | reclaimDone
  | holdEnd (p k : Nat)
  | fifoFlush (mst f : Nat) (v : Word)
  | fifoPop (mst f : Nat)
  | fifoPush (mst f q : Nat) (v : Word)
  | hostFifoClose (mst f : Nat) (v : Word)
  | fifoDiscard (mst f : Nat) (v : Word)
  | bar0StageWrite (off size : Nat) (data : BitVec 64)
  | bar0HighRead (off size : Nat)
  | bar4Read (off size : Nat)
  | bar4Write (off size : Nat) (data : BitVec 64)
  | hostAbiWrite (mst : Nat) (v : Word)
  | ringEnable (mst ring : Nat) (cq : Bool) (v : Word)
  | sqDoorbell (n size : Nat) (data : BitVec 64)
  | cqDoorbell (n size : Nat) (data : BitVec 64)
  | adminSqDoorbell (size : Nat) (data : BitVec 64)
  | adminCqDoorbell (size : Nat) (data : BitVec 64)
  | sqEntryFetch (ring : Nat) (ws : List Word) (mark : BitVec 8)
  | message (n : Nat)
  | dataIn (n : Nat) (data : List Word)
  | dataOut (n : Nat)
  | dataTransferDone (n : Nat)
  | adminNop
  | adminChanCmd
  | dmaStart (mst k : Nat) (v : Option Word)
  | dmaDescriptorDone (k : Nat) (data : List Word)
  | dmaAbort (mst k : Nat) (arrived : List Word) (missing : Nat)
  | dmaResume (mst k : Nat)
  | dmaClear (mst : Nat)
  | busError (reason : Nat) (arrived : List (Nat × List Word))
  | serviceWrite (mst : Nat) (v : Word)
  | hostPortReset (kind speed width : Nat)
  | msixEnable (enable maskAll : Bool)
  | msixUnmask (vec : Nat) (entry : BitVec 128)
  | driveEnable (mst d : Nat)
  | driveDisable (mst d : Nat)
  | driveLinkUp (d speed width : Nat)
  | driveLinkRetry (d : Nat)
  | driveInitDone (d reason blocks maxXfer : Nat) (is4k : Bool)
  | driveInitTimeout (d : Nat)
  | driveCommandTimeout (d : Nat)
  | driveLinkDown (d : Nat)
  | nvmeCompletion (d slot sct sc : Nat) (data : List (BitVec 8))
  | driveMemoryAccess (d : Nat) (write : Bool) (addr : Nat) (bytes : List (BitVec 8))
  | mbxPost (mst m : Nat) (side : Bool) (msg : Word)
  | mbxRecv (mst m : Nat) (side : Bool)
  | mbxAck (mst m : Nat) (side : Bool) (code : BitVec 16)
  | sideReset (mst m : Nat) (side : Bool)
  | mbxTimeout (m : Nat) (side : Bool)
  | tellerWrite (mst m : Nat) (v : Word)
  | groupCtrlWrite (mst g : Nat) (v : Word)
  | holdoffExpiry (g : Nat)
  | fabEnable (mst : Nat) (v : Word)
  | chainLinkEnable (mst k : Nat) (v : Word)
  | chainLaneLock (k : Nat)
  | chainTrainTimeout (k : Nat)
  | chainRetrainTimer (k : Nat)
  | helloTimer (k : Nat)
  | hello (k ident ver dom : Nat)
  | keepalive (k : Nat)
  | keepaliveTimeout (k : Nat)
  | chainLockLoss (k : Nat)
  | depart (k ident : Nat)
  | linkState (k dev mask serial : Nat)
  | linkStateTimer
  | chainFrame (k : Nat) (ws : List Word)
  | stop (k mask : Nat)
  | go (k mask : Nat)
  | stopMaskWrite (mst k : Nat) (v : Word)
  | timeFrame (k : Nat) (msg : TimeMsg)
  | gatewayDatagram (q ver dstPort ipLen : Nat) (ws : List Word)
  | closeTimer
  | close (k src : Nat) (ws : List Word)
  | ready (k src : Nat) (ws : List Word)
  | readyAggregateDeadline
  | commitIssue
  | logAck (k src : Nat) (ws : List Word)
  | logWaitExpiry
  | commit (k src : Nat) (logged : Bool) (ws : List Word)
  | heartbeatTimer
  | heartbeat (k src : Nat) (ws : List Word)
  | heartbeatAnswerTimeout
  | houseTimeout
  | takeover (k src : Nat) (ws : List Word)
  | state (k src : Nat) (ws : List Word)
  | takeoverGatherEnd
  | join (k src : Nat) (ws : List Word)
  | drop (k src : Nat) (ws : List Word)
  | cutOff
  | partitionTimeout
  | gateSwapReq (mst port : Nat) (v : Word)
  | gateCancel (mst port : Nat) (v : Word)
  | gateSwapEffect (port : Nat)
  | gateEntryEnd (port : Nat)
  | egressFrameStart (port : Nat)
  | pfcFrame (q : Nat) (enables : Nat) (quanta : List Nat)
  | uplinkEnable (mst u : Nat) (v : Word)
  | uplinkUp (q : Nat) (fec : Bool)
  | uplinkDown (q : Nat)
  | uplinkRetry (q : Nat)
  | uplinkPacket (q : Nat) (p : UPacket)
  | ingestEnable (mst r : Nat) (v : Word)
  | ingestFlushTimeout (r : Nat)
  | egressStreamPop (c : Nat)
  | graceExpiry (k : Nat) (b : BootInfo)
  | faultAck (mst : Nat) (v : Word)
  | haltNow (mst : Nat) (v : Word)
  | fnHoldWrite (mst : Nat) (v : Word)
  | faultNPulseEnd
  | powerUp (b : BootInfo)
  | pwrOkFall
  | sysRstN (level : Bool) (b : BootInfo)
  | coldReset (mst : Nat) (v : Word) (b : BootInfo)
  | warmReset (mst : Nat) (v : Word) (b : BootInfo)
  | perstN (level : Bool) (b : BootInfo)
  | clusterSleep (k : Nat)
  | powerDown
  | pwrfail
  | pwrfailRise
  | tailRecordDone (ok : Bool)
  | testEn (level : Bool) (b : BootInfo)
  | refclkStopped (clk : Nat)
  | refclkRange (clk : Nat) (ppm : Int)
  | refclkGood (clk : Nat) (ppm : Int)
  | xtal32Stopped
  | xtal32Good
  | mgmtRead (a n : Nat)
  | mgmtWrite (a : Nat) (v : Word)
  | trstN (level : Bool) (b : BootInfo)
  | bypass
  | idcode
  | samplePreload
  | extest
  | extestPulse
  | extestTrain
  | clamp
  | highz
  | vbatLoss
  | csiClockLaneActive (p : Nat)
  | d3hot (enter : Bool)
  | ingestDisable (mst r : Nat) (v : Word)
  | pfcPauseEnd (port cls : Nat)
  | shaperCredit (port cls : Nat)
  | ledgerCommandDone
  | setdasaEntdaa (addr : Nat)
  | uplinkReferenceLoss
  deriving DecidableEq, Repr

end Sys2Proof
end

