-- ==== Sys2Proof/Decode.lean ====
section
/-!
DEFINITION. Decode.lean: the command that a word spells by the opcode table's bits. The table gives bits to no row: the
commands are events and accesses, and what the spec encodes (Dolry words, R84) reaches the block as the operands of
the commands.
-/

namespace Sys2Proof

/-- No row of the table has bits, so no word spells a command. -/
def decodeTableWord (_ _ : Nat) : Option Instr := none

end Sys2Proof
end

