-- ==== Sys2Proof/Config.lean ====
section
/-!
DEFINITION. Config.lean: what one device or one moment fixes and the spec does not: the free values, the fuses, and the
real-valued curves of external standards. Each is an opaque constant with no body, so nothing can be proved of its value.
-/

namespace Sys2Proof.Config

/-- The n-th free value: a value the spec leaves open although the machine goes on. A use takes the number from
`Dev.freeCtr` and advances it. -/
opaque freeValue : Nat → Word

/-- The value a register's fields marked "fuse" read (R22), by word address. -/
opaque fuse : Nat → Word

/-- The entry k of the linearisation table for PQ, by WALL_PEAK (R403; SMPTE ST 2084). -/
opaque pqLinear : Nat → Nat → Nat

/-- The entry k of the linearisation table for HLG (R404; BT.2100). -/
opaque hlgLinear : Nat → Nat

/-- The OOTF of BT.2100 on one component, by WALL_PEAK, Ys and the component, to the accuracy R404 asks. -/
opaque hlgOotf : Nat → Nat → Nat → Nat

/-- The point P[k] of the output tables for PQ (by WALL_PEAK) and for HLG (R410). -/
opaque outPq : Nat → Nat → Nat
opaque outHlg : Nat → Nat

/-- R′G′B′ of a sample whose MATRIX code the spec gives no conversion for (R403), by the code and the three components. -/
opaque openMatrix : Nat → Nat → Nat → Nat → Nat × Nat × Nat

/-- The fraction bits of the 18-bit intermediates between the two filter passes of R343. -/
opaque axisFrac : Nat

/-- The size in bytes of the SPI NOR of the reset state, as its SFDP table reports it (R440). -/
opaque flashSize : Nat

/-- What a level of a standard allows (R285, R306; H.264, H.265 and AV1): the largest picture in luma samples, the largest rate
in bit/s and buffer in bits by standard, profile, level and tier, and the most tile columns and rows. -/
opaque levelPicture : Nat → Nat → Nat
opaque levelRate : Nat → Nat → Nat → Nat → Nat
opaque levelBuffer : Nat → Nat → Nat → Nat → Nat
opaque levelTiles : Nat → Nat → Nat × Nat

/-- The rational that firmware holds for 2^(−(q − 12) ÷ 6) (R308). -/
opaque quantK : Int → Rat

end Sys2Proof.Config
end

