-- ==== Sys2Proof/Machine/Registers.lean ====
section
/-!
DEFINITION. Machine/Registers.lean: the register space, register by register, as the tables at the end of each chapter of
spec/ lay it out: every register with its word address, its array dimensions, and every field with its bits, access
code (R14) and reset value (R22). An address in no row of the tables reads zero and ignores writes (R21).

An `RF` names one field of one register; `<REGISTER>_<FIELD>` below is that field (of the register of the given index).
-/

namespace Sys2Proof.Machine

/-- Field access codes (R14). -/
inductive Acc | rw | ro | wo | w1c | rwl | rc
  deriving DecidableEq, Repr

/-- One field of a register: bits [hi:lo], access code, and the reset value where the table gives a plain number. -/
structure FieldDef where
  hi : Nat
  lo : Nat
  acc : Acc
  reset : Nat
  deriving DecidableEq, Repr

/-- One register, or one array of registers: `dims` lists (count, stride in words), outermost first. -/
structure RegDef where
  name : String
  base : Nat
  dims : List (Nat × Nat)
  fields : List FieldDef
  deriving DecidableEq, Repr

/-- A field of one register: its word address and its bits [hi:lo]. -/
structure RF where
  a : Nat
  hi : Nat
  lo : Nat
  deriving DecidableEq, Repr


/-! ### 00_scope.md -/

/-- DEV_IDENT: Device identity (00, by R22). -/
def DEV_IDENT_addr : Nat := 0x000000
def DEV_IDENT_VENDOR_CODE : RF := ⟨DEV_IDENT_addr, 71, 56⟩
def DEV_IDENT_PART_CODE : RF := ⟨DEV_IDENT_addr, 55, 40⟩
def DEV_IDENT_SILICON_STEP : RF := ⟨DEV_IDENT_addr, 39, 32⟩
def DEV_IDENT_FAMILY_CODE : RF := ⟨DEV_IDENT_addr, 31, 24⟩
def DEV_IDENT_PACKAGE_CODE : RF := ⟨DEV_IDENT_addr, 23, 16⟩

/-! ### 01_picture_path.md -/

/-- GLOBAL_CAPS: Capacity summary (01, by R47). -/
def GLOBAL_CAPS_addr : Nat := 0x000001
def GLOBAL_CAPS_CHANNELS : RF := ⟨GLOBAL_CAPS_addr, 71, 60⟩
def GLOBAL_CAPS_LIVE_CHANNELS_MAX : RF := ⟨GLOBAL_CAPS_addr, 59, 52⟩
def GLOBAL_CAPS_CLERK_CLUSTERS : RF := ⟨GLOBAL_CAPS_addr, 51, 48⟩
def GLOBAL_CAPS_ENTROPY_ENGINES : RF := ⟨GLOBAL_CAPS_addr, 47, 40⟩
def GLOBAL_CAPS_RECON_PIPES : RF := ⟨GLOBAL_CAPS_addr, 39, 36⟩
def GLOBAL_CAPS_SEARCH_ENGINES : RF := ⟨GLOBAL_CAPS_addr, 35, 32⟩
def GLOBAL_CAPS_SCALER_ROTATORS : RF := ⟨GLOBAL_CAPS_addr, 31, 28⟩
def GLOBAL_CAPS_DRAM_CHANNELS : RF := ⟨GLOBAL_CAPS_addr, 27, 24⟩
def GLOBAL_CAPS_VAULT_BANKS : RF := ⟨GLOBAL_CAPS_addr, 23, 16⟩
def GLOBAL_CAPS_LAMP_PORTS : RF := ⟨GLOBAL_CAPS_addr, 15, 8⟩
def GLOBAL_CAPS_CHAIN_LINKS : RF := ⟨GLOBAL_CAPS_addr, 7, 4⟩
def GLOBAL_CAPS_UPLINKS : RF := ⟨GLOBAL_CAPS_addr, 3, 0⟩

/-! ### 02_pace_and_supply.md -/

/-- PACE_NOW: Present pace (02, by R60). -/
def PACE_NOW_addr : Nat := 0x010000
def PACE_NOW_PACE_INDEX : RF := ⟨PACE_NOW_addr, 71, 60⟩
def PACE_NOW_PACE_RAW : RF := ⟨PACE_NOW_addr, 59, 48⟩
def PACE_NOW_SLOW_MONITOR : RF := ⟨PACE_NOW_addr, 47, 44⟩
def PACE_NOW_UPDATE_COUNT : RF := ⟨PACE_NOW_addr, 39, 8⟩
def PACE_NOW_VALID : RF := ⟨PACE_NOW_addr, 0, 0⟩
/-- PACE_LOW_MARK: Lowest pace since last read (02, by R60). -/
def PACE_LOW_MARK_addr : Nat := 0x010001
def PACE_LOW_MARK_LOW_MARK : RF := ⟨PACE_LOW_MARK_addr, 71, 60⟩
def PACE_LOW_MARK_LOW_MONITOR : RF := ⟨PACE_LOW_MARK_addr, 59, 56⟩
def PACE_LOW_MARK_LOW_VALID : RF := ⟨PACE_LOW_MARK_addr, 0, 0⟩
/-- PACE_WORK: Nominal time (02, by R60). -/
def PACE_WORK_addr : Nat := 0x010002
def PACE_WORK_NOMINAL_NS : RF := ⟨PACE_WORK_addr, 71, 0⟩
/-- PACE_MON: Monitor m, m = 0–15 (02, by R60). -/
def PACE_MON_addr (m : Nat) : Nat := 0x010010 + m
def PACE_MON_MON_PACE (m : Nat) : RF := ⟨(PACE_MON_addr m), 71, 60⟩
def PACE_MON_MON_TEMP (m : Nat) : RF := ⟨(PACE_MON_addr m), 59, 48⟩
def PACE_MON_MON_EXCLUDED (m : Nat) : RF := ⟨(PACE_MON_addr m), 1, 1⟩
def PACE_MON_MON_VALID (m : Nat) : RF := ⟨(PACE_MON_addr m), 0, 0⟩
/-- GOV_CTRL: Governor control (02, by R73). -/
def GOV_CTRL_addr : Nat := 0x010020
def GOV_CTRL_MODE : RF := ⟨GOV_CTRL_addr, 71, 70⟩
def GOV_CTRL_PACE_TARGET : RF := ⟨GOV_CTRL_addr, 69, 58⟩
def GOV_CTRL_POWER_LIMIT : RF := ⟨GOV_CTRL_addr, 57, 48⟩
def GOV_CTRL_VCORE_FIXED : RF := ⟨GOV_CTRL_addr, 47, 38⟩
/-- GOV_STATUS: Governor status (02, by R73). -/
def GOV_STATUS_addr : Nat := 0x010021
def GOV_STATUS_VCORE_SET : RF := ⟨GOV_STATUS_addr, 71, 62⟩
def GOV_STATUS_VCORE_MEAS : RF := ⟨GOV_STATUS_addr, 61, 52⟩
def GOV_STATUS_IVCORE : RF := ⟨GOV_STATUS_addr, 51, 40⟩
def GOV_STATUS_DEVICE_POWER : RF := ⟨GOV_STATUS_addr, 39, 30⟩
def GOV_STATUS_LIMIT_POWER : RF := ⟨GOV_STATUS_addr, 29, 29⟩
def GOV_STATUS_LIMIT_THERMAL : RF := ⟨GOV_STATUS_addr, 28, 28⟩
def GOV_STATUS_LIMIT_CEILING : RF := ⟨GOV_STATUS_addr, 27, 27⟩
def GOV_STATUS_LIMIT_FLOOR : RF := ⟨GOV_STATUS_addr, 26, 26⟩
def GOV_STATUS_AVS_FAULT : RF := ⟨GOV_STATUS_addr, 25, 25⟩
/-- THERM_CTRL: Thermal thresholds (02, by R75). -/
def THERM_CTRL_addr : Nat := 0x010022
def THERM_CTRL_T_THROTTLE : RF := ⟨THERM_CTRL_addr, 71, 60⟩
def THERM_CTRL_T_CRIT : RF := ⟨THERM_CTRL_addr, 59, 48⟩
def THERM_CTRL_T_COLD_WARN : RF := ⟨THERM_CTRL_addr, 47, 36⟩
/-- TRIM_FACTORY: Factory trims (02, by R77). -/
def TRIM_FACTORY_addr : Nat := 0x010024
def TRIM_FACTORY_V1024_85 : RF := ⟨TRIM_FACTORY_addr, 71, 62⟩
def TRIM_FACTORY_V720_125 : RF := ⟨TRIM_FACTORY_addr, 61, 52⟩
def TRIM_FACTORY_TRIM_REV : RF := ⟨TRIM_FACTORY_addr, 51, 44⟩
/-- TRIM_USER: User trims (02, by R77). -/
def TRIM_USER_addr : Nat := 0x010025
def TRIM_USER_LOCK : RF := ⟨TRIM_USER_addr, 71, 71⟩
def TRIM_USER_PACE_DERATE : RF := ⟨TRIM_USER_addr, 70, 64⟩
def TRIM_USER_VCORE_OFFSET : RF := ⟨TRIM_USER_addr, 63, 58⟩
def TRIM_USER_TEMP_OFFSET : RF := ⟨TRIM_USER_addr, 57, 50⟩
/-- PACE_REF_RATIO: Pace against factory model (02, by R77). -/
def PACE_REF_RATIO_addr : Nat := 0x010003
def PACE_REF_RATIO_REF_RATIO : RF := ⟨PACE_REF_RATIO_addr, 71, 60⟩
/-- PACE_EVENTS: Pace, supply and thermal events (02, by R77). -/
def PACE_EVENTS_addr : Nat := 0x010023
def PACE_EVENTS_PACE_LOW : RF := ⟨PACE_EVENTS_addr, 7, 7⟩
def PACE_EVENTS_TARGET_MISS : RF := ⟨PACE_EVENTS_addr, 6, 6⟩
def PACE_EVENTS_POWER_CLAMP : RF := ⟨PACE_EVENTS_addr, 5, 5⟩
def PACE_EVENTS_THERM_THROTTLE : RF := ⟨PACE_EVENTS_addr, 4, 4⟩
def PACE_EVENTS_THERM_CRIT : RF := ⟨PACE_EVENTS_addr, 3, 3⟩
def PACE_EVENTS_COLD : RF := ⟨PACE_EVENTS_addr, 2, 2⟩
def PACE_EVENTS_AVS_FAIL : RF := ⟨PACE_EVENTS_addr, 1, 1⟩
def PACE_EVENTS_MON_FAIL : RF := ⟨PACE_EVENTS_addr, 0, 0⟩

/-! ### 03_dolry_machine.md -/

/-- DOLRY_SPACE: Program space base (03, by R114). -/
def DOLRY_SPACE_addr : Nat := 0x02F000
def DOLRY_SPACE_PROG_BASE : RF := ⟨DOLRY_SPACE_addr, 71, 36⟩
def DOLRY_SPACE_LOCK : RF := ⟨DOLRY_SPACE_addr, 35, 35⟩
/-- DOLRY_DTRAP: Last double trap (03, by R114). -/
def DOLRY_DTRAP_addr : Nat := 0x02F001
def DOLRY_DTRAP_VALID : RF := ⟨DOLRY_DTRAP_addr, 71, 71⟩
def DOLRY_DTRAP_CHANNEL : RF := ⟨DOLRY_DTRAP_addr, 70, 62⟩
def DOLRY_DTRAP_CLERK : RF := ⟨DOLRY_DTRAP_addr, 61, 57⟩
def DOLRY_DTRAP_SLOT : RF := ⟨DOLRY_DTRAP_addr, 56, 53⟩
def DOLRY_DTRAP_FIRST_CAUSE : RF := ⟨DOLRY_DTRAP_addr, 52, 47⟩
def DOLRY_DTRAP_SECOND_CAUSE : RF := ⟨DOLRY_DTRAP_addr, 46, 41⟩
def DOLRY_DTRAP_FAULT_PC : RF := ⟨DOLRY_DTRAP_addr, 40, 17⟩
def DOLRY_DTRAP_CLASS : RF := ⟨DOLRY_DTRAP_addr, 16, 15⟩
/-- DOLRY_TRAP_CNT: Trap count for cause c, c = 0–63 (03, by R114). -/
def DOLRY_TRAP_CNT_addr (c : Nat) : Nat := 0x02F040 + c
def DOLRY_TRAP_CNT_TRAPS (c : Nat) : RF := ⟨(DOLRY_TRAP_CNT_addr c), 31, 0⟩

/-! ### 05_channels_and_clerks.md -/

/-- CHAN_CTRL: Channel control (05, by R186). -/
def CHAN_CTRL_addr (n : Nat) : Nat := 0x020000 + 64 * n
def CHAN_CTRL_CLASS (n : Nat) : RF := ⟨(CHAN_CTRL_addr n), 71, 70⟩
def CHAN_CTRL_HOME_VALID (n : Nat) : RF := ⟨(CHAN_CTRL_addr n), 69, 69⟩
def CHAN_CTRL_HOME_CLERK (n : Nat) : RF := ⟨(CHAN_CTRL_addr n), 68, 64⟩
def CHAN_CTRL_HOME_SLOT (n : Nat) : RF := ⟨(CHAN_CTRL_addr n), 63, 60⟩
def CHAN_CTRL_SHED_RANK (n : Nat) : RF := ⟨(CHAN_CTRL_addr n), 59, 56⟩
/-- CHAN_CMD: Channel command (05, by R186). -/
def CHAN_CMD_addr (n : Nat) : Nat := 0x020001 + 64 * n
def CHAN_CMD_CMD (n : Nat) : RF := ⟨(CHAN_CMD_addr n), 71, 68⟩
def CHAN_CMD_RECORD (n : Nat) : RF := ⟨(CHAN_CMD_addr n), 35, 0⟩
/-- CHAN_STATUS: Channel status (05, by R186). -/
def CHAN_STATUS_addr (n : Nat) : Nat := 0x020002 + 64 * n
def CHAN_STATUS_STATE (n : Nat) : RF := ⟨(CHAN_STATUS_addr n), 71, 69⟩
def CHAN_STATUS_SHED (n : Nat) : RF := ⟨(CHAN_STATUS_addr n), 68, 68⟩
def CHAN_STATUS_ADMITTED (n : Nat) : RF := ⟨(CHAN_STATUS_addr n), 67, 67⟩
def CHAN_STATUS_LIVE_GUARANTEE (n : Nat) : RF := ⟨(CHAN_STATUS_addr n), 66, 66⟩
def CHAN_STATUS_SUSPEND_REASON (n : Nat) : RF := ⟨(CHAN_STATUS_addr n), 65, 62⟩
def CHAN_STATUS_CMD_BUSY (n : Nat) : RF := ⟨(CHAN_STATUS_addr n), 61, 61⟩
def CHAN_STATUS_CMD_DROP (n : Nat) : RF := ⟨(CHAN_STATUS_addr n), 60, 60⟩
def CHAN_STATUS_MAP_CONFLICT (n : Nat) : RF := ⟨(CHAN_STATUS_addr n), 59, 59⟩
def CHAN_STATUS_SWAP_PENDING (n : Nat) : RF := ⟨(CHAN_STATUS_addr n), 58, 58⟩
def CHAN_STATUS_CMD_RESULT (n : Nat) : RF := ⟨(CHAN_STATUS_addr n), 57, 50⟩
def CHAN_STATUS_ADMIT_REASON (n : Nat) : RF := ⟨(CHAN_STATUS_addr n), 49, 46⟩
def CHAN_STATUS_ADMIT_RESOURCE (n : Nat) : RF := ⟨(CHAN_STATUS_addr n), 45, 42⟩
def CHAN_STATUS_IMAGE_ID (n : Nat) : RF := ⟨(CHAN_STATUS_addr n), 31, 0⟩
/-- CHAN_WINDOW: Code window (05, by R186). -/
def CHAN_WINDOW_addr (n : Nat) : Nat := 0x020003 + 64 * n
def CHAN_WINDOW_WIN_BASE (n : Nat) : RF := ⟨(CHAN_WINDOW_addr n), 71, 48⟩
def CHAN_WINDOW_WIN_LIMIT (n : Nat) : RF := ⟨(CHAN_WINDOW_addr n), 47, 24⟩
def CHAN_WINDOW_ENTRY (n : Nat) : RF := ⟨(CHAN_WINDOW_addr n), 23, 0⟩
/-- CHAN_GATES: Gate list (05, by R186). -/
def CHAN_GATES_addr (n : Nat) : Nat := 0x020004 + 64 * n
def CHAN_GATES_GATE_LIST (n : Nat) : RF := ⟨(CHAN_GATES_addr n), 71, 36⟩
/-- CHAN_DEMAND0: Admitted demand (05, by R186). -/
def CHAN_DEMAND0_addr (n : Nat) : Nat := 0x020005 + 64 * n
def CHAN_DEMAND0_DEMAND (n : Nat) : RF := ⟨(CHAN_DEMAND0_addr n), 71, 0⟩
/-- CHAN_DEMAND1: Admitted demand (05, by R186). -/
def CHAN_DEMAND1_addr (n : Nat) : Nat := 0x020006 + 64 * n
def CHAN_DEMAND1_DEMAND (n : Nat) : RF := ⟨(CHAN_DEMAND1_addr n), 71, 0⟩
/-- CHAN_SWAP_STATUS: Last exchange (05, by R186). -/
def CHAN_SWAP_STATUS_addr (n : Nat) : Nat := 0x020007 + 64 * n
def CHAN_SWAP_STATUS_RESULT (n : Nat) : RF := ⟨(CHAN_SWAP_STATUS_addr n), 71, 64⟩
def CHAN_SWAP_STATUS_OLD_PC (n : Nat) : RF := ⟨(CHAN_SWAP_STATUS_addr n), 63, 40⟩
def CHAN_SWAP_STATUS_HOW (n : Nat) : RF := ⟨(CHAN_SWAP_STATUS_addr n), 39, 36⟩
def CHAN_SWAP_STATUS_PROGRESS (n : Nat) : RF := ⟨(CHAN_SWAP_STATUS_addr n), 35, 0⟩
/-- CHAN_DEMAND2: Admitted demand routing (05, by R186). -/
def CHAN_DEMAND2_addr (n : Nat) : Nat := 0x020008 + 64 * n
def CHAN_DEMAND2_DEMAND (n : Nat) : RF := ⟨(CHAN_DEMAND2_addr n), 71, 0⟩
/-- CHAN_TIMER_CTRL: Timer control (05, by R186). -/
def CHAN_TIMER_CTRL_addr (n : Nat) : Nat := 0x020020 + 64 * n
def CHAN_TIMER_CTRL_TRAP_EN (n k : Nat) : RF := ⟨CHAN_TIMER_CTRL_addr n, 18 * k + 17, 18 * k + 17⟩
def CHAN_TIMER_CTRL_EXP (n k : Nat) : RF := ⟨CHAN_TIMER_CTRL_addr n, 18 * k + 16, 18 * k + 16⟩
def CHAN_TIMER_CTRL_PERIOD (n k : Nat) : RF := ⟨CHAN_TIMER_CTRL_addr n, 18 * k + 15, 18 * k⟩
/-- CHAN_EVENT: Event latch (05, by R186). -/
def CHAN_EVENT_addr (n : Nat) : Nat := 0x020021 + 64 * n
def CHAN_EVENT_LATCH (n : Nat) : RF := ⟨(CHAN_EVENT_addr n), 7, 0⟩
/-- CHAN_USAGE: Issue time (05, by R186). -/
def CHAN_USAGE_addr (n : Nat) : Nat := 0x020022 + 64 * n
def CHAN_USAGE_ISSUE_NS (n : Nat) : RF := ⟨(CHAN_USAGE_addr n), 71, 0⟩
/-- CHAN_COUNTS: Channel counters (05, by R186). -/
def CHAN_COUNTS_addr (n : Nat) : Nat := 0x020023 + 64 * n
def CHAN_COUNTS_REPEATS (n : Nat) : RF := ⟨(CHAN_COUNTS_addr n), 71, 48⟩
def CHAN_COUNTS_INGEST_DROPS (n : Nat) : RF := ⟨(CHAN_COUNTS_addr n), 47, 24⟩
def CHAN_COUNTS_LIVE_OVERRUNS (n : Nat) : RF := ⟨(CHAN_COUNTS_addr n), 23, 0⟩
/-- CHAN_SCRATCH: Scratch, j = 0–15 (05, by R186). -/
def CHAN_SCRATCH_addr (n : Nat) (j : Nat) : Nat := 0x020030 + 64 * n + j
def CHAN_SCRATCH_DATA (n : Nat) (j : Nat) : RF := ⟨(CHAN_SCRATCH_addr n j), 71, 0⟩
/-- CLERK_LOAD: Clerk load, c = 0–31 (05, by R186). -/
def CLERK_LOAD_addr (c : Nat) : Nat := 0x028000 + c
def CLERK_LOAD_LOAD (c : Nat) : RF := ⟨(CLERK_LOAD_addr c), 71, 62⟩
def CLERK_LOAD_LIVE_LOAD (c : Nat) : RF := ⟨(CLERK_LOAD_addr c), 61, 52⟩
def CLERK_LOAD_LOADED (c : Nat) : RF := ⟨(CLERK_LOAD_addr c), 51, 47⟩
def CLERK_LOAD_LIVE_COUNT (c : Nat) : RF := ⟨(CLERK_LOAD_addr c), 46, 45⟩
def CLERK_LOAD_LIVE_CLERK_SUM (c : Nat) : RF := ⟨(CLERK_LOAD_addr c), 44, 35⟩
def CLERK_LOAD_CLERK_SUM (c : Nat) : RF := ⟨(CLERK_LOAD_addr c), 34, 23⟩
def CLERK_LOAD_SLEEPING (c : Nat) : RF := ⟨(CLERK_LOAD_addr c), 22, 22⟩
/-- LOAD_CTRL: Load and admission control (05, by R186). -/
def LOAD_CTRL_addr : Nat := 0x028040
def LOAD_CTRL_LOAD_HIGH : RF := ⟨LOAD_CTRL_addr, 71, 62⟩
def LOAD_CTRL_LOAD_LOW : RF := ⟨LOAD_CTRL_addr, 61, 52⟩
def LOAD_CTRL_HIGH_WINDOWS : RF := ⟨LOAD_CTRL_addr, 51, 48⟩
def LOAD_CTRL_LOW_WINDOWS : RF := ⟨LOAD_CTRL_addr, 47, 44⟩
def LOAD_CTRL_ADMIT_PACE : RF := ⟨LOAD_CTRL_addr, 43, 32⟩
def LOAD_CTRL_SWAP_LIMIT : RF := ⟨LOAD_CTRL_addr, 31, 16⟩
def LOAD_CTRL_SHED_ENABLE : RF := ⟨LOAD_CTRL_addr, 15, 15⟩
/-- LOAD_EVENTS: Load and admission events (05, by R186). -/
def LOAD_EVENTS_addr : Nat := 0x028041
def LOAD_EVENTS_LOAD_OVER : RF := ⟨LOAD_EVENTS_addr, 3, 3⟩
def LOAD_EVENTS_LIVE_SUSPENDED : RF := ⟨LOAD_EVENTS_addr, 2, 2⟩
def LOAD_EVENTS_ADMIT_REFUSED : RF := ⟨LOAD_EVENTS_addr, 1, 1⟩
def LOAD_EVENTS_LIVE_ONLY_OVER : RF := ⟨LOAD_EVENTS_addr, 0, 0⟩
/-- SHED_MAP: Shed channels, i = 0–7 (05, by R186). -/
def SHED_MAP_addr (i : Nat) : Nat := 0x028048 + i
def SHED_MAP_SHED (i : Nat) : RF := ⟨(SHED_MAP_addr i), 63, 0⟩
/-- SCHED_CTRL: Schedule table control (05, by R186). -/
def SCHED_CTRL_addr : Nat := 0x028050
def SCHED_CTRL_TABLE_BASE : RF := ⟨SCHED_CTRL_addr, 71, 36⟩
def SCHED_CTRL_ENTRIES : RF := ⟨SCHED_CTRL_addr, 35, 23⟩
def SCHED_CTRL_ENABLE : RF := ⟨SCHED_CTRL_addr, 22, 22⟩
def SCHED_CTRL_LATE_LIMIT : RF := ⟨SCHED_CTRL_addr, 21, 6⟩
/-- SCHED_STATUS: Schedule table status (05, by R186). -/
def SCHED_STATUS_addr : Nat := 0x028051
def SCHED_STATUS_NEXT_INDEX : RF := ⟨SCHED_STATUS_addr, 71, 60⟩
def SCHED_STATUS_EXHAUSTED : RF := ⟨SCHED_STATUS_addr, 59, 59⟩
def SCHED_STATUS_LATE_COUNT : RF := ⟨SCHED_STATUS_addr, 58, 47⟩

/-! ### 06_microcode.md -/

/-- UC_IMAGE: Loaded microcode (06, by R206). -/
def UC_IMAGE_addr : Nat := 0x030000
def UC_IMAGE_BASE_ID : RF := ⟨UC_IMAGE_addr, 71, 40⟩
def UC_IMAGE_TARGET_STEP : RF := ⟨UC_IMAGE_addr, 39, 32⟩
def UC_IMAGE_PATCH_LEVEL : RF := ⟨UC_IMAGE_addr, 31, 22⟩
def UC_IMAGE_PATCHES : RF := ⟨UC_IMAGE_addr, 21, 17⟩
def UC_IMAGE_KEY_GEN : RF := ⟨UC_IMAGE_addr, 16, 13⟩
def UC_IMAGE_PATCH_FLOOR : RF := ⟨UC_IMAGE_addr, 12, 3⟩
/-- UC_STATUS: Load status (06, by R206). -/
def UC_STATUS_addr : Nat := 0x030001
def UC_STATUS_LOADED : RF := ⟨UC_STATUS_addr, 71, 71⟩
def UC_STATUS_BASE_RESULT : RF := ⟨UC_STATUS_addr, 70, 67⟩
def UC_STATUS_PATCH_RESULT : RF := ⟨UC_STATUS_addr, 66, 63⟩
def UC_STATUS_PATCH_INDEX : RF := ⟨UC_STATUS_addr, 62, 59⟩
/-- UC_CTRL: Load lock (06, by R206). -/
def UC_CTRL_addr : Nat := 0x030002
def UC_CTRL_LOCK : RF := ⟨UC_CTRL_addr, 71, 71⟩
/-- UC_LOAD_ADDR: Load address (06, by R206). -/
def UC_LOAD_ADDR_addr : Nat := 0x030004
def UC_LOAD_ADDR_ADDR : RF := ⟨UC_LOAD_ADDR_addr, 71, 59⟩
def UC_LOAD_ADDR_CLERK_MASK : RF := ⟨UC_LOAD_ADDR_addr, 58, 27⟩
/-- UC_LOAD_LO: Load data, low (06, by R206). -/
def UC_LOAD_LO_addr : Nat := 0x030005
def UC_LOAD_LO_DATA_LO : RF := ⟨UC_LOAD_LO_addr, 71, 0⟩
/-- UC_LOAD_HI: Load data, high, and commit (06, by R206). -/
def UC_LOAD_HI_addr : Nat := 0x030006
def UC_LOAD_HI_DATA_HI : RF := ⟨UC_LOAD_HI_addr, 71, 0⟩
/-- UC_CLERK: Clerk microcode status, c = 0–31 (06, by R206). -/
def UC_CLERK_addr (c : Nat) : Nat := 0x030100 + c
def UC_CLERK_RELOADS (c : Nat) : RF := ⟨(UC_CLERK_addr c), 71, 56⟩
def UC_CLERK_FAILED (c : Nat) : RF := ⟨(UC_CLERK_addr c), 55, 55⟩
def UC_CLERK_FAIL_UPC (c : Nat) : RF := ⟨(UC_CLERK_addr c), 54, 42⟩
def UC_CLERK_UFAULT (c : Nat) : RF := ⟨(UC_CLERK_addr c), 41, 41⟩
def UC_CLERK_UFAULT_UPC (c : Nat) : RF := ⟨(UC_CLERK_addr c), 40, 28⟩
def UC_CLERK_MICROTRAPS (c : Nat) : RF := ⟨(UC_CLERK_addr c), 27, 0⟩

/-! ### 07_decode_standards.md -/

/-- DEC_CAPS: Decode capabilities (07, by R239). -/
def DEC_CAPS_addr : Nat := 0x040000
def DEC_CAPS_STANDARDS : RF := ⟨DEC_CAPS_addr, 71, 68⟩
def DEC_CAPS_AVC_LEVEL : RF := ⟨DEC_CAPS_addr, 67, 60⟩
def DEC_CAPS_HEVC_LEVEL : RF := ⟨DEC_CAPS_addr, 59, 52⟩
def DEC_CAPS_VVC_LEVEL : RF := ⟨DEC_CAPS_addr, 51, 44⟩
def DEC_CAPS_AV1_LEVEL : RF := ⟨DEC_CAPS_addr, 43, 36⟩
def DEC_CAPS_MAX_DEPTH : RF := ⟨DEC_CAPS_addr, 35, 32⟩
def DEC_CAPS_PIPES_PER_CHAN : RF := ⟨DEC_CAPS_addr, 31, 28⟩
def DEC_CAPS_ENGINES_PER_CHAN : RF := ⟨DEC_CAPS_addr, 27, 24⟩
/-- DEC_QUEUES: Queue depths (07, by R239). -/
def DEC_QUEUES_addr : Nat := 0x040001
def DEC_QUEUES_ENT_DEPTH : RF := ⟨DEC_QUEUES_addr, 71, 60⟩
def DEC_QUEUES_ENT_LIVE_DEPTH : RF := ⟨DEC_QUEUES_addr, 59, 48⟩
def DEC_QUEUES_RECON_DEPTH : RF := ⟨DEC_QUEUES_addr, 47, 36⟩
def DEC_QUEUES_RECON_LIVE : RF := ⟨DEC_QUEUES_addr, 35, 24⟩
/-- DEC_STAGE_CTRL: Staging slots (07, by R239). -/
def DEC_STAGE_CTRL_addr : Nat := 0x040002
def DEC_STAGE_CTRL_FIRST_BANK : RF := ⟨DEC_STAGE_CTRL_addr, 71, 64⟩
def DEC_STAGE_CTRL_BANKS : RF := ⟨DEC_STAGE_CTRL_addr, 63, 56⟩
def DEC_STAGE_CTRL_SLOT_BANKS : RF := ⟨DEC_STAGE_CTRL_addr, 55, 52⟩
def DEC_STAGE_CTRL_LIVE_SLOTS : RF := ⟨DEC_STAGE_CTRL_addr, 51, 46⟩
def DEC_STAGE_CTRL_LOCK : RF := ⟨DEC_STAGE_CTRL_addr, 45, 45⟩
/-- ENT_STATUS: Entropy engine e, e = 0–23 (07, by R239). -/
def ENT_STATUS_addr (e : Nat) : Nat := 0x040100 + e
def ENT_STATUS_BUSY (e : Nat) : RF := ⟨(ENT_STATUS_addr e), 71, 71⟩
def ENT_STATUS_CHANNEL (e : Nat) : RF := ⟨(ENT_STATUS_addr e), 70, 62⟩
def ENT_STATUS_LIVE_ENGINE (e : Nat) : RF := ⟨(ENT_STATUS_addr e), 61, 61⟩
def ENT_STATUS_STANDARD (e : Nat) : RF := ⟨(ENT_STATUS_addr e), 60, 57⟩
def ENT_STATUS_ENCODE (e : Nat) : RF := ⟨(ENT_STATUS_addr e), 56, 56⟩
def ENT_STATUS_KBINS (e : Nat) : RF := ⟨(ENT_STATUS_addr e), 31, 0⟩
/-- PIPE_STATUS: Reconstruction pipe p, p = 0–7 (07, by R239). -/
def PIPE_STATUS_addr (p : Nat) : Nat := 0x040200 + p
def PIPE_STATUS_BUSY (p : Nat) : RF := ⟨(PIPE_STATUS_addr p), 71, 71⟩
def PIPE_STATUS_CHANNEL (p : Nat) : RF := ⟨(PIPE_STATUS_addr p), 70, 62⟩
def PIPE_STATUS_LIVE (p : Nat) : RF := ⟨(PIPE_STATUS_addr p), 61, 61⟩
def PIPE_STATUS_ENCODE (p : Nat) : RF := ⟨(PIPE_STATUS_addr p), 60, 60⟩
def PIPE_STATUS_SEGMENTS (p : Nat) : RF := ⟨(PIPE_STATUS_addr p), 55, 28⟩
def PIPE_STATUS_PREEMPTS (p : Nat) : RF := ⟨(PIPE_STATUS_addr p), 27, 0⟩
/-- DEC_CHAN_PROGRESS: Decode progress (07, by R239). -/
def DEC_CHAN_PROGRESS_addr (n : Nat) : Nat := 0x041000 + 4 * n
def DEC_CHAN_PROGRESS_PIC_TAG (n : Nat) : RF := ⟨(DEC_CHAN_PROGRESS_addr n), 71, 40⟩
def DEC_CHAN_PROGRESS_ROWS_DONE (n : Nat) : RF := ⟨(DEC_CHAN_PROGRESS_addr n), 39, 24⟩
def DEC_CHAN_PROGRESS_ENGINES (n : Nat) : RF := ⟨(DEC_CHAN_PROGRESS_addr n), 23, 20⟩
def DEC_CHAN_PROGRESS_PIPES (n : Nat) : RF := ⟨(DEC_CHAN_PROGRESS_addr n), 19, 16⟩
/-- DEC_CHAN_COUNTS: Decode counters (07, by R239). -/
def DEC_CHAN_COUNTS_addr (n : Nat) : Nat := 0x041001 + 4 * n
def DEC_CHAN_COUNTS_PICTURES (n : Nat) : RF := ⟨(DEC_CHAN_COUNTS_addr n), 71, 40⟩
def DEC_CHAN_COUNTS_SPILLS (n : Nat) : RF := ⟨(DEC_CHAN_COUNTS_addr n), 39, 24⟩
def DEC_CHAN_COUNTS_SKIPPED (n : Nat) : RF := ⟨(DEC_CHAN_COUNTS_addr n), 23, 12⟩
def DEC_CHAN_COUNTS_GRAIN_SKIPS (n : Nat) : RF := ⟨(DEC_CHAN_COUNTS_addr n), 11, 0⟩
/-- DEC_CHAN_WORK: Decode work (07, by R239). -/
def DEC_CHAN_WORK_addr (n : Nat) : Nat := 0x041002 + 4 * n
def DEC_CHAN_WORK_KBINS (n : Nat) : RF := ⟨(DEC_CHAN_WORK_addr n), 71, 36⟩
def DEC_CHAN_WORK_KPIXELS (n : Nat) : RF := ⟨(DEC_CHAN_WORK_addr n), 35, 0⟩

/-! ### 08_damaged_streams.md -/

/-- DEC_ERR_CTRL: Damaged-stream control (08, by R257). -/
def DEC_ERR_CTRL_addr : Nat := 0x040010
def DEC_ERR_CTRL_PIC_TIMEOUT_PB : RF := ⟨DEC_ERR_CTRL_addr, 71, 56⟩
def DEC_ERR_CTRL_PIC_TIMEOUT_LIVE : RF := ⟨DEC_ERR_CTRL_addr, 55, 40⟩
def DEC_ERR_CTRL_SPATIAL_ONLY : RF := ⟨DEC_ERR_CTRL_addr, 39, 39⟩
/-- DEC_ERR_TOTAL: Damaged-stream totals (08, by R257). -/
def DEC_ERR_TOTAL_addr : Nat := 0x040011
def DEC_ERR_TOTAL_CONCEALED_CTBS : RF := ⟨DEC_ERR_TOTAL_addr, 71, 36⟩
def DEC_ERR_TOTAL_DISCARD_KBYTES : RF := ⟨DEC_ERR_TOTAL_addr, 35, 0⟩
/-- DEC_CHAN_ERRORS: Decode error counters (08, by R257). -/
def DEC_CHAN_ERRORS_addr (n : Nat) : Nat := 0x041003 + 4 * n
def DEC_CHAN_ERRORS_HDR_ERRORS (n : Nat) : RF := ⟨(DEC_CHAN_ERRORS_addr n), 71, 56⟩
def DEC_CHAN_ERRORS_UNIT_ERRORS (n : Nat) : RF := ⟨(DEC_CHAN_ERRORS_addr n), 55, 40⟩
def DEC_CHAN_ERRORS_RESYNCS (n : Nat) : RF := ⟨(DEC_CHAN_ERRORS_addr n), 39, 24⟩
def DEC_CHAN_ERRORS_DISCARDS (n : Nat) : RF := ⟨(DEC_CHAN_ERRORS_addr n), 23, 12⟩
def DEC_CHAN_ERRORS_LOSS_GAPS (n : Nat) : RF := ⟨(DEC_CHAN_ERRORS_addr n), 11, 0⟩
/-- DEC_LOG_A: Decode log entry, word A, j = 0–7 (08, by R257). -/
def DEC_LOG_A_addr (n : Nat) (j : Nat) : Nat := 0x042000 + 16 * n + 2 * j
def DEC_LOG_A_VALID (n : Nat) (j : Nat) : RF := ⟨(DEC_LOG_A_addr n j), 71, 71⟩
def DEC_LOG_A_SEQ (n : Nat) (j : Nat) : RF := ⟨(DEC_LOG_A_addr n j), 70, 55⟩
def DEC_LOG_A_ERR_KIND (n : Nat) (j : Nat) : RF := ⟨(DEC_LOG_A_addr n j), 54, 47⟩
def DEC_LOG_A_ACTION (n : Nat) (j : Nat) : RF := ⟨(DEC_LOG_A_addr n j), 46, 44⟩
def DEC_LOG_A_STANDARD (n : Nat) (j : Nat) : RF := ⟨(DEC_LOG_A_addr n j), 43, 40⟩
def DEC_LOG_A_BYTE_POS (n : Nat) (j : Nat) : RF := ⟨(DEC_LOG_A_addr n j), 39, 0⟩
/-- DEC_LOG_B: Decode log entry, word B, j = 0–7 (08, by R257). -/
def DEC_LOG_B_addr (n : Nat) (j : Nat) : Nat := 0x042001 + 16 * n + 2 * j
def DEC_LOG_B_PIC_TAG (n : Nat) (j : Nat) : RF := ⟨(DEC_LOG_B_addr n j), 71, 40⟩
def DEC_LOG_B_ROW (n : Nat) (j : Nat) : RF := ⟨(DEC_LOG_B_addr n j), 39, 24⟩
def DEC_LOG_B_DETAIL (n : Nat) (j : Nat) : RF := ⟨(DEC_LOG_B_addr n j), 23, 8⟩

/-! ### 09_encode.md -/

/-- ENC_CAPS: Encode capabilities (09, by R299). -/
def ENC_CAPS_addr : Nat := 0x044000
def ENC_CAPS_STANDARDS : RF := ⟨ENC_CAPS_addr, 71, 68⟩
def ENC_CAPS_AVC_LEVEL : RF := ⟨ENC_CAPS_addr, 67, 60⟩
def ENC_CAPS_HEVC_LEVEL : RF := ⟨ENC_CAPS_addr, 59, 52⟩
def ENC_CAPS_AV1_LEVEL : RF := ⟨ENC_CAPS_addr, 51, 44⟩
def ENC_CAPS_MAX_DEPTH : RF := ⟨ENC_CAPS_addr, 43, 40⟩
def ENC_CAPS_SEARCH_H : RF := ⟨ENC_CAPS_addr, 39, 28⟩
def ENC_CAPS_SEARCH_V : RF := ⟨ENC_CAPS_addr, 27, 18⟩
def ENC_CAPS_FRAC_MAX : RF := ⟨ENC_CAPS_addr, 17, 16⟩
def ENC_CAPS_SEARCH_PER_CHAN : RF := ⟨ENC_CAPS_addr, 15, 12⟩
/-- ENC_QUEUES: Encode queue depths (09, by R299). -/
def ENC_QUEUES_addr : Nat := 0x044001
def ENC_QUEUES_ENT_ENC_DEPTH : RF := ⟨ENC_QUEUES_addr, 71, 60⟩
def ENC_QUEUES_ENT_ENC_LIVE : RF := ⟨ENC_QUEUES_addr, 59, 48⟩
def ENC_QUEUES_RECON_ENC_DEPTH : RF := ⟨ENC_QUEUES_addr, 47, 36⟩
def ENC_QUEUES_RECON_ENC_LIVE : RF := ⟨ENC_QUEUES_addr, 35, 24⟩
def ENC_QUEUES_SEARCH_DEPTH : RF := ⟨ENC_QUEUES_addr, 23, 12⟩
def ENC_QUEUES_SEARCH_LIVE : RF := ⟨ENC_QUEUES_addr, 11, 0⟩
/-- SEARCH_STATUS: Search engine s, s = 0–3 (09, by R299). -/
def SEARCH_STATUS_addr (s : Nat) : Nat := 0x044100 + s
def SEARCH_STATUS_BUSY (s : Nat) : RF := ⟨(SEARCH_STATUS_addr s), 71, 71⟩
def SEARCH_STATUS_CHANNEL (s : Nat) : RF := ⟨(SEARCH_STATUS_addr s), 70, 62⟩
def SEARCH_STATUS_LIVE (s : Nat) : RF := ⟨(SEARCH_STATUS_addr s), 61, 61⟩
def SEARCH_STATUS_ANALYSIS (s : Nat) : RF := ⟨(SEARCH_STATUS_addr s), 60, 60⟩
def SEARCH_STATUS_BANDS (s : Nat) : RF := ⟨(SEARCH_STATUS_addr s), 55, 28⟩
def SEARCH_STATUS_PREEMPTS (s : Nat) : RF := ⟨(SEARCH_STATUS_addr s), 27, 0⟩
/-- ENC_CHAN_PROGRESS: Encode progress (09, by R299). -/
def ENC_CHAN_PROGRESS_addr (n : Nat) : Nat := 0x045000 + 4 * n
def ENC_CHAN_PROGRESS_ENC_TAG (n : Nat) : RF := ⟨(ENC_CHAN_PROGRESS_addr n), 71, 40⟩
def ENC_CHAN_PROGRESS_ROWS_DONE (n : Nat) : RF := ⟨(ENC_CHAN_PROGRESS_addr n), 39, 24⟩
def ENC_CHAN_PROGRESS_UNITS_DONE (n : Nat) : RF := ⟨(ENC_CHAN_PROGRESS_addr n), 23, 12⟩
def ENC_CHAN_PROGRESS_SEARCHERS (n : Nat) : RF := ⟨(ENC_CHAN_PROGRESS_addr n), 11, 8⟩
def ENC_CHAN_PROGRESS_PIPES (n : Nat) : RF := ⟨(ENC_CHAN_PROGRESS_addr n), 7, 4⟩
def ENC_CHAN_PROGRESS_ENGINES (n : Nat) : RF := ⟨(ENC_CHAN_PROGRESS_addr n), 3, 0⟩
/-- ENC_CHAN_COUNTS: Encode counters (09, by R299). -/
def ENC_CHAN_COUNTS_addr (n : Nat) : Nat := 0x045001 + 4 * n
def ENC_CHAN_COUNTS_PICTURES (n : Nat) : RF := ⟨(ENC_CHAN_COUNTS_addr n), 71, 40⟩
def ENC_CHAN_COUNTS_DROPPED (n : Nat) : RF := ⟨(ENC_CHAN_COUNTS_addr n), 39, 24⟩
def ENC_CHAN_COUNTS_SWEEPS (n : Nat) : RF := ⟨(ENC_CHAN_COUNTS_addr n), 23, 12⟩
def ENC_CHAN_COUNTS_FORCED (n : Nat) : RF := ⟨(ENC_CHAN_COUNTS_addr n), 11, 0⟩
/-- ENC_CHAN_WORK: Encode work (09, by R299). -/
def ENC_CHAN_WORK_addr (n : Nat) : Nat := 0x045002 + 4 * n
def ENC_CHAN_WORK_KBYTES (n : Nat) : RF := ⟨(ENC_CHAN_WORK_addr n), 71, 36⟩
def ENC_CHAN_WORK_KPIXELS (n : Nat) : RF := ⟨(ENC_CHAN_WORK_addr n), 35, 0⟩
/-- ENC_CHAN_SEARCH: Search and entropy work (09, by R299). -/
def ENC_CHAN_SEARCH_addr (n : Nat) : Nat := 0x045003 + 4 * n
def ENC_CHAN_SEARCH_KSEARCH (n : Nat) : RF := ⟨(ENC_CHAN_SEARCH_addr n), 71, 36⟩
def ENC_CHAN_SEARCH_KBINS (n : Nat) : RF := ⟨(ENC_CHAN_SEARCH_addr n), 35, 0⟩

/-! ### 10_rate_control.md -/

/-- RATE_QUEUE: Rate queue and accelerators (10, by R322). -/
def RATE_QUEUE_addr : Nat := 0x044010
def RATE_QUEUE_RATE_DEPTH : RF := ⟨RATE_QUEUE_addr, 71, 60⟩
def RATE_QUEUE_RATE_LIVE : RF := ⟨RATE_QUEUE_addr, 59, 48⟩
def RATE_QUEUE_ACCELS : RF := ⟨RATE_QUEUE_addr, 47, 44⟩
/-- RATE_STATUS: Accelerator a, a = 0–3 (10, by R322). -/
def RATE_STATUS_addr (a : Nat) : Nat := 0x044200 + a
def RATE_STATUS_BUSY (a : Nat) : RF := ⟨(RATE_STATUS_addr a), 71, 71⟩
def RATE_STATUS_CHANNEL (a : Nat) : RF := ⟨(RATE_STATUS_addr a), 70, 62⟩
def RATE_STATUS_LIVE (a : Nat) : RF := ⟨(RATE_STATUS_addr a), 61, 61⟩
def RATE_STATUS_PICTURES (a : Nat) : RF := ⟨(RATE_STATUS_addr a), 27, 0⟩
/-- RC_CHAN_STATE: Rate state (10, by R322). -/
def RC_CHAN_STATE_addr (n : Nat) : Nat := 0x046000 + 2 * n
def RC_CHAN_STATE_QP_LAST (n : Nat) : RF := ⟨(RC_CHAN_STATE_addr n), 71, 66⟩
def RC_CHAN_STATE_QP_ROW (n : Nat) : RF := ⟨(RC_CHAN_STATE_addr n), 65, 60⟩
def RC_CHAN_STATE_FULLNESS (n : Nat) : RF := ⟨(RC_CHAN_STATE_addr n), 59, 32⟩
def RC_CHAN_STATE_OVER (n : Nat) : RF := ⟨(RC_CHAN_STATE_addr n), 31, 31⟩
/-- RC_CHAN_COUNTS: Rate counters (10, by R322). -/
def RC_CHAN_COUNTS_addr (n : Nat) : Nat := 0x046001 + 2 * n
def RC_CHAN_COUNTS_SCENES (n : Nat) : RF := ⟨(RC_CHAN_COUNTS_addr n), 71, 56⟩
def RC_CHAN_COUNTS_OVERSHOOTS (n : Nat) : RF := ⟨(RC_CHAN_COUNTS_addr n), 55, 40⟩
def RC_CHAN_COUNTS_FILLER_PICS (n : Nat) : RF := ⟨(RC_CHAN_COUNTS_addr n), 39, 24⟩

/-! ### 11_input_conditioning.md -/

/-- SRC_CTRL: Source control (11, by R348). -/
def SRC_CTRL_addr (s : Nat) : Nat := 0x050000 + 16 * s
def SRC_CTRL_ENABLE (s : Nat) : RF := ⟨(SRC_CTRL_addr s), 71, 71⟩
def SRC_CTRL_CHANNEL (s : Nat) : RF := ⟨(SRC_CTRL_addr s), 70, 62⟩
def SRC_CTRL_KIND (s : Nat) : RF := ⟨(SRC_CTRL_addr s), 61, 61⟩
def SRC_CTRL_EVENT_FIFO (s : Nat) : RF := ⟨(SRC_CTRL_addr s), 60, 55⟩
def SRC_CTRL_EVENT_PRIO (s : Nat) : RF := ⟨(SRC_CTRL_addr s), 54, 52⟩
def SRC_CTRL_RETURN_FIFO (s : Nat) : RF := ⟨(SRC_CTRL_addr s), 51, 46⟩
def SRC_CTRL_START_EVENT (s : Nat) : RF := ⟨(SRC_CTRL_addr s), 45, 45⟩
def SRC_CTRL_LINE_GROUP (s : Nat) : RF := ⟨(SRC_CTRL_addr s), 44, 43⟩
def SRC_CTRL_PACKING (s : Nat) : RF := ⟨(SRC_CTRL_addr s), 42, 39⟩
def SRC_CTRL_FRAME_TIMEOUT (s : Nat) : RF := ⟨(SRC_CTRL_addr s), 38, 23⟩
/-- SRC_FORMAT: Source format (11, by R348). -/
def SRC_FORMAT_addr (s : Nat) : Nat := 0x050001 + 16 * s
def SRC_FORMAT_WIDTH (s : Nat) : RF := ⟨(SRC_FORMAT_addr s), 71, 56⟩
def SRC_FORMAT_HEIGHT (s : Nat) : RF := ⟨(SRC_FORMAT_addr s), 55, 40⟩
def SRC_FORMAT_CHROMA (s : Nat) : RF := ⟨(SRC_FORMAT_addr s), 39, 36⟩
def SRC_FORMAT_DEPTH (s : Nat) : RF := ⟨(SRC_FORMAT_addr s), 35, 32⟩
def SRC_FORMAT_TRANSFER (s : Nat) : RF := ⟨(SRC_FORMAT_addr s), 31, 24⟩
def SRC_FORMAT_PRIMARIES (s : Nat) : RF := ⟨(SRC_FORMAT_addr s), 23, 16⟩
def SRC_FORMAT_MATRIX (s : Nat) : RF := ⟨(SRC_FORMAT_addr s), 15, 8⟩
def SRC_FORMAT_FULL_RANGE (s : Nat) : RF := ⟨(SRC_FORMAT_addr s), 7, 7⟩
/-- SRC_FILL: Fill value (11, by R348). -/
def SRC_FILL_addr (s : Nat) : Nat := 0x050002 + 16 * s
def SRC_FILL_FILL_Y (s : Nat) : RF := ⟨(SRC_FILL_addr s), 71, 60⟩
def SRC_FILL_FILL_CB (s : Nat) : RF := ⟨(SRC_FILL_addr s), 59, 48⟩
def SRC_FILL_FILL_CR (s : Nat) : RF := ⟨(SRC_FILL_addr s), 47, 36⟩
/-- SRC_RING: Slot ring (11, by R348). -/
def SRC_RING_addr (s : Nat) : Nat := 0x050003 + 16 * s
def SRC_RING_RING_ADDR (s : Nat) : RF := ⟨(SRC_RING_addr s), 71, 36⟩
def SRC_RING_SLOTS (s : Nat) : RF := ⟨(SRC_RING_addr s), 35, 31⟩
/-- CAP_LINK: CSI-2 link, p = 0–7 (11, by R348). -/
def CAP_LINK_addr (p : Nat) : Nat := 0x050004 + 16 * p
def CAP_LINK_LANES (p : Nat) : RF := ⟨(CAP_LINK_addr p), 71, 70⟩
def CAP_LINK_VC (p : Nat) : RF := ⟨(CAP_LINK_addr p), 69, 66⟩
def CAP_LINK_LINE_NUMBERS (p : Nat) : RF := ⟨(CAP_LINK_addr p), 65, 65⟩
def CAP_LINK_DT (p : Nat) : RF := ⟨(CAP_LINK_addr p), 64, 59⟩
/-- FLOW_LINK: Flow link, f = 0–15 (11, by R348). -/
def FLOW_LINK_addr (f : Nat) : Nat := 0x050084 + 16 * f
def FLOW_LINK_UPLINK (f : Nat) : RF := ⟨(FLOW_LINK_addr f), 71, 70⟩
def FLOW_LINK_SUBPORT (f : Nat) : RF := ⟨(FLOW_LINK_addr f), 69, 68⟩
def FLOW_LINK_UDP_PORT (f : Nat) : RF := ⟨(FLOW_LINK_addr f), 67, 52⟩
def FLOW_LINK_PT (f : Nat) : RF := ⟨(FLOW_LINK_addr f), 51, 45⟩
def FLOW_LINK_SSRC_MATCH (f : Nat) : RF := ⟨(FLOW_LINK_addr f), 44, 44⟩
def FLOW_LINK_SSRC (f : Nat) : RF := ⟨(FLOW_LINK_addr f), 43, 12⟩
def FLOW_LINK_BPM (f : Nat) : RF := ⟨(FLOW_LINK_addr f), 11, 11⟩
def FLOW_LINK_IPV6 (f : Nat) : RF := ⟨(FLOW_LINK_addr f), 10, 10⟩
/-- FLOW_DST_HI: Flow destination address (11, by R348). -/
def FLOW_DST_HI_addr (f : Nat) : Nat := 0x050085 + 16 * f
def FLOW_DST_HI_ADDR (f : Nat) : RF := ⟨(FLOW_DST_HI_addr f), 71, 8⟩
/-- FLOW_DST_LO: Flow destination address (11, by R348). -/
def FLOW_DST_LO_addr (f : Nat) : Nat := 0x050086 + 16 * f
def FLOW_DST_LO_ADDR (f : Nat) : RF := ⟨(FLOW_DST_LO_addr f), 71, 8⟩
/-- SRC_STATUS: Source status (11, by R348). -/
def SRC_STATUS_addr (s : Nat) : Nat := 0x050007 + 16 * s
def SRC_STATUS_STATE (s : Nat) : RF := ⟨(SRC_STATUS_addr s), 71, 69⟩
def SRC_STATUS_ENABLE_REASON (s : Nat) : RF := ⟨(SRC_STATUS_addr s), 68, 65⟩
def SRC_STATUS_SLOT_FILLING (s : Nat) : RF := ⟨(SRC_STATUS_addr s), 64, 61⟩
def SRC_STATUS_FREE_SLOTS (s : Nat) : RF := ⟨(SRC_STATUS_addr s), 60, 56⟩
def SRC_STATUS_PERIOD_NS (s : Nat) : RF := ⟨(SRC_STATUS_addr s), 55, 24⟩
/-- SRC_PROGRESS: Source progress (11, by R348). -/
def SRC_PROGRESS_addr (s : Nat) : Nat := 0x050008 + 16 * s
def SRC_PROGRESS_SERIAL (s : Nat) : RF := ⟨(SRC_PROGRESS_addr s), 71, 40⟩
def SRC_PROGRESS_LINES_DONE (s : Nat) : RF := ⟨(SRC_PROGRESS_addr s), 39, 24⟩
def SRC_PROGRESS_SLOT (s : Nat) : RF := ⟨(SRC_PROGRESS_addr s), 23, 20⟩
/-- SRC_COUNTS: Frame counters (11, by R348). -/
def SRC_COUNTS_addr (s : Nat) : Nat := 0x050009 + 16 * s
def SRC_COUNTS_FRAMES (s : Nat) : RF := ⟨(SRC_COUNTS_addr s), 71, 44⟩
def SRC_COUNTS_DISCARDS (s : Nat) : RF := ⟨(SRC_COUNTS_addr s), 43, 32⟩
def SRC_COUNTS_SHORTS (s : Nat) : RF := ⟨(SRC_COUNTS_addr s), 31, 20⟩
def SRC_COUNTS_LONGS (s : Nat) : RF := ⟨(SRC_COUNTS_addr s), 19, 8⟩
/-- SRC_ERRORS: Error counters (11, by R348). -/
def SRC_ERRORS_addr (s : Nat) : Nat := 0x05000A + 16 * s
def SRC_ERRORS_FILLED_ROWS (s : Nat) : RF := ⟨(SRC_ERRORS_addr s), 71, 44⟩
def SRC_ERRORS_PKT_ERRORS (s : Nat) : RF := ⟨(SRC_ERRORS_addr s), 43, 28⟩
def SRC_ERRORS_OTHER_PKTS (s : Nat) : RF := ⟨(SRC_ERRORS_addr s), 27, 16⟩
def SRC_ERRORS_RELEASE_ERRS (s : Nat) : RF := ⟨(SRC_ERRORS_addr s), 15, 8⟩
def SRC_ERRORS_EVENTS_LOST (s : Nat) : RF := ⟨(SRC_ERRORS_addr s), 7, 0⟩
/-- SCALE_STATUS: Scaler-rotator k, k = 0–3 (11, by R348). -/
def SCALE_STATUS_addr (k : Nat) : Nat := 0x051000 + k
def SCALE_STATUS_BUSY (k : Nat) : RF := ⟨(SCALE_STATUS_addr k), 71, 71⟩
def SCALE_STATUS_CHANNEL (k : Nat) : RF := ⟨(SCALE_STATUS_addr k), 70, 62⟩
def SCALE_STATUS_LIVE (k : Nat) : RF := ⟨(SCALE_STATUS_addr k), 61, 61⟩
def SCALE_STATUS_AFFINE (k : Nat) : RF := ⟨(SCALE_STATUS_addr k), 60, 60⟩
def SCALE_STATUS_BANDS (k : Nat) : RF := ⟨(SCALE_STATUS_addr k), 55, 28⟩
def SCALE_STATUS_PREEMPTS (k : Nat) : RF := ⟨(SCALE_STATUS_addr k), 27, 0⟩
/-- INPUT_CAPS: Input conditioning capabilities (11, by R348). -/
def INPUT_CAPS_addr : Nat := 0x051800
def INPUT_CAPS_CSI_PORTS : RF := ⟨INPUT_CAPS_addr, 71, 68⟩
def INPUT_CAPS_FLOWS : RF := ⟨INPUT_CAPS_addr, 67, 62⟩
def INPUT_CAPS_SCALERS : RF := ⟨INPUT_CAPS_addr, 61, 58⟩
def INPUT_CAPS_SCALE_DEPTH : RF := ⟨INPUT_CAPS_addr, 57, 46⟩
def INPUT_CAPS_SCALE_LIVE : RF := ⟨INPUT_CAPS_addr, 45, 34⟩
def INPUT_CAPS_MAX_SLOTS : RF := ⟨INPUT_CAPS_addr, 33, 29⟩
def INPUT_CAPS_PROGRESS_ENTRIES : RF := ⟨INPUT_CAPS_addr, 28, 22⟩

/-! ### 12_distributed_decode.md -/

/-- REGION_CAPS: Regional capabilities (12, by R381). -/
def REGION_CAPS_addr : Nat := 0x048000
def REGION_CAPS_SEAM_DEPTH : RF := ⟨REGION_CAPS_addr, 71, 60⟩
def REGION_CAPS_SEAM_LIVE : RF := ⟨REGION_CAPS_addr, 59, 48⟩
def REGION_CAPS_FETCH_OUT : RF := ⟨REGION_CAPS_addr, 47, 44⟩
def REGION_CAPS_MSG_WORDS : RF := ⟨REGION_CAPS_addr, 43, 32⟩
def REGION_CAPS_MAX_MEMBERS : RF := ⟨REGION_CAPS_addr, 31, 19⟩
/-- REGION_CTRL: Seam and fetch waits (12, by R381). -/
def REGION_CTRL_addr : Nat := 0x048001
def REGION_CTRL_SEAM_WAIT_LIVE : RF := ⟨REGION_CTRL_addr, 71, 56⟩
def REGION_CTRL_FETCH_WAIT_LIVE : RF := ⟨REGION_CTRL_addr, 55, 40⟩
def REGION_CTRL_SEAM_WAIT_PB : RF := ⟨REGION_CTRL_addr, 39, 28⟩
def REGION_CTRL_FETCH_WAIT_PB : RF := ⟨REGION_CTRL_addr, 27, 16⟩
/-- SEAM_STATUS: Seam mover k, k = 0–1 (12, by R381). -/
def SEAM_STATUS_addr (k : Nat) : Nat := 0x048010 + k
def SEAM_STATUS_BUSY (k : Nat) : RF := ⟨(SEAM_STATUS_addr k), 71, 71⟩
def SEAM_STATUS_CHANNEL (k : Nat) : RF := ⟨(SEAM_STATUS_addr k), 70, 62⟩
def SEAM_STATUS_LIVE (k : Nat) : RF := ⟨(SEAM_STATUS_addr k), 61, 61⟩
def SEAM_STATUS_MESSAGES (k : Nat) : RF := ⟨(SEAM_STATUS_addr k), 55, 28⟩
def SEAM_STATUS_FETCHES_SERVED (k : Nat) : RF := ⟨(SEAM_STATUS_addr k), 27, 0⟩
/-- REGION_CHAN_STATUS: Regional state (12, by R381). -/
def REGION_CHAN_STATUS_addr (n : Nat) : Nat := 0x048400 + 4 * n
def REGION_CHAN_STATUS_ACTIVE (n : Nat) : RF := ⟨(REGION_CHAN_STATUS_addr n), 71, 71⟩
def REGION_CHAN_STATUS_GROUP_ID (n : Nat) : RF := ⟨(REGION_CHAN_STATUS_addr n), 70, 55⟩
def REGION_CHAN_STATUS_MY_COL (n : Nat) : RF := ⟨(REGION_CHAN_STATUS_addr n), 54, 49⟩
def REGION_CHAN_STATUS_MY_ROW (n : Nat) : RF := ⟨(REGION_CHAN_STATUS_addr n), 48, 43⟩
def REGION_CHAN_STATUS_EXACT_LOCAL (n : Nat) : RF := ⟨(REGION_CHAN_STATUS_addr n), 42, 42⟩
def REGION_CHAN_STATUS_PAYLOAD (n : Nat) : RF := ⟨(REGION_CHAN_STATUS_addr n), 41, 40⟩
def REGION_CHAN_STATUS_EXACT (n : Nat) : RF := ⟨(REGION_CHAN_STATUS_addr n), 39, 39⟩
def REGION_CHAN_STATUS_ABSENT_MEMBERS (n : Nat) : RF := ⟨(REGION_CHAN_STATUS_addr n), 38, 26⟩
/-- REGION_CHAN_COUNTS: Regional counters (12, by R381). -/
def REGION_CHAN_COUNTS_addr (n : Nat) : Nat := 0x048401 + 4 * n
def REGION_CHAN_COUNTS_SEAMS_LATE (n : Nat) : RF := ⟨(REGION_CHAN_COUNTS_addr n), 71, 60⟩
def REGION_CHAN_COUNTS_SEAMS_ABSENT (n : Nat) : RF := ⟨(REGION_CHAN_COUNTS_addr n), 59, 48⟩
def REGION_CHAN_COUNTS_SEAMS_REJECTED (n : Nat) : RF := ⟨(REGION_CHAN_COUNTS_addr n), 47, 36⟩
def REGION_CHAN_COUNTS_FETCHES (n : Nat) : RF := ⟨(REGION_CHAN_COUNTS_addr n), 35, 20⟩
def REGION_CHAN_COUNTS_FETCH_FAILS (n : Nat) : RF := ⟨(REGION_CHAN_COUNTS_addr n), 19, 8⟩
def REGION_CHAN_COUNTS_MARGIN_BREACHES (n : Nat) : RF := ⟨(REGION_CHAN_COUNTS_addr n), 7, 0⟩
/-- REGION_CHAN_TRAFFIC: Seam traffic (12, by R381). -/
def REGION_CHAN_TRAFFIC_addr (n : Nat) : Nat := 0x048402 + 4 * n
def REGION_CHAN_TRAFFIC_KWORDS_SENT (n : Nat) : RF := ⟨(REGION_CHAN_TRAFFIC_addr n), 71, 36⟩
def REGION_CHAN_TRAFFIC_KWORDS_RECEIVED (n : Nat) : RF := ⟨(REGION_CHAN_TRAFFIC_addr n), 35, 0⟩

/-! ### 13_composition_calibration.md -/

/-- COMP_CTRL: Compositor control (13, by R415). -/
def COMP_CTRL_addr : Nat := 0x060000
def COMP_CTRL_ENABLE : RF := ⟨COMP_CTRL_addr, 71, 71⟩
def COMP_CTRL_HOLD_CONFIG : RF := ⟨COMP_CTRL_addr, 70, 70⟩
def COMP_CTRL_MAP_SELECT : RF := ⟨COMP_CTRL_addr, 69, 69⟩
/-- COMP_STATUS: Compositor status (13, by R415). -/
def COMP_STATUS_addr : Nat := 0x060001
def COMP_STATUS_REFRESH_COUNT : RF := ⟨COMP_STATUS_addr, 71, 40⟩
def COMP_STATUS_OVERRUNS : RF := ⟨COMP_STATUS_addr, 39, 24⟩
def COMP_STATUS_ERR_PANEL : RF := ⟨COMP_STATUS_addr, 23, 8⟩
def COMP_STATUS_ACTIVE_MAP : RF := ⟨COMP_STATUS_addr, 7, 7⟩
def COMP_STATUS_MAP_ERROR : RF := ⟨COMP_STATUS_addr, 6, 6⟩
def COMP_STATUS_LOCAL_ONLY : RF := ⟨COMP_STATUS_addr, 5, 5⟩
def COMP_STATUS_REGION_ERROR : RF := ⟨COMP_STATUS_addr, 4, 4⟩
/-- COLOUR_CTRL: Colour and output (13, by R415). -/
def COLOUR_CTRL_addr : Nat := 0x060002
def COLOUR_CTRL_WALL_PEAK : RF := ⟨COLOUR_CTRL_addr, 71, 58⟩
def COLOUR_CTRL_SDR_WHITE : RF := ⟨COLOUR_CTRL_addr, 57, 48⟩
def COLOUR_CTRL_WALL_PRIMARIES : RF := ⟨COLOUR_CTRL_addr, 47, 40⟩
def COLOUR_CTRL_OUT_TF : RF := ⟨COLOUR_CTRL_addr, 39, 38⟩
def COLOUR_CTRL_OUT_BITS : RF := ⟨COLOUR_CTRL_addr, 37, 33⟩
def COLOUR_CTRL_DITHER : RF := ⟨COLOUR_CTRL_addr, 32, 31⟩
def COLOUR_CTRL_GAIN : RF := ⟨COLOUR_CTRL_addr, 30, 15⟩
/-- LAMP_MAP: Lamp map m, m = 0–1 (13, by R415). -/
def LAMP_MAP_addr (m : Nat) : Nat := 0x060004 + m
def LAMP_MAP_FIRST_BANK (m : Nat) : RF := ⟨(LAMP_MAP_addr m), 71, 64⟩
def LAMP_MAP_BANKS (m : Nat) : RF := ⟨(LAMP_MAP_addr m), 63, 61⟩
def LAMP_MAP_PANELS (m : Nat) : RF := ⟨(LAMP_MAP_addr m), 60, 44⟩
/-- LAMP_RECORDS: Lamp-record region (13, by R415). -/
def LAMP_RECORDS_addr : Nat := 0x060006
def LAMP_RECORDS_LAMP_BASE : RF := ⟨LAMP_RECORDS_addr, 71, 36⟩
def LAMP_RECORDS_LAMPS : RF := ⟨LAMP_RECORDS_addr, 35, 10⟩
def LAMP_RECORDS_LOCK : RF := ⟨LAMP_RECORDS_addr, 9, 9⟩
/-- COMP_WORK: Compositor work area (13, by R415). -/
def COMP_WORK_addr : Nat := 0x060007
def COMP_WORK_WORK_BASE : RF := ⟨COMP_WORK_addr, 71, 36⟩
def COMP_WORK_LOCK : RF := ⟨COMP_WORK_addr, 35, 35⟩
/-- CAL_CMD: Calibration update command (13, by R415). -/
def CAL_CMD_addr : Nat := 0x060008
def CAL_CMD_LIST : RF := ⟨CAL_CMD_addr, 71, 36⟩
def CAL_CMD_ENTRIES : RF := ⟨CAL_CMD_addr, 35, 12⟩
/-- CAL_STATUS: Calibration update status (13, by R415). -/
def CAL_STATUS_addr : Nat := 0x060009
def CAL_STATUS_BUSY : RF := ⟨CAL_STATUS_addr, 71, 71⟩
def CAL_STATUS_CMD_DROP : RF := ⟨CAL_STATUS_addr, 70, 70⟩
def CAL_STATUS_LIST_ERROR : RF := ⟨CAL_STATUS_addr, 69, 69⟩
def CAL_STATUS_ENTRIES_DONE : RF := ⟨CAL_STATUS_addr, 68, 45⟩
def CAL_STATUS_SATURATED : RF := ⟨CAL_STATUS_addr, 44, 20⟩
def CAL_STATUS_WRITE_DROPS : RF := ⟨CAL_STATUS_addr, 19, 4⟩
/-- COMP_REGION: Composited region r, r = 0–63 (13, by R415). -/
def COMP_REGION_addr (r : Nat) : Nat := 0x060040 + r
def COMP_REGION_X (r : Nat) : RF := ⟨(COMP_REGION_addr r), 71, 56⟩
def COMP_REGION_Y (r : Nat) : RF := ⟨(COMP_REGION_addr r), 55, 40⟩
def COMP_REGION_W (r : Nat) : RF := ⟨(COMP_REGION_addr r), 39, 24⟩
def COMP_REGION_H (r : Nat) : RF := ⟨(COMP_REGION_addr r), 23, 8⟩
def COMP_REGION_MODE (r : Nat) : RF := ⟨(COMP_REGION_addr r), 7, 6⟩
def COMP_REGION_VALID (r : Nat) : RF := ⟨(COMP_REGION_addr r), 5, 5⟩
/-- LAYER_CTRL: Layer control, L = 0–255 (13, by R415). -/
def LAYER_CTRL_addr (l : Nat) : Nat := 0x061000 + 16 * l
def LAYER_CTRL_ASSIGNED (l : Nat) : RF := ⟨(LAYER_CTRL_addr l), 71, 71⟩
def LAYER_CTRL_CHANNEL (l : Nat) : RF := ⟨(LAYER_CTRL_addr l), 70, 62⟩
def LAYER_CTRL_REGION (l : Nat) : RF := ⟨(LAYER_CTRL_addr l), 61, 56⟩
def LAYER_CTRL_ENABLE (l : Nat) : RF := ⟨(LAYER_CTRL_addr l), 55, 55⟩
/-- LAYER_STATUS: Layer status (13, by R415). -/
def LAYER_STATUS_addr (l : Nat) : Nat := 0x061001 + 16 * l
def LAYER_STATUS_SHOWING (l : Nat) : RF := ⟨(LAYER_STATUS_addr l), 71, 71⟩
def LAYER_STATUS_STAGING_BUSY (l : Nat) : RF := ⟨(LAYER_STATUS_addr l), 70, 70⟩
def LAYER_STATUS_PENDING (l : Nat) : RF := ⟨(LAYER_STATUS_addr l), 69, 68⟩
def LAYER_STATUS_WAITING_TICKET (l : Nat) : RF := ⟨(LAYER_STATUS_addr l), 67, 67⟩
def LAYER_STATUS_ASSUMED (l : Nat) : RF := ⟨(LAYER_STATUS_addr l), 66, 66⟩
def LAYER_STATUS_SUPERSEDED (l : Nat) : RF := ⟨(LAYER_STATUS_addr l), 65, 42⟩
/-- LAYER_REC: Shown record, word j = 0–7 (13, by R415). -/
def LAYER_REC_addr (l : Nat) (j : Nat) : Nat := 0x061008 + 16 * l + j
def LAYER_REC_WORD (l : Nat) (j : Nat) : RF := ⟨(LAYER_REC_addr l j), 71, 0⟩

/-! ### 14_lamp_ports.md -/

/-- PORT_CTRL: Lamp port control, p = 0–63 (14, by R430). -/
def PORT_CTRL_addr (p : Nat) : Nat := 0x070000 + 16 * p
def PORT_CTRL_ENABLE (p : Nat) : RF := ⟨(PORT_CTRL_addr p), 71, 71⟩
def PORT_CTRL_RATE (p : Nat) : RF := ⟨(PORT_CTRL_addr p), 70, 69⟩
def PORT_CTRL_AUTO_UPLOAD (p : Nat) : RF := ⟨(PORT_CTRL_addr p), 68, 68⟩
def PORT_CTRL_BLANK (p : Nat) : RF := ⟨(PORT_CTRL_addr p), 67, 67⟩
/-- PORT_STATUS: Lamp port status (14, by R430). -/
def PORT_STATUS_addr (p : Nat) : Nat := 0x070001 + 16 * p
def PORT_STATUS_STATE (p : Nat) : RF := ⟨(PORT_STATUS_addr p), 71, 70⟩
def PORT_STATUS_RATE_UP (p : Nat) : RF := ⟨(PORT_STATUS_addr p), 69, 68⟩
def PORT_STATUS_CARDS_SEEN (p : Nat) : RF := ⟨(PORT_STATUS_addr p), 67, 57⟩
def PORT_STATUS_CARDS_READY (p : Nat) : RF := ⟨(PORT_STATUS_addr p), 56, 46⟩
def PORT_STATUS_CARDS_MISMATCH (p : Nat) : RF := ⟨(PORT_STATUS_addr p), 45, 35⟩
def PORT_STATUS_RATE_OVER (p : Nat) : RF := ⟨(PORT_STATUS_addr p), 34, 34⟩
/-- PORT_COUNTS: Lamp port counters (14, by R430). -/
def PORT_COUNTS_addr (p : Nat) : Nat := 0x070002 + 16 * p
def PORT_COUNTS_FRAMES_SENT (p : Nat) : RF := ⟨(PORT_COUNTS_addr p), 71, 40⟩
def PORT_COUNTS_LATE_SKIPS (p : Nat) : RF := ⟨(PORT_COUNTS_addr p), 39, 24⟩
def PORT_COUNTS_LIVE_FRAMES (p : Nat) : RF := ⟨(PORT_COUNTS_addr p), 23, 0⟩
/-- PORT_ERRORS: Lamp port errors (14, by R430). -/
def PORT_ERRORS_addr (p : Nat) : Nat := 0x070003 + 16 * p
def PORT_ERRORS_RX_FCS (p : Nat) : RF := ⟨(PORT_ERRORS_addr p), 71, 56⟩
def PORT_ERRORS_RX_BAD (p : Nat) : RF := ⟨(PORT_ERRORS_addr p), 55, 40⟩
def PORT_ERRORS_LINK_DOWNS (p : Nat) : RF := ⟨(PORT_ERRORS_addr p), 39, 24⟩
/-- LAMP_MAC: Lamp protocol addressing (14, by R430). -/
def LAMP_MAC_addr : Nat := 0x071000
def LAMP_MAC_SRC_MAC : RF := ⟨LAMP_MAC_addr, 71, 24⟩
def LAMP_MAC_ETHERTYPE : RF := ⟨LAMP_MAC_addr, 23, 8⟩
def LAMP_MAC_PROTO_MAX : RF := ⟨LAMP_MAC_addr, 7, 6⟩
/-- LAMP_TIMING: Show and hold times (14, by R430). -/
def LAMP_TIMING_addr : Nat := 0x071001
def LAMP_TIMING_SHOW_DELAY : RF := ⟨LAMP_TIMING_addr, 71, 60⟩
def LAMP_TIMING_LINK_HOLD_MS : RF := ⟨LAMP_TIMING_addr, 59, 44⟩
/-- REFRESH_CTRL: Refresh rate and genlock (14, by R430). -/
def REFRESH_CTRL_addr : Nat := 0x071002
def REFRESH_CTRL_MODE : RF := ⟨REFRESH_CTRL_addr, 71, 71⟩
def REFRESH_CTRL_SOURCE : RF := ⟨REFRESH_CTRL_addr, 70, 66⟩
def REFRESH_CTRL_MULT_M1 : RF := ⟨REFRESH_CTRL_addr, 65, 62⟩
def REFRESH_CTRL_RATE_NUM : RF := ⟨REFRESH_CTRL_addr, 61, 44⟩
def REFRESH_CTRL_RATE_DEN : RF := ⟨REFRESH_CTRL_addr, 43, 33⟩
def REFRESH_CTRL_PHASE_NS : RF := ⟨REFRESH_CTRL_addr, 32, 7⟩
/-- REFRESH_STATUS: Refresh state (14, by R430). -/
def REFRESH_STATUS_addr : Nat := 0x071003
def REFRESH_STATUS_LOCKED : RF := ⟨REFRESH_STATUS_addr, 71, 71⟩
def REFRESH_STATUS_GENLOCK_HOLD : RF := ⟨REFRESH_STATUS_addr, 70, 70⟩
def REFRESH_STATUS_PERIOD_NS : RF := ⟨REFRESH_STATUS_addr, 69, 40⟩
/-- REFRESH_LAST: Last refresh start (14, by R430). -/
def REFRESH_LAST_addr : Nat := 0x071004
def REFRESH_LAST_START : RF := ⟨REFRESH_LAST_addr, 71, 0⟩
/-- LAMP_AREAS: Upload and card areas (14, by R430). -/
def LAMP_AREAS_addr : Nat := 0x071005
def LAMP_AREAS_UPLOAD_AREA : RF := ⟨LAMP_AREAS_addr, 71, 36⟩
def LAMP_AREAS_CARD_BASE : RF := ⟨LAMP_AREAS_addr, 35, 0⟩
/-- UPLOAD_CMD: Upload request (14, by R430). -/
def UPLOAD_CMD_addr : Nat := 0x071006
def UPLOAD_CMD_PORT : RF := ⟨UPLOAD_CMD_addr, 71, 66⟩
def UPLOAD_CMD_CARD : RF := ⟨UPLOAD_CMD_addr, 65, 56⟩
def UPLOAD_CMD_ALL : RF := ⟨UPLOAD_CMD_addr, 55, 55⟩
/-- UPLOAD_STATUS: Upload state (14, by R430). -/
def UPLOAD_STATUS_addr : Nat := 0x071007
def UPLOAD_STATUS_BUSY : RF := ⟨UPLOAD_STATUS_addr, 71, 71⟩
def UPLOAD_STATUS_QUEUED : RF := ⟨UPLOAD_STATUS_addr, 70, 60⟩
def UPLOAD_STATUS_LAST_PORT : RF := ⟨UPLOAD_STATUS_addr, 59, 54⟩
def UPLOAD_STATUS_LAST_CARD : RF := ⟨UPLOAD_STATUS_addr, 53, 44⟩
def UPLOAD_STATUS_LAST_RESULT : RF := ⟨UPLOAD_STATUS_addr, 43, 40⟩
def UPLOAD_STATUS_UPLOADS : RF := ⟨UPLOAD_STATUS_addr, 39, 24⟩
def UPLOAD_STATUS_DROPS : RF := ⟨UPLOAD_STATUS_addr, 23, 8⟩
/-- LAMP_EVENTS: Lamp port events (14, by R430). -/
def LAMP_EVENTS_addr : Nat := 0x071008
def LAMP_EVENTS_LINK : RF := ⟨LAMP_EVENTS_addr, 3, 3⟩
def LAMP_EVENTS_CARD : RF := ⟨LAMP_EVENTS_addr, 2, 2⟩
def LAMP_EVENTS_UPLOAD : RF := ⟨LAMP_EVENTS_addr, 1, 1⟩
def LAMP_EVENTS_GENLOCK : RF := ⟨LAMP_EVENTS_addr, 0, 0⟩

/-! ### 15_ledger_calendar.md -/

/-- LEDGER_CTRL: Ledger control (15, by R449). -/
def LEDGER_CTRL_addr : Nat := 0x080000
def LEDGER_CTRL_ENABLE : RF := ⟨LEDGER_CTRL_addr, 71, 71⟩
def LEDGER_CTRL_JOURNAL_EN : RF := ⟨LEDGER_CTRL_addr, 70, 70⟩
def LEDGER_CTRL_PERIOD_S : RF := ⟨LEDGER_CTRL_addr, 69, 54⟩
/-- LEDGER_STATUS: Ledger status (15, by R449). -/
def LEDGER_STATUS_addr : Nat := 0x080001
def LEDGER_STATUS_STATE : RF := ⟨LEDGER_STATUS_addr, 71, 70⟩
def LEDGER_STATUS_RESTORE_RESULT : RF := ⟨LEDGER_STATUS_addr, 69, 67⟩
def LEDGER_STATUS_PASS_BUSY : RF := ⟨LEDGER_STATUS_addr, 66, 66⟩
def LEDGER_STATUS_CMD_BUSY : RF := ⟨LEDGER_STATUS_addr, 65, 65⟩
def LEDGER_STATUS_CMD_DROP : RF := ⟨LEDGER_STATUS_addr, 64, 64⟩
def LEDGER_STATUS_LAST_SEQ : RF := ⟨LEDGER_STATUS_addr, 63, 32⟩
def LEDGER_STATUS_LAST_PASS_S : RF := ⟨LEDGER_STATUS_addr, 31, 16⟩
def LEDGER_STATUS_LAMP_FOREIGN : RF := ⟨LEDGER_STATUS_addr, 15, 15⟩
def LEDGER_STATUS_LAMP_SHORT : RF := ⟨LEDGER_STATUS_addr, 14, 14⟩
/-- JOURNAL_REGION: Journal region (15, by R449). -/
def JOURNAL_REGION_addr : Nat := 0x080002
def JOURNAL_REGION_BASE : RF := ⟨JOURNAL_REGION_addr, 71, 40⟩
def JOURNAL_REGION_SECTORS : RF := ⟨JOURNAL_REGION_addr, 39, 24⟩
def JOURNAL_REGION_SLOTS : RF := ⟨JOURNAL_REGION_addr, 23, 19⟩
def JOURNAL_REGION_LOCK : RF := ⟨JOURNAL_REGION_addr, 18, 18⟩
/-- JOURNAL_COUNTS: Journal counters (15, by R449). -/
def JOURNAL_COUNTS_addr : Nat := 0x080003
def JOURNAL_COUNTS_PASSES : RF := ⟨JOURNAL_COUNTS_addr, 71, 40⟩
def JOURNAL_COUNTS_LATE : RF := ⟨JOURNAL_COUNTS_addr, 39, 24⟩
def JOURNAL_COUNTS_FAILS : RF := ⟨JOURNAL_COUNTS_addr, 23, 8⟩
/-- LEDGER_CMD: Ledger command (15, by R449). -/
def LEDGER_CMD_addr : Nat := 0x080004
def LEDGER_CMD_OP : RF := ⟨LEDGER_CMD_addr, 71, 70⟩
def LEDGER_CMD_LAMP : RF := ⟨LEDGER_CMD_addr, 69, 45⟩
def LEDGER_CMD_COUNT_M1 : RF := ⟨LEDGER_CMD_addr, 44, 20⟩
/-- LEDGER_IMPORT: Import source (15, by R449). -/
def LEDGER_IMPORT_addr : Nat := 0x080005
def LEDGER_IMPORT_SOURCE : RF := ⟨LEDGER_IMPORT_addr, 71, 36⟩
/-- LEDGER_EVENTS: Ledger and calendar events (15, by R449). -/
def LEDGER_EVENTS_addr : Nat := 0x080006
def LEDGER_EVENTS_PASS_DONE : RF := ⟨LEDGER_EVENTS_addr, 3, 3⟩
def LEDGER_EVENTS_PASS_FAIL : RF := ⟨LEDGER_EVENTS_addr, 2, 2⟩
def LEDGER_EVENTS_LATE : RF := ⟨LEDGER_EVENTS_addr, 1, 1⟩
def LEDGER_EVENTS_CALENDAR : RF := ⟨LEDGER_EVENTS_addr, 0, 0⟩
/-- LIFE_TIME: Device time counters (15, by R449). -/
def LIFE_TIME_addr : Nat := 0x080010
def LIFE_TIME_POWER_ON_S : RF := ⟨LIFE_TIME_addr, 71, 36⟩
def LIFE_TIME_LIT_S : RF := ⟨LIFE_TIME_addr, 35, 0⟩
/-- LIFE_COUNTS: Device event counters (15, by R449). -/
def LIFE_COUNTS_addr : Nat := 0x080011
def LIFE_COUNTS_REFRESHES : RF := ⟨LIFE_COUNTS_addr, 71, 24⟩
def LIFE_COUNTS_HALTS : RF := ⟨LIFE_COUNTS_addr, 23, 12⟩
def LIFE_COUNTS_ZEROINGS : RF := ⟨LIFE_COUNTS_addr, 11, 0⟩
/-- LIFE_SAMPLES: Sample counters (15, by R449). -/
def LIFE_SAMPLES_addr : Nat := 0x080012
def LIFE_SAMPLES_SAMPLES : RF := ⟨LIFE_SAMPLES_addr, 71, 36⟩
def LIFE_SAMPLES_SATURATIONS : RF := ⟨LIFE_SAMPLES_addr, 35, 10⟩
/-- LIFE_TEMP: Temperature band b, b = 0–7 (15, by R449). -/
def LIFE_TEMP_addr (b : Nat) : Nat := 0x080018 + b
def LIFE_TEMP_SECONDS (b : Nat) : RF := ⟨(LIFE_TEMP_addr b), 71, 36⟩
/-- AGE_TREND: Ageing trend entry k, k = 0–31 (15, by R449). -/
def AGE_TREND_addr (k : Nat) : Nat := 0x080020 + k
def AGE_TREND_MEAN_RATIO (k : Nat) : RF := ⟨(AGE_TREND_addr k), 71, 60⟩
def AGE_TREND_DAY (k : Nat) : RF := ⟨(AGE_TREND_addr k), 59, 28⟩
def AGE_TREND_VALID (k : Nat) : RF := ⟨(AGE_TREND_addr k), 27, 27⟩
/-- AGE_NOW: Ageing summary (15, by R449). -/
def AGE_NOW_addr : Nat := 0x080040
def AGE_NOW_FIRST_RATIO : RF := ⟨AGE_NOW_addr, 71, 60⟩
def AGE_NOW_LOW_RATIO : RF := ⟨AGE_NOW_addr, 59, 48⟩
def AGE_NOW_NEXT : RF := ⟨AGE_NOW_addr, 47, 43⟩
/-- CAL_TIME: Calendar time (15, by R449). -/
def CAL_TIME_addr : Nat := 0x080100
def CAL_TIME_TIME : RF := ⟨CAL_TIME_addr, 71, 0⟩
/-- CAL_SET: Calendar set (15, by R449). -/
def CAL_SET_addr : Nat := 0x080101
def CAL_SET_TIME : RF := ⟨CAL_SET_addr, 71, 0⟩
/-- CAL_CTRL: Calendar control (15, by R449). -/
def CAL_CTRL_addr : Nat := 0x080102
def CAL_CTRL_TRIM : RF := ⟨CAL_CTRL_addr, 71, 62⟩
def CAL_CTRL_FOLLOW : RF := ⟨CAL_CTRL_addr, 61, 61⟩
def CAL_CTRL_AUTO_TRIM : RF := ⟨CAL_CTRL_addr, 60, 60⟩
/-- CALENDAR_STATUS: Calendar status (15, by R449). -/
def CALENDAR_STATUS_addr : Nat := 0x080103
def CALENDAR_STATUS_VALID : RF := ⟨CALENDAR_STATUS_addr, 71, 71⟩
def CALENDAR_STATUS_STOPPED : RF := ⟨CALENDAR_STATUS_addr, 70, 70⟩
def CALENDAR_STATUS_VBAT_LOW : RF := ⟨CALENDAR_STATUS_addr, 69, 69⟩
def CALENDAR_STATUS_FOLLOWING : RF := ⟨CALENDAR_STATUS_addr, 68, 68⟩
def CALENDAR_STATUS_CMD_DROP : RF := ⟨CALENDAR_STATUS_addr, 67, 67⟩
def CALENDAR_STATUS_DRIFT_PPB : RF := ⟨CALENDAR_STATUS_addr, 66, 47⟩
def CALENDAR_STATUS_HALT_CARRY : RF := ⟨CALENDAR_STATUS_addr, 46, 43⟩

/-! ### 16_vaults_dram.md -/

/-- VAULT_OWNER: Bank b ownership, b = 0–191 (16, by R476). -/
def VAULT_OWNER_addr (b : Nat) : Nat := 0x090000 + b
def VAULT_OWNER_OWNER (b : Nat) : RF := ⟨(VAULT_OWNER_addr b), 71, 60⟩
def VAULT_OWNER_MARKED (b : Nat) : RF := ⟨(VAULT_OWNER_addr b), 59, 59⟩
def VAULT_OWNER_STAGING (b : Nat) : RF := ⟨(VAULT_OWNER_addr b), 58, 58⟩
def VAULT_OWNER_MAP (b : Nat) : RF := ⟨(VAULT_OWNER_addr b), 57, 57⟩
def VAULT_OWNER_RETIRED (b : Nat) : RF := ⟨(VAULT_OWNER_addr b), 56, 56⟩
def VAULT_OWNER_TWIN (b : Nat) : RF := ⟨(VAULT_OWNER_addr b), 55, 55⟩
def VAULT_OWNER_DOMAIN (b : Nat) : RF := ⟨(VAULT_OWNER_addr b), 54, 51⟩
def VAULT_OWNER_CLEARING (b : Nat) : RF := ⟨(VAULT_OWNER_addr b), 50, 50⟩
/-- VAULT_RETIRE: Retire a bank (16, by R476). -/
def VAULT_RETIRE_addr : Nat := 0x090100
def VAULT_RETIRE_BANK : RF := ⟨VAULT_RETIRE_addr, 71, 64⟩
/-- VAULT_POWER: Vault power domains (16, by R476). -/
def VAULT_POWER_addr : Nat := 0x090101
def VAULT_POWER_DOMAIN_ON : RF := ⟨VAULT_POWER_addr, 71, 60⟩
/-- VAULT_ERRORS: Vault error counters (16, by R476). -/
def VAULT_ERRORS_addr : Nat := 0x090102
def VAULT_ERRORS_CE_COUNT : RF := ⟨VAULT_ERRORS_addr, 71, 52⟩
def VAULT_ERRORS_UE_COUNT : RF := ⟨VAULT_ERRORS_addr, 51, 40⟩
def VAULT_ERRORS_LAST_UE_BANK : RF := ⟨VAULT_ERRORS_addr, 39, 32⟩
def VAULT_ERRORS_LAST_UE_OFFSET : RF := ⟨VAULT_ERRORS_addr, 31, 17⟩
def VAULT_ERRORS_HOST_DENIED : RF := ⟨VAULT_ERRORS_addr, 16, 0⟩
/-- VAULT_EVENTS: Vault events (16, by R476). -/
def VAULT_EVENTS_addr : Nat := 0x090103
def VAULT_EVENTS_REFUSED_BANK : RF := ⟨VAULT_EVENTS_addr, 71, 64⟩
def VAULT_EVENTS_REFUSE_REASON : RF := ⟨VAULT_EVENTS_addr, 63, 60⟩
def VAULT_EVENTS_HANDOVER_REFUSED : RF := ⟨VAULT_EVENTS_addr, 5, 5⟩
def VAULT_EVENTS_HOST_DENIED : RF := ⟨VAULT_EVENTS_addr, 4, 4⟩
def VAULT_EVENTS_UE : RF := ⟨VAULT_EVENTS_addr, 3, 3⟩
def VAULT_EVENTS_POWER_REFUSED : RF := ⟨VAULT_EVENTS_addr, 2, 2⟩
def VAULT_EVENTS_CLEARED : RF := ⟨VAULT_EVENTS_addr, 1, 1⟩
def VAULT_EVENTS_ASSAY_DONE : RF := ⟨VAULT_EVENTS_addr, 0, 0⟩
/-- ASSAY_CMD: Assay command (16, by R476). -/
def ASSAY_CMD_addr : Nat := 0x090110
def ASSAY_CMD_MODE : RF := ⟨ASSAY_CMD_addr, 71, 71⟩
def ASSAY_CMD_BOTH : RF := ⟨ASSAY_CMD_addr, 70, 70⟩
def ASSAY_CMD_FIRST_BANK : RF := ⟨ASSAY_CMD_addr, 69, 62⟩
def ASSAY_CMD_LAST_BANK : RF := ⟨ASSAY_CMD_addr, 61, 54⟩
def ASSAY_CMD_SAVE_BANK : RF := ⟨ASSAY_CMD_addr, 53, 46⟩
def ASSAY_CMD_START : RF := ⟨ASSAY_CMD_addr, 45, 45⟩
/-- ASSAY_STATUS: Assay status (16, by R476). -/
def ASSAY_STATUS_addr : Nat := 0x090111
def ASSAY_STATUS_BUSY : RF := ⟨ASSAY_STATUS_addr, 71, 71⟩
def ASSAY_STATUS_RESULT : RF := ⟨ASSAY_STATUS_addr, 70, 67⟩
def ASSAY_STATUS_CURRENT_BANK : RF := ⟨ASSAY_STATUS_addr, 66, 59⟩
def ASSAY_STATUS_BANKS_DONE : RF := ⟨ASSAY_STATUS_addr, 58, 51⟩
def ASSAY_STATUS_BANKS_FAILED : RF := ⟨ASSAY_STATUS_addr, 50, 43⟩
/-- ASSAY_BANK: Assay result of bank b (16, by R476). -/
def ASSAY_BANK_addr (b : Nat) : Nat := 0x090200 + b
def ASSAY_BANK_TESTED (b : Nat) : RF := ⟨(ASSAY_BANK_addr b), 71, 71⟩
def ASSAY_BANK_FAILED (b : Nat) : RF := ⟨(ASSAY_BANK_addr b), 70, 70⟩
def ASSAY_BANK_PRESERVED (b : Nat) : RF := ⟨(ASSAY_BANK_addr b), 69, 69⟩
def ASSAY_BANK_FAIL_COUNT (b : Nat) : RF := ⟨(ASSAY_BANK_addr b), 68, 53⟩
def ASSAY_BANK_FIRST_OFFSET (b : Nat) : RF := ⟨(ASSAY_BANK_addr b), 52, 38⟩
def ASSAY_BANK_FIRST_BIT (b : Nat) : RF := ⟨(ASSAY_BANK_addr b), 37, 31⟩
/-- DRAM_CONFIG: DRAM configuration (16, by R476). -/
def DRAM_CONFIG_addr : Nat := 0x0A0000
def DRAM_CONFIG_RATE : RF := ⟨DRAM_CONFIG_addr, 71, 70⟩
def DRAM_CONFIG_ORG : RF := ⟨DRAM_CONFIG_addr, 69, 67⟩
def DRAM_CONFIG_TRAIN_RESULT : RF := ⟨DRAM_CONFIG_addr, 66, 64⟩
def DRAM_CONFIG_CAPACITY : RF := ⟨DRAM_CONFIG_addr, 63, 28⟩
def DRAM_CONFIG_CHANNELS_UP : RF := ⟨DRAM_CONFIG_addr, 27, 20⟩
def DRAM_CONFIG_RDIMM : RF := ⟨DRAM_CONFIG_addr, 19, 19⟩
/-- DRAM_CTRL: DRAM control (16, by R476). -/
def DRAM_CTRL_addr : Nat := 0x0A0001
def DRAM_CTRL_SCRUB_HOURS : RF := ⟨DRAM_CTRL_addr, 71, 64⟩
def DRAM_CTRL_FRAME_W : RF := ⟨DRAM_CTRL_addr, 63, 60⟩
def DRAM_CTRL_NORMAL_W : RF := ⟨DRAM_CTRL_addr, 59, 56⟩
def DRAM_CTRL_BG_W : RF := ⟨DRAM_CTRL_addr, 55, 52⟩
def DRAM_CTRL_CE_LIMIT : RF := ⟨DRAM_CTRL_addr, 51, 36⟩
/-- DRAM_CH_STATUS: Channel c status, c = 0–7 (16, by R476). -/
def DRAM_CH_STATUS_addr (c : Nat) : Nat := 0x0A0010 + c
def DRAM_CH_STATUS_STATE (c : Nat) : RF := ⟨(DRAM_CH_STATUS_addr c), 71, 69⟩
def DRAM_CH_STATUS_REFRESH_2X (c : Nat) : RF := ⟨(DRAM_CH_STATUS_addr c), 68, 68⟩
def DRAM_CH_STATUS_TEMP_HIGH (c : Nat) : RF := ⟨(DRAM_CH_STATUS_addr c), 67, 67⟩
def DRAM_CH_STATUS_LIVE_PEAK (c : Nat) : RF := ⟨(DRAM_CH_STATUS_addr c), 66, 62⟩
def DRAM_CH_STATUS_CE_COUNT (c : Nat) : RF := ⟨(DRAM_CH_STATUS_addr c), 61, 38⟩
/-- DRAM_CH_CE: Last correctable error (16, by R476). -/
def DRAM_CH_CE_addr (c : Nat) : Nat := 0x0A0020 + c
def DRAM_CH_CE_ADDR (c : Nat) : RF := ⟨(DRAM_CH_CE_addr c), 71, 36⟩
def DRAM_CH_CE_SYNDROME (c : Nat) : RF := ⟨(DRAM_CH_CE_addr c), 35, 28⟩
def DRAM_CH_CE_RETRIED (c : Nat) : RF := ⟨(DRAM_CH_CE_addr c), 27, 27⟩
/-- DRAM_CH_UE_A: Uncorrectable event, word A (16, by R476). -/
def DRAM_CH_UE_A_addr (c : Nat) : Nat := 0x0A0030 + c
def DRAM_CH_UE_A_VALID (c : Nat) : RF := ⟨(DRAM_CH_UE_A_addr c), 71, 71⟩
def DRAM_CH_UE_A_KIND (c : Nat) : RF := ⟨(DRAM_CH_UE_A_addr c), 70, 68⟩
def DRAM_CH_UE_A_ADDR (c : Nat) : RF := ⟨(DRAM_CH_UE_A_addr c), 67, 32⟩
def DRAM_CH_UE_A_SYNDROME (c : Nat) : RF := ⟨(DRAM_CH_UE_A_addr c), 31, 24⟩
def DRAM_CH_UE_A_RANK (c : Nat) : RF := ⟨(DRAM_CH_UE_A_addr c), 23, 23⟩
def DRAM_CH_UE_A_BANK_GROUP (c : Nat) : RF := ⟨(DRAM_CH_UE_A_addr c), 22, 20⟩
def DRAM_CH_UE_A_BANK (c : Nat) : RF := ⟨(DRAM_CH_UE_A_addr c), 19, 18⟩
def DRAM_CH_UE_A_ROW (c : Nat) : RF := ⟨(DRAM_CH_UE_A_addr c), 17, 0⟩
/-- DRAM_CH_UE_B: Uncorrectable event, word B (16, by R476). -/
def DRAM_CH_UE_B_addr (c : Nat) : Nat := 0x0A0040 + c
def DRAM_CH_UE_B_TIME (c : Nat) : RF := ⟨(DRAM_CH_UE_B_addr c), 71, 0⟩
/-- DRAM_TRAFFIC: Channel traffic by class (16, by R476). -/
def DRAM_TRAFFIC_addr (c : Nat) : Nat := 0x0A0050 + c
def DRAM_TRAFFIC_LIVE (c : Nat) : RF := ⟨(DRAM_TRAFFIC_addr c), 71, 54⟩
def DRAM_TRAFFIC_FRAME (c : Nat) : RF := ⟨(DRAM_TRAFFIC_addr c), 53, 36⟩
def DRAM_TRAFFIC_NORMAL (c : Nat) : RF := ⟨(DRAM_TRAFFIC_addr c), 35, 18⟩
def DRAM_TRAFFIC_BACKGROUND (c : Nat) : RF := ⟨(DRAM_TRAFFIC_addr c), 17, 0⟩
/-- DRAM_EVENTS: DRAM events (16, by R476). -/
def DRAM_EVENTS_addr : Nat := 0x0A0060
def DRAM_EVENTS_UE : RF := ⟨DRAM_EVENTS_addr, 4, 4⟩
def DRAM_EVENTS_CE_STORM : RF := ⟨DRAM_EVENTS_addr, 3, 3⟩
def DRAM_EVENTS_TEMP_HIGH : RF := ⟨DRAM_EVENTS_addr, 2, 2⟩
def DRAM_EVENTS_SCRUB_DONE : RF := ⟨DRAM_EVENTS_addr, 1, 1⟩
def DRAM_EVENTS_REFRESH_2X : RF := ⟨DRAM_EVENTS_addr, 0, 0⟩

/-! ### 17_pools_fifos.md -/

/-- POOL_CFG_A: Pool p configuration, p = 0–15 (17, by R492). -/
def POOL_CFG_A_addr (p : Nat) : Nat := 0x0B0000 + 4 * p
def POOL_CFG_A_BASE (p : Nat) : RF := ⟨(POOL_CFG_A_addr p), 71, 36⟩
def POOL_CFG_A_CLASS (p : Nat) : RF := ⟨(POOL_CFG_A_addr p), 35, 33⟩
def POOL_CFG_A_FALLBACK (p : Nat) : RF := ⟨(POOL_CFG_A_addr p), 32, 29⟩
def POOL_CFG_A_FB_EN (p : Nat) : RF := ⟨(POOL_CFG_A_addr p), 28, 28⟩
def POOL_CFG_A_ENABLE (p : Nat) : RF := ⟨(POOL_CFG_A_addr p), 27, 27⟩
/-- POOL_CFG_B: Pool p size and metadata (17, by R492). -/
def POOL_CFG_B_addr (p : Nat) : Nat := 0x0B0001 + 4 * p
def POOL_CFG_B_COUNT (p : Nat) : RF := ⟨(POOL_CFG_B_addr p), 71, 46⟩
def POOL_CFG_B_META_BASE (p : Nat) : RF := ⟨(POOL_CFG_B_addr p), 45, 10⟩
/-- POOL_STATUS: Pool p status (17, by R492). -/
def POOL_STATUS_addr (p : Nat) : Nat := 0x0B0002 + 4 * p
def POOL_STATUS_STATE (p : Nat) : RF := ⟨(POOL_STATUS_addr p), 71, 70⟩
def POOL_STATUS_REASON (p : Nat) : RF := ⟨(POOL_STATUS_addr p), 69, 66⟩
def POOL_STATUS_FREE (p : Nat) : RF := ⟨(POOL_STATUS_addr p), 65, 40⟩
def POOL_STATUS_LOW_MARK (p : Nat) : RF := ⟨(POOL_STATUS_addr p), 39, 14⟩
def POOL_STATUS_CACHED (p : Nat) : RF := ⟨(POOL_STATUS_addr p), 13, 7⟩
/-- POOL_COUNTS: Pool p counters (17, by R492). -/
def POOL_COUNTS_addr (p : Nat) : Nat := 0x0B0003 + 4 * p
def POOL_COUNTS_EMPTIES (p : Nat) : RF := ⟨(POOL_COUNTS_addr p), 71, 56⟩
def POOL_COUNTS_FALLBACKS (p : Nat) : RF := ⟨(POOL_COUNTS_addr p), 55, 40⟩
def POOL_COUNTS_BAD_PUTS (p : Nat) : RF := ⟨(POOL_COUNTS_addr p), 39, 24⟩
/-- POOL_TAKE: Host take from pool p (17, by R492). -/
def POOL_TAKE_addr (p : Nat) : Nat := 0x0B0040 + p
def POOL_TAKE_HANDLE (p : Nat) : RF := ⟨(POOL_TAKE_addr p), 71, 0⟩
/-- POOL_HOST_HANDLE: Host command handle (17, by R492). -/
def POOL_HOST_HANDLE_addr : Nat := 0x0B0050
def POOL_HOST_HANDLE_HANDLE : RF := ⟨POOL_HOST_HANDLE_addr, 71, 0⟩
/-- POOL_HOST_CMD: Host pool command (17, by R492). -/
def POOL_HOST_CMD_addr : Nat := 0x0B0051
def POOL_HOST_CMD_OP : RF := ⟨POOL_HOST_CMD_addr, 71, 70⟩
def POOL_HOST_CMD_NEW_OWNER : RF := ⟨POOL_HOST_CMD_addr, 69, 60⟩
def POOL_HOST_CMD_CHANNEL : RF := ⟨POOL_HOST_CMD_addr, 59, 51⟩
/-- POOL_HOST_STATUS: Host command result (17, by R492). -/
def POOL_HOST_STATUS_addr : Nat := 0x0B0052
def POOL_HOST_STATUS_BUSY : RF := ⟨POOL_HOST_STATUS_addr, 71, 71⟩
def POOL_HOST_STATUS_RESULT : RF := ⟨POOL_HOST_STATUS_addr, 70, 63⟩
def POOL_HOST_STATUS_REASON : RF := ⟨POOL_HOST_STATUS_addr, 62, 59⟩
def POOL_HOST_STATUS_RECLAIMED : RF := ⟨POOL_HOST_STATUS_addr, 58, 33⟩
/-- POOL_BAD: Last refused return or pass (17, by R492). -/
def POOL_BAD_addr : Nat := 0x0B0053
def POOL_BAD_ADDR : RF := ⟨POOL_BAD_addr, 71, 36⟩
def POOL_BAD_CALLER : RF := ⟨POOL_BAD_addr, 35, 26⟩
def POOL_BAD_REASON : RF := ⟨POOL_BAD_addr, 25, 22⟩
def POOL_BAD_GEN : RF := ⟨POOL_BAD_addr, 21, 6⟩
/-- POOL_EVENTS: Pool and FIFO events (17, by R492). -/
def POOL_EVENTS_addr : Nat := 0x0B0054
def POOL_EVENTS_BAD_HANDLE : RF := ⟨POOL_EVENTS_addr, 3, 3⟩
def POOL_EVENTS_POOL_EMPTY : RF := ⟨POOL_EVENTS_addr, 2, 2⟩
def POOL_EVENTS_FIFO_OVERRUN : RF := ⟨POOL_EVENTS_addr, 1, 1⟩
def POOL_EVENTS_PKT_DROP : RF := ⟨POOL_EVENTS_addr, 0, 0⟩
/-- FIFO_CTRL: FIFO f control, f = 0–63 (17, by R492). -/
def FIFO_CTRL_addr (f : Nat) : Nat := 0x0B1000 + 4 * f
def FIFO_CTRL_ENABLE (f : Nat) : RF := ⟨(FIFO_CTRL_addr f), 71, 71⟩
def FIFO_CTRL_PACKET (f : Nat) : RF := ⟨(FIFO_CTRL_addr f), 70, 70⟩
def FIFO_CTRL_READER_KIND (f : Nat) : RF := ⟨(FIFO_CTRL_addr f), 69, 68⟩
def FIFO_CTRL_READER (f : Nat) : RF := ⟨(FIFO_CTRL_addr f), 67, 58⟩
def FIFO_CTRL_WRITER_VALID (f : Nat) : RF := ⟨(FIFO_CTRL_addr f), 57, 57⟩
def FIFO_CTRL_WRITER (f : Nat) : RF := ⟨(FIFO_CTRL_addr f), 56, 48⟩
/-- FIFO_STATUS: FIFO f status (17, by R492). -/
def FIFO_STATUS_addr (f : Nat) : Nat := 0x0B1001 + 4 * f
def FIFO_STATUS_COUNT (f : Nat) : RF := ⟨(FIFO_STATUS_addr f), 71, 63⟩
def FIFO_STATUS_READY (f : Nat) : RF := ⟨(FIFO_STATUS_addr f), 62, 54⟩
def FIFO_STATUS_OPEN (f : Nat) : RF := ⟨(FIFO_STATUS_addr f), 53, 46⟩
def FIFO_STATUS_PEAK (f : Nat) : RF := ⟨(FIFO_STATUS_addr f), 45, 37⟩
/-- FIFO_COUNTS: FIFO f counters (17, by R492). -/
def FIFO_COUNTS_addr (f : Nat) : Nat := 0x0B1002 + 4 * f
def FIFO_COUNTS_OVERRUNS (f : Nat) : RF := ⟨(FIFO_COUNTS_addr f), 71, 48⟩
def FIFO_COUNTS_PKT_DROPS (f : Nat) : RF := ⟨(FIFO_COUNTS_addr f), 47, 32⟩
def FIFO_COUNTS_FLUSHED (f : Nat) : RF := ⟨(FIFO_COUNTS_addr f), 31, 16⟩
def FIFO_COUNTS_EMPTY_POPS (f : Nat) : RF := ⟨(FIFO_COUNTS_addr f), 15, 0⟩
/-- FIFO_CLOSE: FIFO f packet close (17, by R492). -/
def FIFO_CLOSE_addr (f : Nat) : Nat := 0x0B1003 + 4 * f
def FIFO_CLOSE_PRIO (f : Nat) : RF := ⟨(FIFO_CLOSE_addr f), 71, 69⟩
def FIFO_CLOSE_DISCARD (f : Nat) : RF := ⟨(FIFO_CLOSE_addr f), 68, 68⟩
/-- FIFO_POP: Register pop (R488) (17, by R492). -/
def FIFO_POP_addr (f : Nat) : Nat := 0x0B1400 + f
def FIFO_POP_DATA (f : Nat) : RF := ⟨(FIFO_POP_addr f), 71, 0⟩
/-- FIFO_PUSH: Host push at priority q, q = 0–7 (17, by R492). -/
def FIFO_PUSH_addr (f : Nat) (q : Nat) : Nat := 0x0B1800 + 8 * f + q
def FIFO_PUSH_DATA (f : Nat) (q : Nat) : RF := ⟨(FIFO_PUSH_addr f q), 71, 0⟩

/-! ### 18_host_port_rings_dma.md -/

/-- HOST_LINK: Link state (18, by R524). -/
def HOST_LINK_addr : Nat := 0x0C0000
def HOST_LINK_SPEED : RF := ⟨HOST_LINK_addr, 71, 69⟩
def HOST_LINK_WIDTH : RF := ⟨HOST_LINK_addr, 68, 64⟩
def HOST_LINK_HOT_RESETS : RF := ⟨HOST_LINK_addr, 63, 48⟩
def HOST_LINK_FLRS : RF := ⟨HOST_LINK_addr, 47, 32⟩
def HOST_LINK_LINK_DOWNS : RF := ⟨HOST_LINK_addr, 31, 16⟩
/-- HOST_ABI: Host ABI (18, by R524). -/
def HOST_ABI_addr : Nat := 0x0C0001
def HOST_ABI_REQUEST : RF := ⟨HOST_ABI_addr, 71, 64⟩
def HOST_ABI_ACCEPTED : RF := ⟨HOST_ABI_addr, 63, 56⟩
def HOST_ABI_KW40_MODE : RF := ⟨HOST_ABI_addr, 55, 55⟩
def HOST_ABI_REJECTED : RF := ⟨HOST_ABI_addr, 54, 54⟩
/-- HOST_WINDOW: BAR4 window (18, by R524). -/
def HOST_WINDOW_addr : Nat := 0x0C0002
def HOST_WINDOW_DRAM_WIN_BASE : RF := ⟨HOST_WINDOW_addr, 71, 36⟩
/-- HOST_ERRORS: Host access errors (18, by R524). -/
def HOST_ERRORS_addr : Nat := 0x0C0003
def HOST_ERRORS_BAD_ACCESS : RF := ⟨HOST_ERRORS_addr, 71, 48⟩
def HOST_ERRORS_DOORBELL_ERRS : RF := ⟨HOST_ERRORS_addr, 47, 24⟩
def HOST_ERRORS_BAR4_RANGE : RF := ⟨HOST_ERRORS_addr, 23, 0⟩
/-- HOST_EVENTS: Host port events (18, by R524). -/
def HOST_EVENTS_addr : Nat := 0x0C0004
def HOST_EVENTS_BUS_ERROR : RF := ⟨HOST_EVENTS_addr, 3, 3⟩
def HOST_EVENTS_DESC_ERROR : RF := ⟨HOST_EVENTS_addr, 2, 2⟩
def HOST_EVENTS_CQ_DROP : RF := ⟨HOST_EVENTS_addr, 1, 1⟩
def HOST_EVENTS_HOST_RESET : RF := ⟨HOST_EVENTS_addr, 0, 0⟩
/-- SQ_BASE: Submission ring base (18, by R524). -/
def SQ_BASE_addr (n : Nat) : Nat := 0x0C1000 + 8 * n
def SQ_BASE_BASE (n : Nat) : RF := ⟨(SQ_BASE_addr n), 71, 8⟩
/-- SQ_BASE_ADMIN: Submission ring base (18, by R524). -/
def SQ_BASE_ADMIN_addr : Nat := 0x0C0800
def SQ_BASE_ADMIN_BASE : RF := ⟨SQ_BASE_ADMIN_addr, 71, 8⟩
/-- SQ_CTRL: Submission ring control (18, by R524). -/
def SQ_CTRL_addr (n : Nat) : Nat := 0x0C1001 + 8 * n
def SQ_CTRL_ENABLE (n : Nat) : RF := ⟨(SQ_CTRL_addr n), 71, 71⟩
def SQ_CTRL_SIZE_LOG2 (n : Nat) : RF := ⟨(SQ_CTRL_addr n), 70, 66⟩
def SQ_CTRL_INBOX_ADDR (n : Nat) : RF := ⟨(SQ_CTRL_addr n), 65, 30⟩
def SQ_CTRL_HOST_FIFO (n : Nat) : RF := ⟨(SQ_CTRL_addr n), 29, 24⟩
def SQ_CTRL_FIFO_PRIO (n : Nat) : RF := ⟨(SQ_CTRL_addr n), 23, 21⟩
def SQ_CTRL_PREFETCH (n : Nat) : RF := ⟨(SQ_CTRL_addr n), 20, 19⟩
/-- SQ_CTRL_ADMIN: Submission ring control (18, by R524). -/
def SQ_CTRL_ADMIN_addr : Nat := 0x0C0801
def SQ_CTRL_ADMIN_ENABLE : RF := ⟨SQ_CTRL_ADMIN_addr, 71, 71⟩
def SQ_CTRL_ADMIN_SIZE_LOG2 : RF := ⟨SQ_CTRL_ADMIN_addr, 70, 66⟩
def SQ_CTRL_ADMIN_INBOX_ADDR : RF := ⟨SQ_CTRL_ADMIN_addr, 65, 30⟩
def SQ_CTRL_ADMIN_HOST_FIFO : RF := ⟨SQ_CTRL_ADMIN_addr, 29, 24⟩
def SQ_CTRL_ADMIN_FIFO_PRIO : RF := ⟨SQ_CTRL_ADMIN_addr, 23, 21⟩
def SQ_CTRL_ADMIN_PREFETCH : RF := ⟨SQ_CTRL_ADMIN_addr, 20, 19⟩
/-- SQ_STATE: Submission ring state (18, by R525). -/
def SQ_STATE_addr (n : Nat) : Nat := 0x0C1002 + 8 * n
def SQ_STATE_FETCH (n : Nat) : RF := ⟨(SQ_STATE_addr n), 71, 56⟩
def SQ_STATE_HEAD (n : Nat) : RF := ⟨(SQ_STATE_addr n), 55, 40⟩
def SQ_STATE_DOORBELL (n : Nat) : RF := ⟨(SQ_STATE_addr n), 39, 24⟩
def SQ_STATE_PHASE (n : Nat) : RF := ⟨(SQ_STATE_addr n), 23, 23⟩
/-- SQ_STATE_ADMIN: Submission ring state (18, by R525). -/
def SQ_STATE_ADMIN_addr : Nat := 0x0C0802
def SQ_STATE_ADMIN_FETCH : RF := ⟨SQ_STATE_ADMIN_addr, 71, 56⟩
def SQ_STATE_ADMIN_HEAD : RF := ⟨SQ_STATE_ADMIN_addr, 55, 40⟩
def SQ_STATE_ADMIN_DOORBELL : RF := ⟨SQ_STATE_ADMIN_addr, 39, 24⟩
def SQ_STATE_ADMIN_PHASE : RF := ⟨SQ_STATE_ADMIN_addr, 23, 23⟩
/-- CQ_BASE: Completion ring base (18, by R525). -/
def CQ_BASE_addr (n : Nat) : Nat := 0x0C1003 + 8 * n
def CQ_BASE_BASE (n : Nat) : RF := ⟨(CQ_BASE_addr n), 71, 8⟩
/-- CQ_BASE_ADMIN: Completion ring base (18, by R525). -/
def CQ_BASE_ADMIN_addr : Nat := 0x0C0803
def CQ_BASE_ADMIN_BASE : RF := ⟨CQ_BASE_ADMIN_addr, 71, 8⟩
/-- CQ_CTRL: Completion ring control (18, by R525). -/
def CQ_CTRL_addr (n : Nat) : Nat := 0x0C1004 + 8 * n
def CQ_CTRL_ENABLE (n : Nat) : RF := ⟨(CQ_CTRL_addr n), 71, 71⟩
def CQ_CTRL_SIZE_LOG2 (n : Nat) : RF := ⟨(CQ_CTRL_addr n), 70, 66⟩
/-- CQ_CTRL_ADMIN: Completion ring control (18, by R525). -/
def CQ_CTRL_ADMIN_addr : Nat := 0x0C0804
def CQ_CTRL_ADMIN_ENABLE : RF := ⟨CQ_CTRL_ADMIN_addr, 71, 71⟩
def CQ_CTRL_ADMIN_SIZE_LOG2 : RF := ⟨CQ_CTRL_ADMIN_addr, 70, 66⟩
/-- CQ_STATE: Completion ring state (18, by R525). -/
def CQ_STATE_addr (n : Nat) : Nat := 0x0C1005 + 8 * n
def CQ_STATE_TAIL (n : Nat) : RF := ⟨(CQ_STATE_addr n), 71, 56⟩
def CQ_STATE_HEAD (n : Nat) : RF := ⟨(CQ_STATE_addr n), 55, 40⟩
def CQ_STATE_PHASE (n : Nat) : RF := ⟨(CQ_STATE_addr n), 39, 39⟩
/-- CQ_STATE_ADMIN: Completion ring state (18, by R525). -/
def CQ_STATE_ADMIN_addr : Nat := 0x0C0805
def CQ_STATE_ADMIN_TAIL : RF := ⟨CQ_STATE_ADMIN_addr, 71, 56⟩
def CQ_STATE_ADMIN_HEAD : RF := ⟨CQ_STATE_ADMIN_addr, 55, 40⟩
def CQ_STATE_ADMIN_PHASE : RF := ⟨CQ_STATE_ADMIN_addr, 39, 39⟩
/-- RING_COUNTS: Ring counters (18, by R525). -/
def RING_COUNTS_addr (n : Nat) : Nat := 0x0C1006 + 8 * n
def RING_COUNTS_ENTRIES (n : Nat) : RF := ⟨(RING_COUNTS_addr n), 71, 40⟩
def RING_COUNTS_REQ_FAILS (n : Nat) : RF := ⟨(RING_COUNTS_addr n), 39, 24⟩
def RING_COUNTS_CQ_DROPS (n : Nat) : RF := ⟨(RING_COUNTS_addr n), 23, 8⟩
/-- RING_COUNTS_ADMIN: Ring counters (18, by R525). -/
def RING_COUNTS_ADMIN_addr : Nat := 0x0C0806
def RING_COUNTS_ADMIN_ENTRIES : RF := ⟨RING_COUNTS_ADMIN_addr, 71, 40⟩
def RING_COUNTS_ADMIN_REQ_FAILS : RF := ⟨RING_COUNTS_ADMIN_addr, 39, 24⟩
def RING_COUNTS_ADMIN_CQ_DROPS : RF := ⟨RING_COUNTS_ADMIN_addr, 23, 8⟩
/-- DMA_GLOBAL: DMA engine control (18, by R525). -/
def DMA_GLOBAL_addr : Nat := 0x0C4000
def DMA_GLOBAL_SERVICE : RF := ⟨DMA_GLOBAL_addr, 71, 71⟩
def DMA_GLOBAL_BUS_ERROR : RF := ⟨DMA_GLOBAL_addr, 70, 70⟩
def DMA_GLOBAL_BUS_REASON : RF := ⟨DMA_GLOBAL_addr, 69, 66⟩
def DMA_GLOBAL_CLEAR : RF := ⟨DMA_GLOBAL_addr, 65, 65⟩
def DMA_GLOBAL_BURST : RF := ⟨DMA_GLOBAL_addr, 64, 62⟩
/-- DMA_CTRL: DMA channel k control, k = 0–31 (18, by R525). -/
def DMA_CTRL_addr (k : Nat) : Nat := 0x0C4010 + 4 * k
def DMA_CTRL_DESC (k : Nat) : RF := ⟨(DMA_CTRL_addr k), 71, 36⟩
def DMA_CTRL_START (k : Nat) : RF := ⟨(DMA_CTRL_addr k), 35, 35⟩
def DMA_CTRL_ABORT (k : Nat) : RF := ⟨(DMA_CTRL_addr k), 34, 34⟩
def DMA_CTRL_RESUME (k : Nat) : RF := ⟨(DMA_CTRL_addr k), 33, 33⟩
def DMA_CTRL_PRIO (k : Nat) : RF := ⟨(DMA_CTRL_addr k), 32, 32⟩
/-- DMA_STATUS: DMA channel k status (18, by R525). -/
def DMA_STATUS_addr (k : Nat) : Nat := 0x0C4011 + 4 * k
def DMA_STATUS_STATE (k : Nat) : RF := ⟨(DMA_STATUS_addr k), 71, 69⟩
def DMA_STATUS_DESC_ERR (k : Nat) : RF := ⟨(DMA_STATUS_addr k), 68, 65⟩
def DMA_STATUS_DESCS_DONE (k : Nat) : RF := ⟨(DMA_STATUS_addr k), 64, 33⟩
/-- DMA_PROGRESS: DMA channel k progress (18, by R525). -/
def DMA_PROGRESS_addr (k : Nat) : Nat := 0x0C4012 + 4 * k
def DMA_PROGRESS_CURRENT (k : Nat) : RF := ⟨(DMA_PROGRESS_addr k), 71, 36⟩
def DMA_PROGRESS_WORDS_DONE (k : Nat) : RF := ⟨(DMA_PROGRESS_addr k), 35, 0⟩
/-- CS_CTRL: Content store control (18, by R525). -/
def CS_CTRL_addr : Nat := 0x0C6000
def CS_CTRL_ENABLE : RF := ⟨CS_CTRL_addr, 71, 68⟩
def CS_CTRL_MAX_SPEED : RF := ⟨CS_CTRL_addr, 67, 65⟩
/-- CS_QUEUE: Content queue (18, by R525). -/
def CS_QUEUE_addr : Nat := 0x0C6001
def CS_QUEUE_DEPTH : RF := ⟨CS_QUEUE_addr, 71, 60⟩
def CS_QUEUE_LIVE : RF := ⟨CS_QUEUE_addr, 59, 48⟩
/-- CS_DRIVE: Drive d status, d = 0–3 (18, by R525). -/
def CS_DRIVE_addr (d : Nat) : Nat := 0x0C6010 + 4 * d
def CS_DRIVE_STATE (d : Nat) : RF := ⟨(CS_DRIVE_addr d), 71, 69⟩
def CS_DRIVE_REASON (d : Nat) : RF := ⟨(CS_DRIVE_addr d), 68, 65⟩
def CS_DRIVE_SPEED (d : Nat) : RF := ⟨(CS_DRIVE_addr d), 64, 62⟩
def CS_DRIVE_WIDTH (d : Nat) : RF := ⟨(CS_DRIVE_addr d), 61, 60⟩
def CS_DRIVE_BLOCK_4K (d : Nat) : RF := ⟨(CS_DRIVE_addr d), 59, 59⟩
/-- CS_CAPACITY: Drive d capacity (18, by R525). -/
def CS_CAPACITY_addr (d : Nat) : Nat := 0x0C6011 + 4 * d
def CS_CAPACITY_BLOCKS (d : Nat) : RF := ⟨(CS_CAPACITY_addr d), 71, 8⟩
/-- CS_COUNTS: Drive d counters (18, by R525). -/
def CS_COUNTS_addr (d : Nat) : Nat := 0x0C6012 + 4 * d
def CS_COUNTS_READS (d : Nat) : RF := ⟨(CS_COUNTS_addr d), 71, 48⟩
def CS_COUNTS_WRITES (d : Nat) : RF := ⟨(CS_COUNTS_addr d), 47, 24⟩
def CS_COUNTS_ERRORS (d : Nat) : RF := ⟨(CS_COUNTS_addr d), 23, 12⟩
def CS_COUNTS_RESETS (d : Nat) : RF := ⟨(CS_COUNTS_addr d), 11, 0⟩
/-- CS_BYTES: Drive d traffic (18, by R525). -/
def CS_BYTES_addr (d : Nat) : Nat := 0x0C6013 + 4 * d
def CS_BYTES_KBYTES_READ (d : Nat) : RF := ⟨(CS_BYTES_addr d), 71, 36⟩
def CS_BYTES_KBYTES_WRITTEN (d : Nat) : RF := ⟨(CS_BYTES_addr d), 35, 0⟩

/-! ### 19_mailboxes_interrupts.md -/

/-- TELLER: Mailbox binding, m = 0–63 (19, by R547). -/
def TELLER_addr (m : Nat) : Nat := 0x0D0000 + 16 * m
def TELLER_VALID (m : Nat) : RF := ⟨(TELLER_addr m), 71, 71⟩
def TELLER_MASTER_A (m : Nat) : RF := ⟨(TELLER_addr m), 70, 67⟩
def TELLER_MASTER_B (m : Nat) : RF := ⟨(TELLER_addr m), 66, 63⟩
/-- MBX_CTRL: Mailbox timer (19, by R547). -/
def MBX_CTRL_addr (m : Nat) : Nat := 0x0D0001 + 16 * m
def MBX_CTRL_TIMEOUT_US (m : Nat) : RF := ⟨(MBX_CTRL_addr m), 71, 52⟩
/-- A_POST: Post, X = A at offset +2, B at offset +6 (19, by R547). -/
def A_POST_addr (m : Nat) : Nat := 0x0D0002 + 16 * m
def A_POST_MESSAGE (m : Nat) : RF := ⟨(A_POST_addr m), 71, 0⟩
/-- B_POST: Post, X = A at offset +2, B at offset +6 (19, by R547). -/
def B_POST_addr (m : Nat) : Nat := 0x0D0006 + 16 * m
def B_POST_MESSAGE (m : Nat) : RF := ⟨(B_POST_addr m), 71, 0⟩
/-- A_RECV: Take, X = A at offset +3, B at offset +7 (19, by R547). -/
def A_RECV_addr (m : Nat) : Nat := 0x0D0003 + 16 * m
def A_RECV_MESSAGE (m : Nat) : RF := ⟨(A_RECV_addr m), 71, 0⟩
/-- B_RECV: Take, X = A at offset +3, B at offset +7 (19, by R547). -/
def B_RECV_addr (m : Nat) : Nat := 0x0D0007 + 16 * m
def B_RECV_MESSAGE (m : Nat) : RF := ⟨(B_RECV_addr m), 71, 0⟩
/-- A_ACK: Acknowledge, X = A at offset +4, B at offset +8 (19, by R547). -/
def A_ACK_addr (m : Nat) : Nat := 0x0D0004 + 16 * m
def A_ACK_SIDE_RESET (m : Nat) : RF := ⟨(A_ACK_addr m), 71, 71⟩
def A_ACK_CODE (m : Nat) : RF := ⟨(A_ACK_addr m), 15, 0⟩
/-- B_ACK: Acknowledge, X = A at offset +4, B at offset +8 (19, by R547). -/
def B_ACK_addr (m : Nat) : Nat := 0x0D0008 + 16 * m
def B_ACK_SIDE_RESET (m : Nat) : RF := ⟨(B_ACK_addr m), 71, 71⟩
def B_ACK_CODE (m : Nat) : RF := ⟨(B_ACK_addr m), 15, 0⟩
/-- A_STATUS: Side status, X = A at offset +5, B at offset +9 (19, by R547). -/
def A_STATUS_addr (m : Nat) : Nat := 0x0D0005 + 16 * m
def A_STATUS_OUT_STATE (m : Nat) : RF := ⟨(A_STATUS_addr m), 71, 70⟩
def A_STATUS_OUT_STALE (m : Nat) : RF := ⟨(A_STATUS_addr m), 69, 69⟩
def A_STATUS_ACK_VALID (m : Nat) : RF := ⟨(A_STATUS_addr m), 68, 68⟩
def A_STATUS_TIMEOUT (m : Nat) : RF := ⟨(A_STATUS_addr m), 67, 67⟩
def A_STATUS_ACK_TAKEN (m : Nat) : RF := ⟨(A_STATUS_addr m), 66, 66⟩
def A_STATUS_ACK_CODE (m : Nat) : RF := ⟨(A_STATUS_addr m), 65, 50⟩
def A_STATUS_IN_STATE (m : Nat) : RF := ⟨(A_STATUS_addr m), 49, 48⟩
def A_STATUS_IN_EPOCH (m : Nat) : RF := ⟨(A_STATUS_addr m), 47, 40⟩
def A_STATUS_PEER_EPOCH (m : Nat) : RF := ⟨(A_STATUS_addr m), 39, 32⟩
def A_STATUS_SIDE_EPOCH (m : Nat) : RF := ⟨(A_STATUS_addr m), 31, 24⟩
def A_STATUS_PEER (m : Nat) : RF := ⟨(A_STATUS_addr m), 23, 20⟩
/-- B_STATUS: Side status, X = A at offset +5, B at offset +9 (19, by R547). -/
def B_STATUS_addr (m : Nat) : Nat := 0x0D0009 + 16 * m
def B_STATUS_OUT_STATE (m : Nat) : RF := ⟨(B_STATUS_addr m), 71, 70⟩
def B_STATUS_OUT_STALE (m : Nat) : RF := ⟨(B_STATUS_addr m), 69, 69⟩
def B_STATUS_ACK_VALID (m : Nat) : RF := ⟨(B_STATUS_addr m), 68, 68⟩
def B_STATUS_TIMEOUT (m : Nat) : RF := ⟨(B_STATUS_addr m), 67, 67⟩
def B_STATUS_ACK_TAKEN (m : Nat) : RF := ⟨(B_STATUS_addr m), 66, 66⟩
def B_STATUS_ACK_CODE (m : Nat) : RF := ⟨(B_STATUS_addr m), 65, 50⟩
def B_STATUS_IN_STATE (m : Nat) : RF := ⟨(B_STATUS_addr m), 49, 48⟩
def B_STATUS_IN_EPOCH (m : Nat) : RF := ⟨(B_STATUS_addr m), 47, 40⟩
def B_STATUS_PEER_EPOCH (m : Nat) : RF := ⟨(B_STATUS_addr m), 39, 32⟩
def B_STATUS_SIDE_EPOCH (m : Nat) : RF := ⟨(B_STATUS_addr m), 31, 24⟩
def B_STATUS_PEER (m : Nat) : RF := ⟨(B_STATUS_addr m), 23, 20⟩
/-- MBX_COUNTS: Mailbox counters (19, by R547). -/
def MBX_COUNTS_addr (m : Nat) : Nat := 0x0D000A + 16 * m
def MBX_COUNTS_POSTS (m : Nat) : RF := ⟨(MBX_COUNTS_addr m), 71, 48⟩
def MBX_COUNTS_TIMEOUTS (m : Nat) : RF := ⟨(MBX_COUNTS_addr m), 47, 36⟩
def MBX_COUNTS_FULL_WRITES (m : Nat) : RF := ⟨(MBX_COUNTS_addr m), 35, 24⟩
def MBX_COUNTS_STALE_ACKS (m : Nat) : RF := ⟨(MBX_COUNTS_addr m), 23, 12⟩
def MBX_COUNTS_DENIED (m : Nat) : RF := ⟨(MBX_COUNTS_addr m), 11, 0⟩
/-- MBX_GLOBAL: Teller lock (19, by R547). -/
def MBX_GLOBAL_addr : Nat := 0x0D0400
def MBX_GLOBAL_TELLER_LOCK : RF := ⟨MBX_GLOBAL_addr, 71, 71⟩
/-- MBX_HOST_IN: Host mailbox pending bits (19, by R547). -/
def MBX_HOST_IN_addr : Nat := 0x0D0401
def MBX_HOST_IN_MAILBOX : RF := ⟨MBX_HOST_IN_addr, 63, 0⟩
/-- MBX_HOST_ACK: Host mailbox pending bits (19, by R547). -/
def MBX_HOST_ACK_addr : Nat := 0x0D0402
def MBX_HOST_ACK_MAILBOX : RF := ⟨MBX_HOST_ACK_addr, 63, 0⟩
/-- HOST_INT_PEND: Admin and DMA pending bits (19, by R547). -/
def HOST_INT_PEND_addr : Nat := 0x0D0403
def HOST_INT_PEND_DMA : RF := ⟨HOST_INT_PEND_addr, 31, 2⟩
def HOST_INT_PEND_ADMIN_CQ : RF := ⟨HOST_INT_PEND_addr, 0, 0⟩
/-- CHAN_INT_PEND: Channel pending bits, n = 0–511 (19, by R547). -/
def CHAN_INT_PEND_addr (n : Nat) : Nat := 0x0D1000 + 2 * n
def CHAN_INT_PEND_PEND (n : Nat) : RF := ⟨(CHAN_INT_PEND_addr n), 7, 0⟩
/-- CHAN_INT_CTRL: Channel masks and routes (19, by R547). -/
def CHAN_INT_CTRL_addr (n : Nat) : Nat := 0x0D1001 + 2 * n
def CHAN_INT_CTRL_MASK (n : Nat) : RF := ⟨(CHAN_INT_CTRL_addr n), 71, 64⟩
def CHAN_INT_CTRL_ROUTE (n : Nat) : RF := ⟨(CHAN_INT_CTRL_addr n), 63, 56⟩
def CHAN_INT_CTRL_VECTOR (n : Nat) : RF := ⟨(CHAN_INT_CTRL_addr n), 55, 45⟩
/-- GROUP_CTRL: Source group control, g = 0–63 (19, by R547). -/
def GROUP_CTRL_addr (g : Nat) : Nat := 0x0D2000 + 2 * g
def GROUP_CTRL_ENABLE (g : Nat) : RF := ⟨(GROUP_CTRL_addr g), 71, 71⟩
def GROUP_CTRL_MASTER (g : Nat) : RF := ⟨(GROUP_CTRL_addr g), 70, 67⟩
def GROUP_CTRL_HOLDOFF (g : Nat) : RF := ⟨(GROUP_CTRL_addr g), 66, 51⟩
def GROUP_CTRL_VECTOR (g : Nat) : RF := ⟨(GROUP_CTRL_addr g), 50, 40⟩
/-- GROUP_STATUS: Source group status (19, by R547). -/
def GROUP_STATUS_addr (g : Nat) : Nat := 0x0D2001 + 2 * g
def GROUP_STATUS_HOLDING (g : Nat) : RF := ⟨(GROUP_STATUS_addr g), 71, 71⟩
def GROUP_STATUS_RECORDED (g : Nat) : RF := ⟨(GROUP_STATUS_addr g), 70, 70⟩
def GROUP_STATUS_SIGNALS (g : Nat) : RF := ⟨(GROUP_STATUS_addr g), 69, 40⟩
def GROUP_STATUS_COALESCED (g : Nat) : RF := ⟨(GROUP_STATUS_addr g), 39, 10⟩

/-! ### 20_fabric_federation.md -/

/-- FAB_IDENT: Fabric identity (20, by R579). -/
def FAB_IDENT_addr : Nat := 0x0E0000
def FAB_IDENT_IDENT : RF := ⟨FAB_IDENT_addr, 71, 54⟩
def FAB_IDENT_DOMAIN_ID : RF := ⟨FAB_IDENT_addr, 53, 38⟩
def FAB_IDENT_ELIGIBLE : RF := ⟨FAB_IDENT_addr, 37, 37⟩
def FAB_IDENT_VERSION_MAX : RF := ⟨FAB_IDENT_addr, 36, 35⟩
def FAB_IDENT_LOCK : RF := ⟨FAB_IDENT_addr, 34, 34⟩
/-- FAB_CTRL: Fabric and epoch control (20, by R579). -/
def FAB_CTRL_addr : Nat := 0x0E0001
def FAB_CTRL_ENABLE : RF := ⟨FAB_CTRL_addr, 71, 71⟩
def FAB_CTRL_EPOCH_PERIOD : RF := ⟨FAB_CTRL_addr, 70, 51⟩
def FAB_CTRL_HOUSE_TIMEOUT : RF := ⟨FAB_CTRL_addr, 50, 45⟩
def FAB_CTRL_PARTITION_TIMEOUT : RF := ⟨FAB_CTRL_addr, 44, 33⟩
def FAB_CTRL_READY_DEADLINE : RF := ⟨FAB_CTRL_addr, 32, 17⟩
def FAB_CTRL_COMMIT_LEAD : RF := ⟨FAB_CTRL_addr, 16, 5⟩
/-- FAB_STATUS: Fabric status (20, by R579). -/
def FAB_STATUS_addr : Nat := 0x0E0002
def FAB_STATUS_ROLE : RF := ⟨FAB_STATUS_addr, 71, 70⟩
def FAB_STATUS_HOUSE : RF := ⟨FAB_STATUS_addr, 69, 52⟩
def FAB_STATUS_STANDBY : RF := ⟨FAB_STATUS_addr, 51, 34⟩
def FAB_STATUS_PRESENT : RF := ⟨FAB_STATUS_addr, 33, 15⟩
def FAB_STATUS_COMPACT : RF := ⟨FAB_STATUS_addr, 14, 14⟩
def FAB_STATUS_QUORUM : RF := ⟨FAB_STATUS_addr, 13, 13⟩
def FAB_STATUS_CUT_OFF : RF := ⟨FAB_STATUS_addr, 12, 12⟩
def FAB_STATUS_LOCAL_ONLY : RF := ⟨FAB_STATUS_addr, 11, 11⟩
/-- FAB_EPOCH: Epoch state (20, by R579). -/
def FAB_EPOCH_addr : Nat := 0x0E0003
def FAB_EPOCH_OPEN : RF := ⟨FAB_EPOCH_addr, 71, 32⟩
def FAB_EPOCH_TERM : RF := ⟨FAB_EPOCH_addr, 31, 16⟩
/-- FAB_COMMITTED: Last latched commit (20, by R579). -/
def FAB_COMMITTED_addr : Nat := 0x0E0004
def FAB_COMMITTED_LAST_COMMITTED : RF := ⟨FAB_COMMITTED_addr, 71, 32⟩
/-- FAB_COMMIT_TIME: Time of last commit (20, by R579). -/
def FAB_COMMIT_TIME_addr : Nat := 0x0E0005
def FAB_COMMIT_TIME_T : RF := ⟨FAB_COMMIT_TIME_addr, 71, 0⟩
/-- FAB_EPOCH_COUNTS: Epoch counters (20, by R579). -/
def FAB_EPOCH_COUNTS_addr : Nat := 0x0E0006
def FAB_EPOCH_COUNTS_COMMITS : RF := ⟨FAB_EPOCH_COUNTS_addr, 71, 40⟩
def FAB_EPOCH_COUNTS_LATE_APPLIES : RF := ⟨FAB_EPOCH_COUNTS_addr, 39, 24⟩
def FAB_EPOCH_COUNTS_MISSES : RF := ⟨FAB_EPOCH_COUNTS_addr, 23, 8⟩
def FAB_EPOCH_COUNTS_TAKEOVERS : RF := ⟨FAB_EPOCH_COUNTS_addr, 7, 0⟩
/-- FAB_EVENTS: Fabric events (20, by R579). -/
def FAB_EVENTS_addr : Nat := 0x0E0008
def FAB_EVENTS_LINK : RF := ⟨FAB_EVENTS_addr, 5, 5⟩
def FAB_EVENTS_TAKEOVER : RF := ⟨FAB_EVENTS_addr, 4, 4⟩
def FAB_EVENTS_DROPPED : RF := ⟨FAB_EVENTS_addr, 3, 3⟩
def FAB_EVENTS_CUT_OFF : RF := ⟨FAB_EVENTS_addr, 2, 2⟩
def FAB_EVENTS_REROUTE : RF := ⟨FAB_EVENTS_addr, 1, 1⟩
def FAB_EVENTS_TIME_HOLDOVER : RF := ⟨FAB_EVENTS_addr, 0, 0⟩
/-- FAB_TIME_CTRL: Time source (20, by R579). -/
def FAB_TIME_CTRL_addr : Nat := 0x0E0010
def FAB_TIME_CTRL_UPLINK_PTP : RF := ⟨FAB_TIME_CTRL_addr, 71, 71⟩
def FAB_TIME_CTRL_UPLINK : RF := ⟨FAB_TIME_CTRL_addr, 70, 69⟩
def FAB_TIME_CTRL_PRIORITY : RF := ⟨FAB_TIME_CTRL_addr, 68, 61⟩
/-- FAB_TIME_STATUS: Time state (20, by R579). -/
def FAB_TIME_STATUS_addr : Nat := 0x0E0011
def FAB_TIME_STATUS_STATE : RF := ⟨FAB_TIME_STATUS_addr, 71, 70⟩
def FAB_TIME_STATUS_PARENT : RF := ⟨FAB_TIME_STATUS_addr, 69, 66⟩
def FAB_TIME_STATUS_HOPS : RF := ⟨FAB_TIME_STATUS_addr, 65, 58⟩
def FAB_TIME_STATUS_OFFSET : RF := ⟨FAB_TIME_STATUS_addr, 57, 26⟩
/-- FAB_LINK_CTRL: Chain link k control, k = 0–7 (20, by R579). -/
def FAB_LINK_CTRL_addr (k : Nat) : Nat := 0x0E0100 + 4 * k
def FAB_LINK_CTRL_ENABLE (k : Nat) : RF := ⟨(FAB_LINK_CTRL_addr k), 71, 71⟩
def FAB_LINK_CTRL_STOP_MASK (k : Nat) : RF := ⟨(FAB_LINK_CTRL_addr k), 70, 63⟩
/-- FAB_LINK_STATUS: Chain link k status (20, by R579). -/
def FAB_LINK_STATUS_addr (k : Nat) : Nat := 0x0E0101 + 4 * k
def FAB_LINK_STATUS_STATE (k : Nat) : RF := ⟨(FAB_LINK_STATUS_addr k), 71, 69⟩
def FAB_LINK_STATUS_REASON (k : Nat) : RF := ⟨(FAB_LINK_STATUS_addr k), 68, 66⟩
def FAB_LINK_STATUS_VERSION (k : Nat) : RF := ⟨(FAB_LINK_STATUS_addr k), 65, 64⟩
def FAB_LINK_STATUS_PEER (k : Nat) : RF := ⟨(FAB_LINK_STATUS_addr k), 63, 46⟩
def FAB_LINK_STATUS_PEER_STOPPED (k : Nat) : RF := ⟨(FAB_LINK_STATUS_addr k), 45, 38⟩
/-- FAB_LINK_COUNTS: Chain link k counters (20, by R579). -/
def FAB_LINK_COUNTS_addr (k : Nat) : Nat := 0x0E0102 + 4 * k
def FAB_LINK_COUNTS_FRAMES_SENT (k : Nat) : RF := ⟨(FAB_LINK_COUNTS_addr k), 71, 40⟩
def FAB_LINK_COUNTS_CRC_DROPS (k : Nat) : RF := ⟨(FAB_LINK_COUNTS_addr k), 39, 24⟩
def FAB_LINK_COUNTS_OTHER_DROPS (k : Nat) : RF := ⟨(FAB_LINK_COUNTS_addr k), 23, 8⟩
def FAB_LINK_COUNTS_LINK_DOWNS (k : Nat) : RF := ⟨(FAB_LINK_COUNTS_addr k), 7, 0⟩
/-- FAB_GATEWAY: Route to pane p, p = 0–63 (20, by R579). -/
def FAB_GATEWAY_addr (p : Nat) : Nat := 0x0E0200 + 4 * p
def FAB_GATEWAY_VALID (p : Nat) : RF := ⟨(FAB_GATEWAY_addr p), 71, 71⟩
def FAB_GATEWAY_GATEWAY (p : Nat) : RF := ⟨(FAB_GATEWAY_addr p), 70, 53⟩
def FAB_GATEWAY_UPLINK (p : Nat) : RF := ⟨(FAB_GATEWAY_addr p), 52, 51⟩
def FAB_GATEWAY_SUBPORT (p : Nat) : RF := ⟨(FAB_GATEWAY_addr p), 50, 49⟩
def FAB_GATEWAY_UDP_PORT (p : Nat) : RF := ⟨(FAB_GATEWAY_addr p), 48, 33⟩
def FAB_GATEWAY_IPV6 (p : Nat) : RF := ⟨(FAB_GATEWAY_addr p), 32, 32⟩
def FAB_GATEWAY_FLOOD (p : Nat) : RF := ⟨(FAB_GATEWAY_addr p), 31, 31⟩
/-- FAB_GATEWAY_HI: Remote address, high part (20, by R579). -/
def FAB_GATEWAY_HI_addr (p : Nat) : Nat := 0x0E0201 + 4 * p
def FAB_GATEWAY_HI_ADDR (p : Nat) : RF := ⟨(FAB_GATEWAY_HI_addr p), 71, 8⟩
/-- FAB_GATEWAY_LO: Remote address, low part (20, by R579). -/
def FAB_GATEWAY_LO_addr (p : Nat) : Nat := 0x0E0202 + 4 * p
def FAB_GATEWAY_LO_ADDR (p : Nat) : RF := ⟨(FAB_GATEWAY_LO_addr p), 71, 8⟩

/-! ### 21_traffic_scheduling.md -/

/-- GATE_CTRL: Gate control (21, by R603). -/
def GATE_CTRL_addr (port : Nat) : Nat := 0x0F0000 + 16 * port
def GATE_CTRL_GATES_ON (port : Nat) : RF := ⟨(GATE_CTRL_addr port), 71, 71⟩
def GATE_CTRL_FIT_HOLD (port : Nat) : RF := ⟨(GATE_CTRL_addr port), 70, 70⟩
def GATE_CTRL_SWAP_REQ (port : Nat) : RF := ⟨(GATE_CTRL_addr port), 69, 69⟩
def GATE_CTRL_CANCEL (port : Nat) : RF := ⟨(GATE_CTRL_addr port), 68, 68⟩
def GATE_CTRL_LIST (port : Nat) : RF := ⟨(GATE_CTRL_addr port), 67, 67⟩
def GATE_CTRL_LEN (port : Nat) : RF := ⟨(GATE_CTRL_addr port), 66, 58⟩
def GATE_CTRL_CYCLE_NS (port : Nat) : RF := ⟨(GATE_CTRL_addr port), 57, 26⟩
/-- GATE_BASE: Administrative base time (21, by R603). -/
def GATE_BASE_addr (port : Nat) : Nat := 0x0F0001 + 16 * port
def GATE_BASE_ADMIN_BASE_TIME (port : Nat) : RF := ⟨(GATE_BASE_addr port), 71, 0⟩
/-- GATE_STATUS: Gate status (21, by R603). -/
def GATE_STATUS_addr (port : Nat) : Nat := 0x0F0002 + 16 * port
def GATE_STATUS_ACTIVE_LIST (port : Nat) : RF := ⟨(GATE_STATUS_addr port), 71, 71⟩
def GATE_STATUS_SWAP_PENDING (port : Nat) : RF := ⟨(GATE_STATUS_addr port), 70, 70⟩
def GATE_STATUS_SWAP_RESULT (port : Nat) : RF := ⟨(GATE_STATUS_addr port), 69, 66⟩
def GATE_STATUS_ACTIVE_LEN (port : Nat) : RF := ⟨(GATE_STATUS_addr port), 65, 57⟩
def GATE_STATUS_ACTIVE_CYCLE_NS (port : Nat) : RF := ⟨(GATE_STATUS_addr port), 56, 25⟩
def GATE_STATUS_LIVE_GAP_NS (port : Nat) : RF := ⟨(GATE_STATUS_addr port), 24, 9⟩
def GATE_STATUS_LIVE_GAP_OVER (port : Nat) : RF := ⟨(GATE_STATUS_addr port), 8, 8⟩
/-- GATE_SWAP_TIME: Last swap (21, by R603). -/
def GATE_SWAP_TIME_addr (port : Nat) : Nat := 0x0F0003 + 16 * port
def GATE_SWAP_TIME_TIME (port : Nat) : RF := ⟨(GATE_SWAP_TIME_addr port), 71, 0⟩
/-- GATE_COUNTS: Gate counters (21, by R603). -/
def GATE_COUNTS_addr (port : Nat) : Nat := 0x0F0004 + 16 * port
def GATE_COUNTS_OVERRUNS (port : Nat) : RF := ⟨(GATE_COUNTS_addr port), 71, 48⟩
def GATE_COUNTS_FIT_HOLDS (port : Nat) : RF := ⟨(GATE_COUNTS_addr port), 47, 24⟩
def GATE_COUNTS_QUEUE_DROPS (port : Nat) : RF := ⟨(GATE_COUNTS_addr port), 23, 0⟩
/-- SHAPER: Shaper of class k, k = 0–7 (21, by R603). -/
def SHAPER_addr (port : Nat) (k : Nat) : Nat := 0x0F0008 + 16 * port + k
def SHAPER_ENABLE (port : Nat) (k : Nat) : RF := ⟨(SHAPER_addr port k), 71, 71⟩
def SHAPER_RATE (port : Nat) (k : Nat) : RF := ⟨(SHAPER_addr port k), 70, 40⟩
def SHAPER_BURST (port : Nat) (k : Nat) : RF := ⟨(SHAPER_addr port k), 39, 8⟩
/-- GCL: Gate list entry e, e = 0–255 (21, by R603). -/
def GCL_addr (port : Nat) (list : Nat) (e : Nat) : Nat := 0x0F4000 + 512 * port + 256 * list + e
def GCL_ENTRY (port : Nat) (list : Nat) (e : Nat) : RF := ⟨(GCL_addr port list e), 71, 0⟩
/-- UPLINK_SRC: Uplink port q source, q = 0–15 (21, by R603). -/
def UPLINK_SRC_addr (q : Nat) : Nat := 0x0F1000 + 4 * q
def UPLINK_SRC_SRC_MAC (q : Nat) : RF := ⟨(UPLINK_SRC_addr q), 71, 24⟩
def UPLINK_SRC_PFC_EN (q : Nat) : RF := ⟨(UPLINK_SRC_addr q), 23, 23⟩
/-- TX_CTRL: Egress stream c, c = 0–63 (21, by R603). -/
def TX_CTRL_addr (c : Nat) : Nat := 0x0F2000 + 8 * c
def TX_CTRL_ENABLE (c : Nat) : RF := ⟨(TX_CTRL_addr c), 71, 71⟩
def TX_CTRL_UPLINK (c : Nat) : RF := ⟨(TX_CTRL_addr c), 70, 69⟩
def TX_CTRL_SUBPORT (c : Nat) : RF := ⟨(TX_CTRL_addr c), 68, 67⟩
def TX_CTRL_TCLASS (c : Nat) : RF := ⟨(TX_CTRL_addr c), 66, 64⟩
def TX_CTRL_DSCP (c : Nat) : RF := ⟨(TX_CTRL_addr c), 63, 58⟩
def TX_CTRL_SRC_PORT (c : Nat) : RF := ⟨(TX_CTRL_addr c), 57, 42⟩
def TX_CTRL_DST_PORT (c : Nat) : RF := ⟨(TX_CTRL_addr c), 41, 26⟩
def TX_CTRL_IPV6 (c : Nat) : RF := ⟨(TX_CTRL_addr c), 25, 25⟩
/-- METER_MATCH: Meter i match, i = 0–1,023 (21, by R603). -/
def METER_MATCH_addr (i : Nat) : Nat := 0x0F8000 + 4 * i
def METER_MATCH_VALID (i : Nat) : RF := ⟨(METER_MATCH_addr i), 71, 71⟩
def METER_MATCH_UPLINK_MASK (i : Nat) : RF := ⟨(METER_MATCH_addr i), 70, 67⟩
def METER_MATCH_UDP_PORT (i : Nat) : RF := ⟨(METER_MATCH_addr i), 66, 51⟩
def METER_MATCH_PORT_LAST (i : Nat) : RF := ⟨(METER_MATCH_addr i), 50, 35⟩
def METER_MATCH_YELLOW_DROP (i : Nat) : RF := ⟨(METER_MATCH_addr i), 34, 34⟩
def METER_MATCH_RED_DROP (i : Nat) : RF := ⟨(METER_MATCH_addr i), 33, 33⟩
/-- METER_RATE: Meter i rates (21, by R603). -/
def METER_RATE_addr (i : Nat) : Nat := 0x0F8001 + 4 * i
def METER_RATE_CIR (i : Nat) : RF := ⟨(METER_RATE_addr i), 71, 48⟩
def METER_RATE_PIR (i : Nat) : RF := ⟨(METER_RATE_addr i), 47, 24⟩
/-- METER_BURST: Meter i burst sizes (21, by R603). -/
def METER_BURST_addr (i : Nat) : Nat := 0x0F8002 + 4 * i
def METER_BURST_CBS (i : Nat) : RF := ⟨(METER_BURST_addr i), 71, 48⟩
def METER_BURST_PBS (i : Nat) : RF := ⟨(METER_BURST_addr i), 47, 24⟩
/-- METER_COUNTS: Meter i counters (21, by R603). -/
def METER_COUNTS_addr (i : Nat) : Nat := 0x0F8003 + 4 * i
def METER_COUNTS_GREEN (i : Nat) : RF := ⟨(METER_COUNTS_addr i), 71, 48⟩
def METER_COUNTS_YELLOW (i : Nat) : RF := ⟨(METER_COUNTS_addr i), 47, 24⟩
def METER_COUNTS_RED (i : Nat) : RF := ⟨(METER_COUNTS_addr i), 23, 0⟩
/-- UPLINK_CTRL: Uplink u control, u = 0–3 (21, by R603). -/
def UPLINK_CTRL_addr (u : Nat) : Nat := 0x0F1100 + u
def UPLINK_CTRL_ENABLE (u : Nat) : RF := ⟨(UPLINK_CTRL_addr u), 71, 71⟩
def UPLINK_CTRL_SPLIT (u : Nat) : RF := ⟨(UPLINK_CTRL_addr u), 70, 70⟩
def UPLINK_CTRL_FEC25 (u : Nat) : RF := ⟨(UPLINK_CTRL_addr u), 69, 69⟩
/-- UPLINK_STATUS: Uplink port q status, q = 0–15 (21, by R603). -/
def UPLINK_STATUS_addr (q : Nat) : Nat := 0x0F1200 + q
def UPLINK_STATUS_STATE (q : Nat) : RF := ⟨(UPLINK_STATUS_addr q), 71, 70⟩
def UPLINK_STATUS_FEC_LOCK (q : Nat) : RF := ⟨(UPLINK_STATUS_addr q), 69, 69⟩
/-- UPLINK_COUNTS: Uplink port q counters (21, by R603). -/
def UPLINK_COUNTS_addr (q : Nat) : Nat := 0x0F1300 + q
def UPLINK_COUNTS_RX_FRAMES (q : Nat) : RF := ⟨(UPLINK_COUNTS_addr q), 71, 40⟩
def UPLINK_COUNTS_RX_FCS (q : Nat) : RF := ⟨(UPLINK_COUNTS_addr q), 39, 24⟩
def UPLINK_COUNTS_RX_OTHER (q : Nat) : RF := ⟨(UPLINK_COUNTS_addr q), 23, 8⟩
def UPLINK_COUNTS_LINK_DOWNS (q : Nat) : RF := ⟨(UPLINK_COUNTS_addr q), 7, 0⟩
/-- INGEST_CTRL: Ingest receiver r control (21, by R603). -/
def INGEST_CTRL_addr (r : Nat) : Nat := 0x0F3000 + 8 * r
def INGEST_CTRL_ENABLE (r : Nat) : RF := ⟨(INGEST_CTRL_addr r), 71, 71⟩
def INGEST_CTRL_CHANNEL (r : Nat) : RF := ⟨(INGEST_CTRL_addr r), 70, 62⟩
def INGEST_CTRL_FORMAT (r : Nat) : RF := ⟨(INGEST_CTRL_addr r), 61, 58⟩
def INGEST_CTRL_UPLINK (r : Nat) : RF := ⟨(INGEST_CTRL_addr r), 57, 56⟩
def INGEST_CTRL_SUBPORT (r : Nat) : RF := ⟨(INGEST_CTRL_addr r), 55, 54⟩
def INGEST_CTRL_UDP_PORT (r : Nat) : RF := ⟨(INGEST_CTRL_addr r), 53, 38⟩
def INGEST_CTRL_IPV6 (r : Nat) : RF := ⟨(INGEST_CTRL_addr r), 37, 37⟩
def INGEST_CTRL_POOL (r : Nat) : RF := ⟨(INGEST_CTRL_addr r), 36, 33⟩
def INGEST_CTRL_EVENT_FIFO (r : Nat) : RF := ⟨(INGEST_CTRL_addr r), 32, 27⟩
def INGEST_CTRL_EVENT_PRIO (r : Nat) : RF := ⟨(INGEST_CTRL_addr r), 26, 24⟩
def INGEST_CTRL_PID (r : Nat) : RF := ⟨(INGEST_CTRL_addr r), 23, 11⟩
def INGEST_CTRL_PT (r : Nat) : RF := ⟨(INGEST_CTRL_addr r), 10, 4⟩
def INGEST_CTRL_SSRC_MATCH (r : Nat) : RF := ⟨(INGEST_CTRL_addr r), 3, 3⟩
/-- INGEST_AUX: SSRC and flush time (21, by R603). -/
def INGEST_AUX_addr (r : Nat) : Nat := 0x0F3001 + 8 * r
def INGEST_AUX_SSRC (r : Nat) : RF := ⟨(INGEST_AUX_addr r), 71, 40⟩
def INGEST_AUX_FLUSH_US (r : Nat) : RF := ⟨(INGEST_AUX_addr r), 39, 24⟩
/-- INGEST_STATUS: Ingest receiver r status (21, by R603). -/
def INGEST_STATUS_addr (r : Nat) : Nat := 0x0F3004 + 8 * r
def INGEST_STATUS_STATE (r : Nat) : RF := ⟨(INGEST_STATUS_addr r), 71, 70⟩
def INGEST_STATUS_ENABLE_REASON (r : Nat) : RF := ⟨(INGEST_STATUS_addr r), 69, 66⟩
def INGEST_STATUS_OPEN (r : Nat) : RF := ⟨(INGEST_STATUS_addr r), 65, 65⟩
/-- INGEST_COUNTS: Ingest receiver r counters (21, by R603). -/
def INGEST_COUNTS_addr (r : Nat) : Nat := 0x0F3005 + 8 * r
def INGEST_COUNTS_PACKETS (r : Nat) : RF := ⟨(INGEST_COUNTS_addr r), 71, 40⟩
def INGEST_COUNTS_LOST (r : Nat) : RF := ⟨(INGEST_COUNTS_addr r), 39, 24⟩
def INGEST_COUNTS_DROPS (r : Nat) : RF := ⟨(INGEST_COUNTS_addr r), 23, 8⟩
def INGEST_COUNTS_EVENTS_LOST (r : Nat) : RF := ⟨(INGEST_COUNTS_addr r), 7, 0⟩
/-- INGEST_BYTES: Ingest receiver r traffic (21, by R603). -/
def INGEST_BYTES_addr (r : Nat) : Nat := 0x0F3006 + 8 * r
def INGEST_BYTES_KBYTES (r : Nat) : RF := ⟨(INGEST_BYTES_addr r), 71, 36⟩
def INGEST_BYTES_BUFFERS (r : Nat) : RF := ⟨(INGEST_BYTES_addr r), 35, 0⟩
/-- UPLINK_SRC_V4: IPv4 source address of uplink port q (21, by R603). -/
def UPLINK_SRC_V4_addr (q : Nat) : Nat := 0x0F1001 + 4 * q
def UPLINK_SRC_V4_ADDR (q : Nat) : RF := ⟨(UPLINK_SRC_V4_addr q), 71, 40⟩
/-- UPLINK_SRC_HI: IPv6 source address, high part (21, by R603). -/
def UPLINK_SRC_HI_addr (q : Nat) : Nat := 0x0F1002 + 4 * q
def UPLINK_SRC_HI_ADDR (q : Nat) : RF := ⟨(UPLINK_SRC_HI_addr q), 71, 8⟩
/-- UPLINK_SRC_LO: IPv6 source address, low part (21, by R603). -/
def UPLINK_SRC_LO_addr (q : Nat) : Nat := 0x0F1003 + 4 * q
def UPLINK_SRC_LO_ADDR (q : Nat) : RF := ⟨(UPLINK_SRC_LO_addr q), 71, 8⟩
/-- TX_DST_MAC: Next-hop MAC of egress stream c (21, by R603). -/
def TX_DST_MAC_addr (c : Nat) : Nat := 0x0F2001 + 8 * c
def TX_DST_MAC_DST_MAC (c : Nat) : RF := ⟨(TX_DST_MAC_addr c), 71, 24⟩
/-- TX_DST_HI: Destination address, high part (21, by R603). -/
def TX_DST_HI_addr (c : Nat) : Nat := 0x0F2002 + 8 * c
def TX_DST_HI_ADDR (c : Nat) : RF := ⟨(TX_DST_HI_addr c), 71, 8⟩
/-- TX_DST_LO: Destination address, low part (21, by R603). -/
def TX_DST_LO_addr (c : Nat) : Nat := 0x0F2003 + 8 * c
def TX_DST_LO_ADDR (c : Nat) : RF := ⟨(TX_DST_LO_addr c), 71, 8⟩
/-- TX_COUNTS: Egress stream counters (21, by R603). -/
def TX_COUNTS_addr (c : Nat) : Nat := 0x0F2004 + 8 * c
def TX_COUNTS_PACKETS (c : Nat) : RF := ⟨(TX_COUNTS_addr c), 71, 40⟩
def TX_COUNTS_DROPS (c : Nat) : RF := ⟨(TX_COUNTS_addr c), 39, 24⟩
/-- INGEST_DST_HI: Destination address, high part (21, by R603). -/
def INGEST_DST_HI_addr (r : Nat) : Nat := 0x0F3002 + 8 * r
def INGEST_DST_HI_ADDR (r : Nat) : RF := ⟨(INGEST_DST_HI_addr r), 71, 8⟩
/-- INGEST_DST_LO: Destination address, low part (21, by R603). -/
def INGEST_DST_LO_addr (r : Nat) : Nat := 0x0F3003 + 8 * r
def INGEST_DST_LO_ADDR (r : Nat) : RF := ⟨(INGEST_DST_LO_addr r), 71, 8⟩

/-! ### 22_faults.md -/

/-- FAULT_CTRL: Fault control (22, by R615). -/
def FAULT_CTRL_addr : Nat := 0x100000
def FAULT_CTRL_GRACE_MS : RF := ⟨FAULT_CTRL_addr, 71, 60⟩
def FAULT_CTRL_AUTO_HOLD : RF := ⟨FAULT_CTRL_addr, 59, 59⟩
def FAULT_CTRL_FN_HOLD : RF := ⟨FAULT_CTRL_addr, 58, 58⟩
def FAULT_CTRL_HALT_NOW : RF := ⟨FAULT_CTRL_addr, 57, 57⟩
/-- FAULT_ESC: Escalation tops (22, by R615). -/
def FAULT_ESC_addr : Nat := 0x100001
def FAULT_ESC_CHANNEL_TOP : RF := ⟨FAULT_ESC_addr, 71, 69⟩
def FAULT_ESC_CLUSTER_TOP : RF := ⟨FAULT_ESC_addr, 68, 66⟩
def FAULT_ESC_DEVICE_TOP : RF := ⟨FAULT_ESC_addr, 65, 63⟩
def FAULT_ESC_HALT_TOP : RF := ⟨FAULT_ESC_addr, 62, 60⟩
/-- FAULT_STATUS: Fault state (22, by R615). -/
def FAULT_STATUS_addr : Nat := 0x100002
def FAULT_STATUS_STATE : RF := ⟨FAULT_STATUS_addr, 71, 70⟩
def FAULT_STATUS_FAULT_N_LOW : RF := ⟨FAULT_STATUS_addr, 69, 69⟩
def FAULT_STATUS_OPEN : RF := ⟨FAULT_STATUS_addr, 68, 64⟩
def FAULT_STATUS_LAST_SEQ : RF := ⟨FAULT_STATUS_addr, 63, 48⟩
def FAULT_STATUS_HALT_SEQ : RF := ⟨FAULT_STATUS_addr, 47, 32⟩
def FAULT_STATUS_HALT_CODE : RF := ⟨FAULT_STATUS_addr, 31, 24⟩
/-- FAULT_ACK: Acknowledge (22, by R615). -/
def FAULT_ACK_addr : Nat := 0x100003
def FAULT_ACK_SEQ : RF := ⟨FAULT_ACK_addr, 71, 56⟩
def FAULT_ACK_ALL : RF := ⟨FAULT_ACK_addr, 55, 55⟩
/-- FAULT_PEND: Fault pending bits (22, by R615). -/
def FAULT_PEND_addr : Nat := 0x100004
def FAULT_PEND_FABRIC : RF := ⟨FAULT_PEND_addr, 3, 3⟩
def FAULT_PEND_HALT : RF := ⟨FAULT_PEND_addr, 2, 2⟩
def FAULT_PEND_ESCALATED : RF := ⟨FAULT_PEND_addr, 1, 1⟩
def FAULT_PEND_EVENT : RF := ⟨FAULT_PEND_addr, 0, 0⟩
/-- FAULT_COUNTS: Fault counters (22, by R615). -/
def FAULT_COUNTS_addr : Nat := 0x100005
def FAULT_COUNTS_EVENTS : RF := ⟨FAULT_COUNTS_addr, 71, 40⟩
def FAULT_COUNTS_RUNGS : RF := ⟨FAULT_COUNTS_addr, 39, 24⟩
def FAULT_COUNTS_REPEATS : RF := ⟨FAULT_COUNTS_addr, 23, 8⟩
def FAULT_COUNTS_OPEN_FULL : RF := ⟨FAULT_COUNTS_addr, 7, 0⟩
/-- FAULT_OPEN: Open escalation k, k = 0–15 (22, by R615). -/
def FAULT_OPEN_addr (k : Nat) : Nat := 0x100010 + k
def FAULT_OPEN_VALID (k : Nat) : RF := ⟨(FAULT_OPEN_addr k), 71, 71⟩
def FAULT_OPEN_SEQ (k : Nat) : RF := ⟨(FAULT_OPEN_addr k), 70, 55⟩
def FAULT_OPEN_CODE (k : Nat) : RF := ⟨(FAULT_OPEN_addr k), 54, 47⟩
def FAULT_OPEN_RUNG (k : Nat) : RF := ⟨(FAULT_OPEN_addr k), 46, 44⟩
def FAULT_OPEN_REPEATS (k : Nat) : RF := ⟨(FAULT_OPEN_addr k), 43, 32⟩
/-- DAYBOOK_TIME: Daybook entry j, time word, j = 0–63 (22, by R615). -/
def DAYBOOK_TIME_addr (j : Nat) : Nat := 0x100100 + 2 * j
def DAYBOOK_TIME_TIME (j : Nat) : RF := ⟨(DAYBOOK_TIME_addr j), 71, 0⟩
/-- DAYBOOK_EVENT: Daybook entry j, event word (22, by R615). -/
def DAYBOOK_EVENT_addr (j : Nat) : Nat := 0x100101 + 2 * j
def DAYBOOK_EVENT_EVENT (j : Nat) : RF := ⟨(DAYBOOK_EVENT_addr j), 71, 0⟩

/-! ### 23_startup_reset_power.md -/

/-- BOOT_STATUS: Boot status (23, by R634). -/
def BOOT_STATUS_addr : Nat := 0x110000
def BOOT_STATUS_STAGE : RF := ⟨BOOT_STATUS_addr, 71, 68⟩
def BOOT_STATUS_HOST_READY : RF := ⟨BOOT_STATUS_addr, 67, 67⟩
def BOOT_STATUS_BOOT_FAIL : RF := ⟨BOOT_STATUS_addr, 66, 66⟩
def BOOT_STATUS_IMAGE : RF := ⟨BOOT_STATUS_addr, 65, 65⟩
def BOOT_STATUS_PRIMARY_RESULT : RF := ⟨BOOT_STATUS_addr, 64, 61⟩
def BOOT_STATUS_ALTERNATE_RESULT : RF := ⟨BOOT_STATUS_addr, 60, 57⟩
def BOOT_STATUS_LAST_RESET : RF := ⟨BOOT_STATUS_addr, 56, 54⟩
def BOOT_STATUS_BOOT_MS : RF := ⟨BOOT_STATUS_addr, 53, 40⟩
def BOOT_STATUS_RETIRED_BANKS : RF := ⟨BOOT_STATUS_addr, 39, 32⟩
def BOOT_STATUS_STAGING_SLOTS : RF := ⟨BOOT_STATUS_addr, 31, 24⟩
/-- BOOT_IMAGE: Loaded image (23, by R634). -/
def BOOT_IMAGE_addr : Nat := 0x110001
def BOOT_IMAGE_IMAGE_ID : RF := ⟨BOOT_IMAGE_addr, 71, 40⟩
def BOOT_IMAGE_FW_WORDS : RF := ⟨BOOT_IMAGE_addr, 39, 19⟩
/-- DEVICE_UID: Unique identifier (23, by R634). -/
def DEVICE_UID_addr : Nat := 0x110002
def DEVICE_UID_UID : RF := ⟨DEVICE_UID_addr, 63, 0⟩
/-- RESET_CTRL: Reset control (23, by R634). -/
def RESET_CTRL_addr : Nat := 0x110003
def RESET_CTRL_COLD : RF := ⟨RESET_CTRL_addr, 71, 71⟩
def RESET_CTRL_WARM : RF := ⟨RESET_CTRL_addr, 70, 70⟩
def RESET_CTRL_KEY : RF := ⟨RESET_CTRL_addr, 69, 54⟩
def RESET_CTRL_PERST_MODE : RF := ⟨RESET_CTRL_addr, 53, 53⟩
def RESET_CTRL_KEY_ERRORS : RF := ⟨RESET_CTRL_addr, 52, 37⟩
/-- POWER_CTRL: Power control (23, by R634). -/
def POWER_CTRL_addr : Nat := 0x110004
def POWER_CTRL_SLEEP_EN : RF := ⟨POWER_CTRL_addr, 71, 71⟩
def POWER_CTRL_SLEEP_DELAY : RF := ⟨POWER_CTRL_addr, 70, 55⟩
/-- POWER_STATUS: Power state (23, by R634). -/
def POWER_STATUS_addr : Nat := 0x110005
def POWER_STATUS_STATE : RF := ⟨POWER_STATUS_addr, 71, 69⟩
def POWER_STATUS_CLUSTER_AWAKE : RF := ⟨POWER_STATUS_addr, 68, 61⟩
def POWER_STATUS_PWRDN_SEEN : RF := ⟨POWER_STATUS_addr, 60, 60⟩
def POWER_STATUS_TAIL_DONE : RF := ⟨POWER_STATUS_addr, 59, 59⟩
def POWER_STATUS_PWRFAIL_EVENTS : RF := ⟨POWER_STATUS_addr, 58, 43⟩

/-! ### 24_pins_electrical.md -/

/-- CLK_STATUS: Reference clock state (24, by R654). -/
def CLK_STATUS_addr : Nat := 0x010030
def CLK_STATUS_PCIE : RF := ⟨CLK_STATUS_addr, 71, 70⟩
def CLK_STATUS_MEM : RF := ⟨CLK_STATUS_addr, 69, 68⟩
def CLK_STATUS_SD : RF := ⟨CLK_STATUS_addr, 67, 66⟩
def CLK_STATUS_CAP : RF := ⟨CLK_STATUS_addr, 65, 64⟩
def CLK_STATUS_XTAL32 : RF := ⟨CLK_STATUS_addr, 63, 62⟩
def CLK_STATUS_PCIE_PPM : RF := ⟨CLK_STATUS_addr, 61, 50⟩
def CLK_STATUS_MEM_PPM : RF := ⟨CLK_STATUS_addr, 49, 38⟩
def CLK_STATUS_SD_PPM : RF := ⟨CLK_STATUS_addr, 37, 26⟩
def CLK_STATUS_CAP_PPM : RF := ⟨CLK_STATUS_addr, 25, 14⟩
/-- CLK_COUNTS: Reference clock losses (24, by R654). -/
def CLK_COUNTS_addr : Nat := 0x010031
def CLK_COUNTS_PCIE_LOSSES : RF := ⟨CLK_COUNTS_addr, 71, 64⟩
def CLK_COUNTS_MEM_LOSSES : RF := ⟨CLK_COUNTS_addr, 63, 56⟩
def CLK_COUNTS_SD_LOSSES : RF := ⟨CLK_COUNTS_addr, 55, 48⟩
def CLK_COUNTS_CAP_LOSSES : RF := ⟨CLK_COUNTS_addr, 47, 40⟩
def CLK_COUNTS_XTAL32_LOSSES : RF := ⟨CLK_COUNTS_addr, 39, 32⟩
/-- SUPPLY_STATUS: Supply comparators and straps (24, by R654). -/
def SUPPLY_STATUS_addr : Nat := 0x010032
def SUPPLY_STATUS_VSRAM_OK : RF := ⟨SUPPLY_STATUS_addr, 71, 71⟩
def SUPPLY_STATUS_VDDQ_OK : RF := ⟨SUPPLY_STATUS_addr, 70, 70⟩
def SUPPLY_STATUS_AVDD_075_OK : RF := ⟨SUPPLY_STATUS_addr, 69, 69⟩
def SUPPLY_STATUS_AVDD_12_OK : RF := ⟨SUPPLY_STATUS_addr, 68, 68⟩
def SUPPLY_STATUS_VIO_OK : RF := ⟨SUPPLY_STATUS_addr, 67, 67⟩
def SUPPLY_STATUS_VBAT_OK : RF := ⟨SUPPLY_STATUS_addr, 66, 66⟩
def SUPPLY_STATUS_MGMT_MODE : RF := ⟨SUPPLY_STATUS_addr, 65, 65⟩

def regs00_0 : List RegDef := [
  ⟨"DEV_IDENT", 0x000000, [],
    [⟨71, 56, .ro, 0x2e51⟩, ⟨55, 40, .ro, 114⟩, ⟨39, 32, .ro, 176⟩, ⟨31, 24, .ro, 84⟩, ⟨23, 16, .ro, 1⟩]⟩,
  ⟨"GLOBAL_CAPS", 0x000001, [],
    [⟨71, 60, .ro, 512⟩, ⟨59, 52, .ro, 64⟩, ⟨51, 48, .ro, 8⟩, ⟨47, 40, .ro, 24⟩, ⟨39, 36, .ro, 8⟩, ⟨35, 32, .ro, 4⟩, ⟨31, 28, .ro, 4⟩, ⟨27, 24, .ro, 8⟩, ⟨23, 16, .ro, 192⟩, ⟨15, 8, .ro, 64⟩, ⟨7, 4, .ro, 8⟩, ⟨3, 0, .ro, 4⟩]⟩]

/-- The registers of block 00. -/
def regs00 : List RegDef := regs00_0

def regs01_0 : List RegDef := [
  ⟨"PACE_NOW", 0x010000, [],
    [⟨71, 60, .ro, 0⟩, ⟨59, 48, .ro, 0⟩, ⟨47, 44, .ro, 0⟩, ⟨39, 8, .ro, 0⟩, ⟨0, 0, .ro, 0⟩]⟩,
  ⟨"PACE_LOW_MARK", 0x010001, [],
    [⟨71, 60, .ro, 0⟩, ⟨59, 56, .ro, 0⟩, ⟨0, 0, .rc, 0⟩]⟩,
  ⟨"PACE_WORK", 0x010002, [],
    [⟨71, 0, .ro, 0⟩]⟩,
  ⟨"PACE_REF_RATIO", 0x010003, [],
    [⟨71, 60, .ro, 0⟩]⟩,
  ⟨"PACE_MON", 0x010010, [(16, 1)],
    [⟨71, 60, .ro, 0⟩, ⟨59, 48, .ro, 0⟩, ⟨1, 1, .ro, 0⟩, ⟨0, 0, .ro, 0⟩]⟩,
  ⟨"GOV_CTRL", 0x010020, [],
    [⟨71, 70, .rw, 0⟩, ⟨69, 58, .rw, 1024⟩, ⟨57, 48, .rw, 600⟩, ⟨47, 38, .rw, 800⟩]⟩,
  ⟨"GOV_STATUS", 0x010021, [],
    [⟨71, 62, .ro, 0⟩, ⟨61, 52, .ro, 0⟩, ⟨51, 40, .ro, 0⟩, ⟨39, 30, .ro, 0⟩, ⟨29, 29, .ro, 0⟩, ⟨28, 28, .ro, 0⟩, ⟨27, 27, .ro, 0⟩, ⟨26, 26, .ro, 0⟩, ⟨25, 25, .ro, 0⟩]⟩,
  ⟨"THERM_CTRL", 0x010022, [],
    [⟨71, 60, .rw, 1000⟩, ⟨59, 48, .rw, 1080⟩, ⟨47, 36, .rw, 3656⟩]⟩]

def regs01_1 : List RegDef := [
  ⟨"PACE_EVENTS", 0x010023, [],
    [⟨7, 7, .w1c, 0⟩, ⟨6, 6, .w1c, 0⟩, ⟨5, 5, .w1c, 0⟩, ⟨4, 4, .w1c, 0⟩, ⟨3, 3, .w1c, 0⟩, ⟨2, 2, .w1c, 0⟩, ⟨1, 1, .w1c, 0⟩, ⟨0, 0, .w1c, 0⟩]⟩,
  ⟨"TRIM_FACTORY", 0x010024, [],
    [⟨71, 62, .ro, 0⟩, ⟨61, 52, .ro, 0⟩, ⟨51, 44, .ro, 0⟩]⟩,
  ⟨"TRIM_USER", 0x010025, [],
    [⟨71, 71, .rwl, 0⟩, ⟨70, 64, .rwl, 0⟩, ⟨63, 58, .rwl, 0⟩, ⟨57, 50, .rwl, 0⟩]⟩,
  ⟨"CLK_STATUS", 0x010030, [],
    [⟨71, 70, .ro, 0⟩, ⟨69, 68, .ro, 0⟩, ⟨67, 66, .ro, 0⟩, ⟨65, 64, .ro, 0⟩, ⟨63, 62, .ro, 0⟩, ⟨61, 50, .ro, 0⟩, ⟨49, 38, .ro, 0⟩, ⟨37, 26, .ro, 0⟩, ⟨25, 14, .ro, 0⟩]⟩,
  ⟨"CLK_COUNTS", 0x010031, [],
    [⟨71, 64, .ro, 0⟩, ⟨63, 56, .ro, 0⟩, ⟨55, 48, .ro, 0⟩, ⟨47, 40, .ro, 0⟩, ⟨39, 32, .ro, 0⟩]⟩,
  ⟨"SUPPLY_STATUS", 0x010032, [],
    [⟨71, 71, .ro, 0⟩, ⟨70, 70, .ro, 0⟩, ⟨69, 69, .ro, 0⟩, ⟨68, 68, .ro, 0⟩, ⟨67, 67, .ro, 0⟩, ⟨66, 66, .ro, 0⟩, ⟨65, 65, .ro, 0⟩]⟩]

/-- The registers of block 01. -/
def regs01 : List RegDef := regs01_0 ++ regs01_1

def regs02_0 : List RegDef := [
  ⟨"CHAN_CTRL", 0x020000, [(512, 64)],
    [⟨71, 70, .rw, 1⟩, ⟨69, 69, .rw, 1⟩, ⟨68, 64, .rw, 0⟩, ⟨63, 60, .rw, 0⟩, ⟨59, 56, .rw, 0⟩]⟩,
  ⟨"CHAN_CMD", 0x020001, [(512, 64)],
    [⟨71, 68, .wo, 0⟩, ⟨35, 0, .wo, 0⟩]⟩,
  ⟨"CHAN_STATUS", 0x020002, [(512, 64)],
    [⟨71, 69, .ro, 0⟩, ⟨68, 68, .ro, 0⟩, ⟨67, 67, .ro, 0⟩, ⟨66, 66, .ro, 0⟩, ⟨65, 62, .ro, 0⟩, ⟨61, 61, .ro, 0⟩, ⟨60, 60, .ro, 0⟩, ⟨59, 59, .ro, 0⟩, ⟨58, 58, .ro, 0⟩, ⟨57, 50, .ro, 0⟩, ⟨49, 46, .ro, 0⟩, ⟨45, 42, .ro, 0⟩, ⟨31, 0, .ro, 0⟩]⟩,
  ⟨"CHAN_WINDOW", 0x020003, [(512, 64)],
    [⟨71, 48, .ro, 0⟩, ⟨47, 24, .ro, 0⟩, ⟨23, 0, .ro, 0⟩]⟩,
  ⟨"CHAN_GATES", 0x020004, [(512, 64)],
    [⟨71, 36, .ro, 0⟩]⟩,
  ⟨"CHAN_DEMAND0", 0x020005, [(512, 64)],
    [⟨71, 0, .ro, 0⟩]⟩,
  ⟨"CHAN_DEMAND1", 0x020006, [(512, 64)],
    [⟨71, 0, .ro, 0⟩]⟩,
  ⟨"CHAN_SWAP_STATUS", 0x020007, [(512, 64)],
    [⟨71, 64, .ro, 0⟩, ⟨63, 40, .ro, 0⟩, ⟨39, 36, .ro, 0⟩, ⟨35, 0, .ro, 0⟩]⟩]

def regs02_1 : List RegDef := [
  ⟨"CHAN_DEMAND2", 0x020008, [(512, 64)],
    [⟨71, 0, .ro, 0⟩]⟩,
  ⟨"CHAN_TIMER_CTRL", 0x020020, [(512, 64)],
    [⟨71, 71, .rw, 0⟩, ⟨70, 70, .w1c, 0⟩, ⟨69, 54, .rw, 0⟩, ⟨53, 53, .rw, 0⟩, ⟨52, 52, .w1c, 0⟩, ⟨51, 36, .rw, 0⟩, ⟨35, 35, .rw, 0⟩, ⟨34, 34, .w1c, 0⟩, ⟨33, 18, .rw, 0⟩, ⟨17, 17, .rw, 0⟩, ⟨16, 16, .w1c, 0⟩, ⟨15, 0, .rw, 0⟩]⟩,
  ⟨"CHAN_EVENT", 0x020021, [(512, 64)],
    [⟨7, 0, .ro, 0⟩]⟩,
  ⟨"CHAN_USAGE", 0x020022, [(512, 64)],
    [⟨71, 0, .ro, 0⟩]⟩,
  ⟨"CHAN_COUNTS", 0x020023, [(512, 64)],
    [⟨71, 48, .ro, 0⟩, ⟨47, 24, .ro, 0⟩, ⟨23, 0, .ro, 0⟩]⟩,
  ⟨"CHAN_SCRATCH", 0x020030, [(512, 64), (16, 1)],
    [⟨71, 0, .rw, 0⟩]⟩,
  ⟨"CLERK_LOAD", 0x028000, [(32, 1)],
    [⟨71, 62, .ro, 0⟩, ⟨61, 52, .ro, 0⟩, ⟨51, 47, .ro, 0⟩, ⟨46, 45, .ro, 0⟩, ⟨44, 35, .ro, 0⟩, ⟨34, 23, .ro, 0⟩, ⟨22, 22, .ro, 0⟩]⟩,
  ⟨"LOAD_CTRL", 0x028040, [],
    [⟨71, 62, .rw, 960⟩, ⟨61, 52, .rw, 768⟩, ⟨51, 48, .rw, 3⟩, ⟨47, 44, .rw, 10⟩, ⟨43, 32, .rw, 1024⟩, ⟨31, 16, .rw, 100⟩, ⟨15, 15, .rw, 1⟩]⟩]

def regs02_2 : List RegDef := [
  ⟨"LOAD_EVENTS", 0x028041, [],
    [⟨3, 3, .w1c, 0⟩, ⟨2, 2, .w1c, 0⟩, ⟨1, 1, .w1c, 0⟩, ⟨0, 0, .w1c, 0⟩]⟩,
  ⟨"SHED_MAP", 0x028048, [(8, 1)],
    [⟨63, 0, .ro, 0⟩]⟩,
  ⟨"SCHED_CTRL", 0x028050, [],
    [⟨71, 36, .rw, 0⟩, ⟨35, 23, .rw, 0⟩, ⟨22, 22, .rw, 0⟩, ⟨21, 6, .rw, 1000⟩]⟩,
  ⟨"SCHED_STATUS", 0x028051, [],
    [⟨71, 60, .ro, 0⟩, ⟨59, 59, .ro, 0⟩, ⟨58, 47, .ro, 0⟩]⟩,
  ⟨"DOLRY_SPACE", 0x02F000, [],
    [⟨71, 36, .rwl, 0⟩, ⟨35, 35, .rwl, 0⟩]⟩,
  ⟨"DOLRY_DTRAP", 0x02F001, [],
    [⟨71, 71, .rc, 0⟩, ⟨70, 62, .ro, 0⟩, ⟨61, 57, .ro, 0⟩, ⟨56, 53, .ro, 0⟩, ⟨52, 47, .ro, 0⟩, ⟨46, 41, .ro, 0⟩, ⟨40, 17, .ro, 0⟩, ⟨16, 15, .ro, 0⟩]⟩,
  ⟨"DOLRY_TRAP_CNT", 0x02F040, [(64, 1)],
    [⟨31, 0, .rc, 0⟩]⟩]

/-- The registers of block 02. -/
def regs02 : List RegDef := regs02_0 ++ regs02_1 ++ regs02_2

def regs03_0 : List RegDef := [
  ⟨"UC_IMAGE", 0x030000, [],
    [⟨71, 40, .ro, 0⟩, ⟨39, 32, .ro, 0⟩, ⟨31, 22, .ro, 0⟩, ⟨21, 17, .ro, 0⟩, ⟨16, 13, .ro, 0⟩, ⟨12, 3, .ro, 0⟩]⟩,
  ⟨"UC_STATUS", 0x030001, [],
    [⟨71, 71, .ro, 0⟩, ⟨70, 67, .ro, 0⟩, ⟨66, 63, .ro, 0⟩, ⟨62, 59, .ro, 0⟩]⟩,
  ⟨"UC_CTRL", 0x030002, [],
    [⟨71, 71, .rwl, 0⟩]⟩,
  ⟨"UC_LOAD_ADDR", 0x030004, [],
    [⟨71, 59, .rwl, 0⟩, ⟨58, 27, .rwl, 0⟩]⟩,
  ⟨"UC_LOAD_LO", 0x030005, [],
    [⟨71, 0, .wo, 0⟩]⟩,
  ⟨"UC_LOAD_HI", 0x030006, [],
    [⟨71, 0, .wo, 0⟩]⟩,
  ⟨"UC_CLERK", 0x030100, [(32, 1)],
    [⟨71, 56, .ro, 0⟩, ⟨55, 55, .ro, 0⟩, ⟨54, 42, .ro, 0⟩, ⟨41, 41, .ro, 0⟩, ⟨40, 28, .ro, 0⟩, ⟨27, 0, .ro, 0⟩]⟩]

/-- The registers of block 03. -/
def regs03 : List RegDef := regs03_0

def regs04_0 : List RegDef := [
  ⟨"DEC_CAPS", 0x040000, [],
    [⟨71, 68, .ro, 15⟩, ⟨67, 60, .ro, 62⟩, ⟨59, 52, .ro, 186⟩, ⟨51, 44, .ro, 99⟩, ⟨43, 36, .ro, 19⟩, ⟨35, 32, .ro, 10⟩, ⟨31, 28, .ro, 4⟩, ⟨27, 24, .ro, 8⟩]⟩,
  ⟨"DEC_QUEUES", 0x040001, [],
    [⟨71, 60, .ro, 256⟩, ⟨59, 48, .ro, 64⟩, ⟨47, 36, .ro, 256⟩, ⟨35, 24, .ro, 64⟩]⟩,
  ⟨"DEC_STAGE_CTRL", 0x040002, [],
    [⟨71, 64, .rwl, 64⟩, ⟨63, 56, .rwl, 64⟩, ⟨55, 52, .rwl, 2⟩, ⟨51, 46, .rwl, 8⟩, ⟨45, 45, .rwl, 0⟩]⟩,
  ⟨"DEC_ERR_CTRL", 0x040010, [],
    [⟨71, 56, .rw, 200⟩, ⟨55, 40, .rw, 1000⟩, ⟨39, 39, .rw, 0⟩]⟩,
  ⟨"DEC_ERR_TOTAL", 0x040011, [],
    [⟨71, 36, .rc, 0⟩, ⟨35, 0, .rc, 0⟩]⟩,
  ⟨"ENT_STATUS", 0x040100, [(24, 1)],
    [⟨71, 71, .ro, 0⟩, ⟨70, 62, .ro, 0⟩, ⟨61, 61, .ro, 0⟩, ⟨60, 57, .ro, 0⟩, ⟨56, 56, .ro, 0⟩, ⟨31, 0, .rc, 0⟩]⟩,
  ⟨"PIPE_STATUS", 0x040200, [(8, 1)],
    [⟨71, 71, .ro, 0⟩, ⟨70, 62, .ro, 0⟩, ⟨61, 61, .ro, 0⟩, ⟨60, 60, .ro, 0⟩, ⟨55, 28, .rc, 0⟩, ⟨27, 0, .rc, 0⟩]⟩,
  ⟨"DEC_CHAN_PROGRESS", 0x041000, [(512, 4)],
    [⟨71, 40, .ro, 0⟩, ⟨39, 24, .ro, 0⟩, ⟨23, 20, .ro, 0⟩, ⟨19, 16, .ro, 0⟩]⟩]

def regs04_1 : List RegDef := [
  ⟨"DEC_CHAN_COUNTS", 0x041001, [(512, 4)],
    [⟨71, 40, .ro, 0⟩, ⟨39, 24, .ro, 0⟩, ⟨23, 12, .ro, 0⟩, ⟨11, 0, .ro, 0⟩]⟩,
  ⟨"DEC_CHAN_WORK", 0x041002, [(512, 4)],
    [⟨71, 36, .ro, 0⟩, ⟨35, 0, .ro, 0⟩]⟩,
  ⟨"DEC_CHAN_ERRORS", 0x041003, [(512, 4)],
    [⟨71, 56, .ro, 0⟩, ⟨55, 40, .ro, 0⟩, ⟨39, 24, .ro, 0⟩, ⟨23, 12, .ro, 0⟩, ⟨11, 0, .ro, 0⟩]⟩,
  ⟨"DEC_LOG_A", 0x042000, [(512, 16), (8, 2)],
    [⟨71, 71, .ro, 0⟩, ⟨70, 55, .ro, 0⟩, ⟨54, 47, .ro, 0⟩, ⟨46, 44, .ro, 0⟩, ⟨43, 40, .ro, 0⟩, ⟨39, 0, .ro, 0⟩]⟩,
  ⟨"DEC_LOG_B", 0x042001, [(512, 16), (8, 2)],
    [⟨71, 40, .ro, 0⟩, ⟨39, 24, .ro, 0⟩, ⟨23, 8, .ro, 0⟩]⟩,
  ⟨"ENC_CAPS", 0x044000, [],
    [⟨71, 68, .ro, 11⟩, ⟨67, 60, .ro, 52⟩, ⟨59, 52, .ro, 186⟩, ⟨51, 44, .ro, 17⟩, ⟨43, 40, .ro, 10⟩, ⟨39, 28, .ro, 2048⟩, ⟨27, 18, .ro, 512⟩, ⟨17, 16, .ro, 2⟩, ⟨15, 12, .ro, 4⟩]⟩,
  ⟨"ENC_QUEUES", 0x044001, [],
    [⟨71, 60, .ro, 128⟩, ⟨59, 48, .ro, 32⟩, ⟨47, 36, .ro, 128⟩, ⟨35, 24, .ro, 32⟩, ⟨23, 12, .ro, 64⟩, ⟨11, 0, .ro, 16⟩]⟩,
  ⟨"RATE_QUEUE", 0x044010, [],
    [⟨71, 60, .ro, 128⟩, ⟨59, 48, .ro, 32⟩, ⟨47, 44, .ro, 4⟩]⟩]

def regs04_2 : List RegDef := [
  ⟨"SEARCH_STATUS", 0x044100, [(4, 1)],
    [⟨71, 71, .ro, 0⟩, ⟨70, 62, .ro, 0⟩, ⟨61, 61, .ro, 0⟩, ⟨60, 60, .ro, 0⟩, ⟨55, 28, .rc, 0⟩, ⟨27, 0, .rc, 0⟩]⟩,
  ⟨"RATE_STATUS", 0x044200, [(4, 1)],
    [⟨71, 71, .ro, 0⟩, ⟨70, 62, .ro, 0⟩, ⟨61, 61, .ro, 0⟩, ⟨27, 0, .rc, 0⟩]⟩,
  ⟨"ENC_CHAN_PROGRESS", 0x045000, [(512, 4)],
    [⟨71, 40, .ro, 0⟩, ⟨39, 24, .ro, 0⟩, ⟨23, 12, .ro, 0⟩, ⟨11, 8, .ro, 0⟩, ⟨7, 4, .ro, 0⟩, ⟨3, 0, .ro, 0⟩]⟩,
  ⟨"ENC_CHAN_COUNTS", 0x045001, [(512, 4)],
    [⟨71, 40, .ro, 0⟩, ⟨39, 24, .ro, 0⟩, ⟨23, 12, .ro, 0⟩, ⟨11, 0, .ro, 0⟩]⟩,
  ⟨"ENC_CHAN_WORK", 0x045002, [(512, 4)],
    [⟨71, 36, .ro, 0⟩, ⟨35, 0, .ro, 0⟩]⟩,
  ⟨"ENC_CHAN_SEARCH", 0x045003, [(512, 4)],
    [⟨71, 36, .ro, 0⟩, ⟨35, 0, .ro, 0⟩]⟩,
  ⟨"RC_CHAN_STATE", 0x046000, [(512, 2)],
    [⟨71, 66, .ro, 0⟩, ⟨65, 60, .ro, 0⟩, ⟨59, 32, .ro, 0⟩, ⟨31, 31, .ro, 0⟩]⟩,
  ⟨"RC_CHAN_COUNTS", 0x046001, [(512, 2)],
    [⟨71, 56, .ro, 0⟩, ⟨55, 40, .ro, 0⟩, ⟨39, 24, .ro, 0⟩]⟩]

def regs04_3 : List RegDef := [
  ⟨"REGION_CAPS", 0x048000, [],
    [⟨71, 60, .ro, 256⟩, ⟨59, 48, .ro, 64⟩, ⟨47, 44, .ro, 8⟩, ⟨43, 32, .ro, 1024⟩, ⟨31, 19, .ro, 4096⟩]⟩,
  ⟨"REGION_CTRL", 0x048001, [],
    [⟨71, 56, .rw, 200⟩, ⟨55, 40, .rw, 100⟩, ⟨39, 28, .rw, 40⟩, ⟨27, 16, .rw, 5⟩]⟩,
  ⟨"SEAM_STATUS", 0x048010, [(2, 1)],
    [⟨71, 71, .ro, 0⟩, ⟨70, 62, .ro, 0⟩, ⟨61, 61, .ro, 0⟩, ⟨55, 28, .rc, 0⟩, ⟨27, 0, .rc, 0⟩]⟩,
  ⟨"REGION_CHAN_STATUS", 0x048400, [(512, 4)],
    [⟨71, 71, .ro, 0⟩, ⟨70, 55, .ro, 0⟩, ⟨54, 49, .ro, 0⟩, ⟨48, 43, .ro, 0⟩, ⟨42, 42, .ro, 0⟩, ⟨41, 40, .ro, 0⟩, ⟨39, 39, .ro, 0⟩, ⟨38, 26, .ro, 0⟩]⟩,
  ⟨"REGION_CHAN_COUNTS", 0x048401, [(512, 4)],
    [⟨71, 60, .ro, 0⟩, ⟨59, 48, .ro, 0⟩, ⟨47, 36, .ro, 0⟩, ⟨35, 20, .ro, 0⟩, ⟨19, 8, .ro, 0⟩, ⟨7, 0, .ro, 0⟩]⟩,
  ⟨"REGION_CHAN_TRAFFIC", 0x048402, [(512, 4)],
    [⟨71, 36, .ro, 0⟩, ⟨35, 0, .ro, 0⟩]⟩]

/-- The registers of block 04. -/
def regs04 : List RegDef := regs04_0 ++ regs04_1 ++ regs04_2 ++ regs04_3

def regs05_0 : List RegDef := [
  ⟨"SRC_CTRL", 0x050000, [(24, 16)],
    [⟨71, 71, .rw, 0⟩, ⟨70, 62, .rw, 0⟩, ⟨61, 61, .ro, 0⟩, ⟨60, 55, .rw, 0⟩, ⟨54, 52, .rw, 0⟩, ⟨51, 46, .rw, 0⟩, ⟨45, 45, .rw, 0⟩, ⟨44, 43, .rw, 1⟩, ⟨42, 39, .rw, 0⟩, ⟨38, 23, .rw, 100⟩]⟩,
  ⟨"SRC_FORMAT", 0x050001, [(24, 16)],
    [⟨71, 56, .rw, 0⟩, ⟨55, 40, .rw, 0⟩, ⟨39, 36, .rw, 0⟩, ⟨35, 32, .rw, 0⟩, ⟨31, 24, .rw, 0⟩, ⟨23, 16, .rw, 0⟩, ⟨15, 8, .rw, 0⟩, ⟨7, 7, .rw, 0⟩]⟩,
  ⟨"SRC_FILL", 0x050002, [(24, 16)],
    [⟨71, 60, .rw, 0⟩, ⟨59, 48, .rw, 0⟩, ⟨47, 36, .rw, 0⟩]⟩,
  ⟨"SRC_RING", 0x050003, [(24, 16)],
    [⟨71, 36, .rw, 0⟩, ⟨35, 31, .rw, 0⟩]⟩,
  ⟨"CAP_LINK", 0x050004, [(8, 16)],
    [⟨71, 70, .rw, 0⟩, ⟨69, 66, .rw, 0⟩, ⟨65, 65, .rw, 0⟩, ⟨64, 59, .rw, 0⟩]⟩,
  ⟨"SRC_STATUS", 0x050007, [(24, 16)],
    [⟨71, 69, .ro, 0⟩, ⟨68, 65, .ro, 0⟩, ⟨64, 61, .ro, 0⟩, ⟨60, 56, .ro, 0⟩, ⟨55, 24, .ro, 0⟩]⟩,
  ⟨"SRC_PROGRESS", 0x050008, [(24, 16)],
    [⟨71, 40, .ro, 0⟩, ⟨39, 24, .ro, 0⟩, ⟨23, 20, .ro, 0⟩]⟩,
  ⟨"SRC_COUNTS", 0x050009, [(24, 16)],
    [⟨71, 44, .ro, 0⟩, ⟨43, 32, .ro, 0⟩, ⟨31, 20, .ro, 0⟩, ⟨19, 8, .ro, 0⟩]⟩]

def regs05_1 : List RegDef := [
  ⟨"SRC_ERRORS", 0x05000A, [(24, 16)],
    [⟨71, 44, .ro, 0⟩, ⟨43, 28, .ro, 0⟩, ⟨27, 16, .ro, 0⟩, ⟨15, 8, .ro, 0⟩, ⟨7, 0, .ro, 0⟩]⟩,
  ⟨"FLOW_LINK", 0x050084, [(16, 16)],
    [⟨71, 70, .rw, 0⟩, ⟨69, 68, .rw, 0⟩, ⟨67, 52, .rw, 0⟩, ⟨51, 45, .rw, 0⟩, ⟨44, 44, .rw, 0⟩, ⟨43, 12, .rw, 0⟩, ⟨11, 11, .rw, 0⟩, ⟨10, 10, .rw, 0⟩]⟩,
  ⟨"FLOW_DST_HI", 0x050085, [(16, 16)],
    [⟨71, 8, .rw, 0⟩]⟩,
  ⟨"FLOW_DST_LO", 0x050086, [(16, 16)],
    [⟨71, 8, .rw, 0⟩]⟩,
  ⟨"SCALE_STATUS", 0x051000, [(4, 1)],
    [⟨71, 71, .ro, 0⟩, ⟨70, 62, .ro, 0⟩, ⟨61, 61, .ro, 0⟩, ⟨60, 60, .ro, 0⟩, ⟨55, 28, .rc, 0⟩, ⟨27, 0, .rc, 0⟩]⟩,
  ⟨"INPUT_CAPS", 0x051800, [],
    [⟨71, 68, .ro, 8⟩, ⟨67, 62, .ro, 16⟩, ⟨61, 58, .ro, 4⟩, ⟨57, 46, .ro, 128⟩, ⟨45, 34, .ro, 32⟩, ⟨33, 29, .ro, 16⟩, ⟨28, 22, .ro, 64⟩]⟩]

/-- The registers of block 05. -/
def regs05 : List RegDef := regs05_0 ++ regs05_1

def regs06_0 : List RegDef := [
  ⟨"COMP_CTRL", 0x060000, [],
    [⟨71, 71, .rw, 0⟩, ⟨70, 70, .rw, 0⟩, ⟨69, 69, .rw, 0⟩]⟩,
  ⟨"COMP_STATUS", 0x060001, [],
    [⟨71, 40, .ro, 0⟩, ⟨39, 24, .ro, 0⟩, ⟨23, 8, .ro, 0⟩, ⟨7, 7, .ro, 0⟩, ⟨6, 6, .ro, 0⟩, ⟨5, 5, .ro, 0⟩, ⟨4, 4, .ro, 0⟩]⟩,
  ⟨"COLOUR_CTRL", 0x060002, [],
    [⟨71, 58, .rw, 1500⟩, ⟨57, 48, .rw, 203⟩, ⟨47, 40, .rw, 1⟩, ⟨39, 38, .rw, 0⟩, ⟨37, 33, .rw, 16⟩, ⟨32, 31, .rw, 2⟩, ⟨30, 15, .rw, 0x8000⟩]⟩,
  ⟨"LAMP_MAP", 0x060004, [(2, 1)],
    [⟨71, 64, .rw, 0⟩, ⟨63, 61, .rw, 0⟩, ⟨60, 44, .rw, 0⟩]⟩,
  ⟨"LAMP_RECORDS", 0x060006, [],
    [⟨71, 36, .rwl, 0⟩, ⟨35, 10, .rwl, 0⟩, ⟨9, 9, .rwl, 0⟩]⟩,
  ⟨"COMP_WORK", 0x060007, [],
    [⟨71, 36, .rwl, 0⟩, ⟨35, 35, .rwl, 0⟩]⟩,
  ⟨"CAL_CMD", 0x060008, [],
    [⟨71, 36, .wo, 0⟩, ⟨35, 12, .wo, 0⟩]⟩,
  ⟨"CAL_STATUS", 0x060009, [],
    [⟨71, 71, .ro, 0⟩, ⟨70, 70, .ro, 0⟩, ⟨69, 69, .ro, 0⟩, ⟨68, 45, .ro, 0⟩, ⟨44, 20, .rc, 0⟩, ⟨19, 4, .rc, 0⟩]⟩]

def regs06_1 : List RegDef := [
  ⟨"COMP_REGION", 0x060040, [(64, 1)],
    [⟨71, 56, .rw, 0⟩, ⟨55, 40, .rw, 0⟩, ⟨39, 24, .rw, 0⟩, ⟨23, 8, .rw, 0⟩, ⟨7, 6, .rw, 0⟩, ⟨5, 5, .rw, 0⟩]⟩,
  ⟨"LAYER_CTRL", 0x061000, [(256, 16)],
    [⟨71, 71, .rw, 0⟩, ⟨70, 62, .rw, 0⟩, ⟨61, 56, .rw, 0⟩, ⟨55, 55, .rw, 0⟩]⟩,
  ⟨"LAYER_STATUS", 0x061001, [(256, 16)],
    [⟨71, 71, .ro, 0⟩, ⟨70, 70, .ro, 0⟩, ⟨69, 68, .ro, 0⟩, ⟨67, 67, .ro, 0⟩, ⟨66, 66, .ro, 0⟩, ⟨65, 42, .ro, 0⟩]⟩,
  ⟨"LAYER_REC", 0x061008, [(256, 16), (8, 1)],
    [⟨71, 0, .ro, 0⟩]⟩]

/-- The registers of block 06. -/
def regs06 : List RegDef := regs06_0 ++ regs06_1

def regs07_0 : List RegDef := [
  ⟨"PORT_CTRL", 0x070000, [(64, 16)],
    [⟨71, 71, .rw, 0⟩, ⟨70, 69, .rw, 0⟩, ⟨68, 68, .rw, 0⟩, ⟨67, 67, .wo, 0⟩]⟩,
  ⟨"PORT_STATUS", 0x070001, [(64, 16)],
    [⟨71, 70, .ro, 0⟩, ⟨69, 68, .ro, 0⟩, ⟨67, 57, .ro, 0⟩, ⟨56, 46, .ro, 0⟩, ⟨45, 35, .ro, 0⟩, ⟨34, 34, .ro, 0⟩]⟩,
  ⟨"PORT_COUNTS", 0x070002, [(64, 16)],
    [⟨71, 40, .ro, 0⟩, ⟨39, 24, .ro, 0⟩, ⟨23, 0, .ro, 0⟩]⟩,
  ⟨"PORT_ERRORS", 0x070003, [(64, 16)],
    [⟨71, 56, .ro, 0⟩, ⟨55, 40, .ro, 0⟩, ⟨39, 24, .ro, 0⟩]⟩,
  ⟨"LAMP_MAC", 0x071000, [],
    [⟨71, 24, .rw, 0⟩, ⟨23, 8, .rw, 0x88b5⟩, ⟨7, 6, .rw, 2⟩]⟩,
  ⟨"LAMP_TIMING", 0x071001, [],
    [⟨71, 60, .rw, 20⟩, ⟨59, 44, .rw, 2000⟩]⟩,
  ⟨"REFRESH_CTRL", 0x071002, [],
    [⟨71, 71, .rw, 0⟩, ⟨70, 66, .rw, 0⟩, ⟨65, 62, .rw, 0⟩, ⟨61, 44, .rw, 60⟩, ⟨43, 33, .rw, 1⟩, ⟨32, 7, .rw, 0⟩]⟩,
  ⟨"REFRESH_STATUS", 0x071003, [],
    [⟨71, 71, .ro, 0⟩, ⟨70, 70, .ro, 0⟩, ⟨69, 40, .ro, 0⟩]⟩]

def regs07_1 : List RegDef := [
  ⟨"REFRESH_LAST", 0x071004, [],
    [⟨71, 0, .ro, 0⟩]⟩,
  ⟨"LAMP_AREAS", 0x071005, [],
    [⟨71, 36, .rw, 0⟩, ⟨35, 0, .rw, 0⟩]⟩,
  ⟨"UPLOAD_CMD", 0x071006, [],
    [⟨71, 66, .wo, 0⟩, ⟨65, 56, .wo, 0⟩, ⟨55, 55, .wo, 0⟩]⟩,
  ⟨"UPLOAD_STATUS", 0x071007, [],
    [⟨71, 71, .ro, 0⟩, ⟨70, 60, .ro, 0⟩, ⟨59, 54, .ro, 0⟩, ⟨53, 44, .ro, 0⟩, ⟨43, 40, .ro, 0⟩, ⟨39, 24, .ro, 0⟩, ⟨23, 8, .ro, 0⟩]⟩,
  ⟨"LAMP_EVENTS", 0x071008, [],
    [⟨3, 3, .w1c, 0⟩, ⟨2, 2, .w1c, 0⟩, ⟨1, 1, .w1c, 0⟩, ⟨0, 0, .w1c, 0⟩]⟩]

/-- The registers of block 07. -/
def regs07 : List RegDef := regs07_0 ++ regs07_1

def regs08_0 : List RegDef := [
  ⟨"LEDGER_CTRL", 0x080000, [],
    [⟨71, 71, .rw, 0⟩, ⟨70, 70, .rw, 0⟩, ⟨69, 54, .rw, 600⟩]⟩,
  ⟨"LEDGER_STATUS", 0x080001, [],
    [⟨71, 70, .ro, 0⟩, ⟨69, 67, .ro, 0⟩, ⟨66, 66, .ro, 0⟩, ⟨65, 65, .ro, 0⟩, ⟨64, 64, .ro, 0⟩, ⟨63, 32, .ro, 0⟩, ⟨31, 16, .ro, 0⟩, ⟨15, 15, .ro, 0⟩, ⟨14, 14, .ro, 0⟩]⟩,
  ⟨"JOURNAL_REGION", 0x080002, [],
    [⟨71, 40, .rwl, 0⟩, ⟨39, 24, .rwl, 0⟩, ⟨23, 19, .rwl, 0⟩, ⟨18, 18, .rwl, 0⟩]⟩,
  ⟨"JOURNAL_COUNTS", 0x080003, [],
    [⟨71, 40, .ro, 0⟩, ⟨39, 24, .ro, 0⟩, ⟨23, 8, .ro, 0⟩]⟩,
  ⟨"LEDGER_CMD", 0x080004, [],
    [⟨71, 70, .wo, 0⟩, ⟨69, 45, .wo, 0⟩, ⟨44, 20, .wo, 0⟩]⟩,
  ⟨"LEDGER_IMPORT", 0x080005, [],
    [⟨71, 36, .rw, 0⟩]⟩,
  ⟨"LEDGER_EVENTS", 0x080006, [],
    [⟨3, 3, .w1c, 0⟩, ⟨2, 2, .w1c, 0⟩, ⟨1, 1, .w1c, 0⟩, ⟨0, 0, .w1c, 0⟩]⟩,
  ⟨"LIFE_TIME", 0x080010, [],
    [⟨71, 36, .ro, 0⟩, ⟨35, 0, .ro, 0⟩]⟩]

def regs08_1 : List RegDef := [
  ⟨"LIFE_COUNTS", 0x080011, [],
    [⟨71, 24, .ro, 0⟩, ⟨23, 12, .ro, 0⟩, ⟨11, 0, .ro, 0⟩]⟩,
  ⟨"LIFE_SAMPLES", 0x080012, [],
    [⟨71, 36, .ro, 0⟩, ⟨35, 10, .ro, 0⟩]⟩,
  ⟨"LIFE_TEMP", 0x080018, [(8, 1)],
    [⟨71, 36, .ro, 0⟩]⟩,
  ⟨"AGE_TREND", 0x080020, [(32, 1)],
    [⟨71, 60, .ro, 0⟩, ⟨59, 28, .ro, 0⟩, ⟨27, 27, .ro, 0⟩]⟩,
  ⟨"AGE_NOW", 0x080040, [],
    [⟨71, 60, .ro, 0⟩, ⟨59, 48, .ro, 0⟩, ⟨47, 43, .ro, 0⟩]⟩,
  ⟨"CAL_TIME", 0x080100, [],
    [⟨71, 0, .ro, 0⟩]⟩,
  ⟨"CAL_SET", 0x080101, [],
    [⟨71, 0, .wo, 0⟩]⟩,
  ⟨"CAL_CTRL", 0x080102, [],
    [⟨71, 62, .rw, 0⟩, ⟨61, 61, .rw, 1⟩, ⟨60, 60, .rw, 1⟩]⟩]

def regs08_2 : List RegDef := [
  ⟨"CALENDAR_STATUS", 0x080103, [],
    [⟨71, 71, .ro, 0⟩, ⟨70, 70, .ro, 0⟩, ⟨69, 69, .ro, 0⟩, ⟨68, 68, .ro, 0⟩, ⟨67, 67, .ro, 0⟩, ⟨66, 47, .ro, 0⟩, ⟨46, 43, .ro, 0⟩]⟩]

/-- The registers of block 08. -/
def regs08 : List RegDef := regs08_0 ++ regs08_1 ++ regs08_2

def regs09_0 : List RegDef := [
  ⟨"VAULT_OWNER", 0x090000, [(192, 1)],
    [⟨71, 60, .rw, 0⟩, ⟨59, 59, .ro, 0⟩, ⟨58, 58, .ro, 0⟩, ⟨57, 57, .ro, 0⟩, ⟨56, 56, .ro, 0⟩, ⟨55, 55, .ro, 0⟩, ⟨54, 51, .ro, 0⟩, ⟨50, 50, .ro, 0⟩]⟩,
  ⟨"VAULT_RETIRE", 0x090100, [],
    [⟨71, 64, .wo, 0⟩]⟩,
  ⟨"VAULT_POWER", 0x090101, [],
    [⟨71, 60, .rw, 4095⟩]⟩,
  ⟨"VAULT_ERRORS", 0x090102, [],
    [⟨71, 52, .rc, 0⟩, ⟨51, 40, .rc, 0⟩, ⟨39, 32, .ro, 0⟩, ⟨31, 17, .ro, 0⟩, ⟨16, 0, .rc, 0⟩]⟩,
  ⟨"VAULT_EVENTS", 0x090103, [],
    [⟨71, 64, .ro, 0⟩, ⟨63, 60, .ro, 0⟩, ⟨5, 5, .w1c, 0⟩, ⟨4, 4, .w1c, 0⟩, ⟨3, 3, .w1c, 0⟩, ⟨2, 2, .w1c, 0⟩, ⟨1, 1, .w1c, 0⟩, ⟨0, 0, .w1c, 0⟩]⟩,
  ⟨"ASSAY_CMD", 0x090110, [],
    [⟨71, 71, .wo, 0⟩, ⟨70, 70, .wo, 0⟩, ⟨69, 62, .wo, 0⟩, ⟨61, 54, .wo, 0⟩, ⟨53, 46, .wo, 0⟩, ⟨45, 45, .wo, 0⟩]⟩,
  ⟨"ASSAY_STATUS", 0x090111, [],
    [⟨71, 71, .ro, 0⟩, ⟨70, 67, .ro, 0⟩, ⟨66, 59, .ro, 0⟩, ⟨58, 51, .ro, 0⟩, ⟨50, 43, .ro, 0⟩]⟩,
  ⟨"ASSAY_BANK", 0x090200, [(192, 1)],
    [⟨71, 71, .ro, 0⟩, ⟨70, 70, .ro, 0⟩, ⟨69, 69, .ro, 0⟩, ⟨68, 53, .ro, 0⟩, ⟨52, 38, .ro, 0⟩, ⟨37, 31, .ro, 0⟩]⟩]

/-- The registers of block 09. -/
def regs09 : List RegDef := regs09_0

def regs0A_0 : List RegDef := [
  ⟨"DRAM_CONFIG", 0x0A0000, [],
    [⟨71, 70, .ro, 0⟩, ⟨69, 67, .ro, 0⟩, ⟨66, 64, .ro, 0⟩, ⟨63, 28, .ro, 0⟩, ⟨27, 20, .ro, 0⟩, ⟨19, 19, .ro, 0⟩]⟩,
  ⟨"DRAM_CTRL", 0x0A0001, [],
    [⟨71, 64, .rw, 24⟩, ⟨63, 60, .rw, 4⟩, ⟨59, 56, .rw, 3⟩, ⟨55, 52, .rw, 1⟩, ⟨51, 36, .rw, 1024⟩]⟩,
  ⟨"DRAM_CH_STATUS", 0x0A0010, [(8, 1)],
    [⟨71, 69, .ro, 0⟩, ⟨68, 68, .ro, 0⟩, ⟨67, 67, .ro, 0⟩, ⟨66, 62, .rc, 0⟩, ⟨61, 38, .ro, 0⟩]⟩,
  ⟨"DRAM_CH_CE", 0x0A0020, [(8, 1)],
    [⟨71, 36, .ro, 0⟩, ⟨35, 28, .ro, 0⟩, ⟨27, 27, .ro, 0⟩]⟩,
  ⟨"DRAM_CH_UE_A", 0x0A0030, [(8, 1)],
    [⟨71, 71, .ro, 0⟩, ⟨70, 68, .ro, 0⟩, ⟨67, 32, .ro, 0⟩, ⟨31, 24, .ro, 0⟩, ⟨23, 23, .ro, 0⟩, ⟨22, 20, .ro, 0⟩, ⟨19, 18, .ro, 0⟩, ⟨17, 0, .ro, 0⟩]⟩,
  ⟨"DRAM_CH_UE_B", 0x0A0040, [(8, 1)],
    [⟨71, 0, .ro, 0⟩]⟩,
  ⟨"DRAM_TRAFFIC", 0x0A0050, [(8, 1)],
    [⟨71, 54, .rc, 0⟩, ⟨53, 36, .rc, 0⟩, ⟨35, 18, .rc, 0⟩, ⟨17, 0, .rc, 0⟩]⟩,
  ⟨"DRAM_EVENTS", 0x0A0060, [],
    [⟨4, 4, .w1c, 0⟩, ⟨3, 3, .w1c, 0⟩, ⟨2, 2, .w1c, 0⟩, ⟨1, 1, .w1c, 0⟩, ⟨0, 0, .w1c, 0⟩]⟩]

/-- The registers of block 0A. -/
def regs0A : List RegDef := regs0A_0

def regs0B_0 : List RegDef := [
  ⟨"POOL_CFG_A", 0x0B0000, [(16, 4)],
    [⟨71, 36, .rw, 0⟩, ⟨35, 33, .rw, 0⟩, ⟨32, 29, .rw, 0⟩, ⟨28, 28, .rw, 0⟩, ⟨27, 27, .rw, 0⟩]⟩,
  ⟨"POOL_CFG_B", 0x0B0001, [(16, 4)],
    [⟨71, 46, .rw, 0⟩, ⟨45, 10, .rw, 0⟩]⟩,
  ⟨"POOL_STATUS", 0x0B0002, [(16, 4)],
    [⟨71, 70, .ro, 0⟩, ⟨69, 66, .ro, 0⟩, ⟨65, 40, .ro, 0⟩, ⟨39, 14, .ro, 0⟩, ⟨13, 7, .ro, 0⟩]⟩,
  ⟨"POOL_COUNTS", 0x0B0003, [(16, 4)],
    [⟨71, 56, .ro, 0⟩, ⟨55, 40, .ro, 0⟩, ⟨39, 24, .ro, 0⟩]⟩,
  ⟨"POOL_TAKE", 0x0B0040, [(16, 1)],
    [⟨71, 0, .rc, 0⟩]⟩,
  ⟨"POOL_HOST_HANDLE", 0x0B0050, [],
    [⟨71, 0, .rw, 0⟩]⟩,
  ⟨"POOL_HOST_CMD", 0x0B0051, [],
    [⟨71, 70, .wo, 0⟩, ⟨69, 60, .wo, 0⟩, ⟨59, 51, .wo, 0⟩]⟩,
  ⟨"POOL_HOST_STATUS", 0x0B0052, [],
    [⟨71, 71, .ro, 0⟩, ⟨70, 63, .ro, 0⟩, ⟨62, 59, .ro, 0⟩, ⟨58, 33, .ro, 0⟩]⟩]

def regs0B_1 : List RegDef := [
  ⟨"POOL_BAD", 0x0B0053, [],
    [⟨71, 36, .ro, 0⟩, ⟨35, 26, .ro, 0⟩, ⟨25, 22, .ro, 0⟩, ⟨21, 6, .ro, 0⟩]⟩,
  ⟨"POOL_EVENTS", 0x0B0054, [],
    [⟨3, 3, .w1c, 0⟩, ⟨2, 2, .w1c, 0⟩, ⟨1, 1, .w1c, 0⟩, ⟨0, 0, .w1c, 0⟩]⟩,
  ⟨"FIFO_CTRL", 0x0B1000, [(64, 4)],
    [⟨71, 71, .rw, 0⟩, ⟨70, 70, .rw, 0⟩, ⟨69, 68, .rw, 0⟩, ⟨67, 58, .rw, 0⟩, ⟨57, 57, .rw, 0⟩, ⟨56, 48, .rw, 0⟩]⟩,
  ⟨"FIFO_STATUS", 0x0B1001, [(64, 4)],
    [⟨71, 63, .ro, 0⟩, ⟨62, 54, .ro, 0⟩, ⟨53, 46, .ro, 0⟩, ⟨45, 37, .ro, 0⟩]⟩,
  ⟨"FIFO_COUNTS", 0x0B1002, [(64, 4)],
    [⟨71, 48, .ro, 0⟩, ⟨47, 32, .ro, 0⟩, ⟨31, 16, .ro, 0⟩, ⟨15, 0, .ro, 0⟩]⟩,
  ⟨"FIFO_CLOSE", 0x0B1003, [(64, 4)],
    [⟨71, 69, .wo, 0⟩, ⟨68, 68, .wo, 0⟩]⟩,
  ⟨"FIFO_POP", 0x0B1400, [(64, 1)],
    [⟨71, 0, .rc, 0⟩]⟩,
  ⟨"FIFO_PUSH", 0x0B1800, [(64, 8), (8, 1)],
    [⟨71, 0, .wo, 0⟩]⟩]

/-- The registers of block 0B. -/
def regs0B : List RegDef := regs0B_0 ++ regs0B_1

def regs0C_0 : List RegDef := [
  ⟨"HOST_LINK", 0x0C0000, [],
    [⟨71, 69, .ro, 0⟩, ⟨68, 64, .ro, 0⟩, ⟨63, 48, .ro, 0⟩, ⟨47, 32, .ro, 0⟩, ⟨31, 16, .ro, 0⟩]⟩,
  ⟨"HOST_ABI", 0x0C0001, [],
    [⟨71, 64, .rw, 0⟩, ⟨63, 56, .ro, 0⟩, ⟨55, 55, .ro, 0⟩, ⟨54, 54, .ro, 0⟩]⟩,
  ⟨"HOST_WINDOW", 0x0C0002, [],
    [⟨71, 36, .rw, 0⟩]⟩,
  ⟨"HOST_ERRORS", 0x0C0003, [],
    [⟨71, 48, .rc, 0⟩, ⟨47, 24, .rc, 0⟩, ⟨23, 0, .rc, 0⟩]⟩,
  ⟨"HOST_EVENTS", 0x0C0004, [],
    [⟨3, 3, .w1c, 0⟩, ⟨2, 2, .w1c, 0⟩, ⟨1, 1, .w1c, 0⟩, ⟨0, 0, .w1c, 0⟩]⟩,
  ⟨"SQ_BASE_ADMIN", 0x0C0800, [],
    [⟨71, 8, .rw, 0⟩]⟩,
  ⟨"SQ_CTRL_ADMIN", 0x0C0801, [],
    [⟨71, 71, .rw, 0⟩, ⟨70, 66, .rw, 0⟩, ⟨65, 30, .rw, 0⟩, ⟨29, 24, .rw, 0⟩, ⟨23, 21, .rw, 0⟩, ⟨20, 19, .rw, 0⟩]⟩,
  ⟨"SQ_STATE_ADMIN", 0x0C0802, [],
    [⟨71, 56, .ro, 0⟩, ⟨55, 40, .ro, 0⟩, ⟨39, 24, .ro, 0⟩, ⟨23, 23, .ro, 0⟩]⟩]

def regs0C_1 : List RegDef := [
  ⟨"CQ_BASE_ADMIN", 0x0C0803, [],
    [⟨71, 8, .rw, 0⟩]⟩,
  ⟨"CQ_CTRL_ADMIN", 0x0C0804, [],
    [⟨71, 71, .rw, 0⟩, ⟨70, 66, .rw, 0⟩]⟩,
  ⟨"CQ_STATE_ADMIN", 0x0C0805, [],
    [⟨71, 56, .ro, 0⟩, ⟨55, 40, .ro, 0⟩, ⟨39, 39, .ro, 0⟩]⟩,
  ⟨"RING_COUNTS_ADMIN", 0x0C0806, [],
    [⟨71, 40, .ro, 0⟩, ⟨39, 24, .ro, 0⟩, ⟨23, 8, .ro, 0⟩]⟩,
  ⟨"SQ_BASE", 0x0C1000, [(512, 8)],
    [⟨71, 8, .rw, 0⟩]⟩,
  ⟨"SQ_CTRL", 0x0C1001, [(512, 8)],
    [⟨71, 71, .rw, 0⟩, ⟨70, 66, .rw, 0⟩, ⟨65, 30, .rw, 0⟩, ⟨29, 24, .rw, 0⟩, ⟨23, 21, .rw, 0⟩, ⟨20, 19, .rw, 0⟩]⟩,
  ⟨"SQ_STATE", 0x0C1002, [(512, 8)],
    [⟨71, 56, .ro, 0⟩, ⟨55, 40, .ro, 0⟩, ⟨39, 24, .ro, 0⟩, ⟨23, 23, .ro, 0⟩]⟩,
  ⟨"CQ_BASE", 0x0C1003, [(512, 8)],
    [⟨71, 8, .rw, 0⟩]⟩]

def regs0C_2 : List RegDef := [
  ⟨"CQ_CTRL", 0x0C1004, [(512, 8)],
    [⟨71, 71, .rw, 0⟩, ⟨70, 66, .rw, 0⟩]⟩,
  ⟨"CQ_STATE", 0x0C1005, [(512, 8)],
    [⟨71, 56, .ro, 0⟩, ⟨55, 40, .ro, 0⟩, ⟨39, 39, .ro, 0⟩]⟩,
  ⟨"RING_COUNTS", 0x0C1006, [(512, 8)],
    [⟨71, 40, .ro, 0⟩, ⟨39, 24, .ro, 0⟩, ⟨23, 8, .ro, 0⟩]⟩,
  ⟨"DMA_GLOBAL", 0x0C4000, [],
    [⟨71, 71, .rw, 1⟩, ⟨70, 70, .ro, 0⟩, ⟨69, 66, .ro, 0⟩, ⟨65, 65, .wo, 0⟩, ⟨64, 62, .rw, 2⟩]⟩,
  ⟨"DMA_CTRL", 0x0C4010, [(32, 4)],
    [⟨71, 36, .rw, 0⟩, ⟨35, 35, .wo, 0⟩, ⟨34, 34, .wo, 0⟩, ⟨33, 33, .wo, 0⟩, ⟨32, 32, .rw, 0⟩]⟩,
  ⟨"DMA_STATUS", 0x0C4011, [(32, 4)],
    [⟨71, 69, .ro, 0⟩, ⟨68, 65, .ro, 0⟩, ⟨64, 33, .ro, 0⟩]⟩,
  ⟨"DMA_PROGRESS", 0x0C4012, [(32, 4)],
    [⟨71, 36, .ro, 0⟩, ⟨35, 0, .ro, 0⟩]⟩,
  ⟨"CS_CTRL", 0x0C6000, [],
    [⟨71, 68, .rw, 0⟩, ⟨67, 65, .rw, 0⟩]⟩]

def regs0C_3 : List RegDef := [
  ⟨"CS_QUEUE", 0x0C6001, [],
    [⟨71, 60, .ro, 256⟩, ⟨59, 48, .ro, 32⟩]⟩,
  ⟨"CS_DRIVE", 0x0C6010, [(4, 4)],
    [⟨71, 69, .ro, 0⟩, ⟨68, 65, .ro, 0⟩, ⟨64, 62, .ro, 0⟩, ⟨61, 60, .ro, 0⟩, ⟨59, 59, .ro, 0⟩]⟩,
  ⟨"CS_CAPACITY", 0x0C6011, [(4, 4)],
    [⟨71, 8, .ro, 0⟩]⟩,
  ⟨"CS_COUNTS", 0x0C6012, [(4, 4)],
    [⟨71, 48, .ro, 0⟩, ⟨47, 24, .ro, 0⟩, ⟨23, 12, .ro, 0⟩, ⟨11, 0, .ro, 0⟩]⟩,
  ⟨"CS_BYTES", 0x0C6013, [(4, 4)],
    [⟨71, 36, .ro, 0⟩, ⟨35, 0, .ro, 0⟩]⟩]

/-- The registers of block 0C. -/
def regs0C : List RegDef := regs0C_0 ++ regs0C_1 ++ regs0C_2 ++ regs0C_3

def regs0D_0 : List RegDef := [
  ⟨"TELLER", 0x0D0000, [(64, 16)],
    [⟨71, 71, .rwl, 0⟩, ⟨70, 67, .rwl, 0⟩, ⟨66, 63, .rwl, 0⟩]⟩,
  ⟨"MBX_CTRL", 0x0D0001, [(64, 16)],
    [⟨71, 52, .rw, 0x2710⟩]⟩,
  ⟨"A_POST", 0x0D0002, [(64, 16)],
    [⟨71, 0, .wo, 0⟩]⟩,
  ⟨"A_RECV", 0x0D0003, [(64, 16)],
    [⟨71, 0, .rc, 0⟩]⟩,
  ⟨"A_ACK", 0x0D0004, [(64, 16)],
    [⟨71, 71, .wo, 0⟩, ⟨15, 0, .wo, 0⟩]⟩,
  ⟨"A_STATUS", 0x0D0005, [(64, 16)],
    [⟨71, 70, .ro, 0⟩, ⟨69, 69, .ro, 0⟩, ⟨68, 68, .ro, 0⟩, ⟨67, 67, .ro, 0⟩, ⟨66, 66, .ro, 0⟩, ⟨65, 50, .ro, 0⟩, ⟨49, 48, .ro, 0⟩, ⟨47, 40, .ro, 0⟩, ⟨39, 32, .ro, 0⟩, ⟨31, 24, .ro, 0⟩, ⟨23, 20, .ro, 0⟩]⟩,
  ⟨"B_POST", 0x0D0006, [(64, 16)],
    [⟨71, 0, .wo, 0⟩]⟩,
  ⟨"B_RECV", 0x0D0007, [(64, 16)],
    [⟨71, 0, .rc, 0⟩]⟩]

def regs0D_1 : List RegDef := [
  ⟨"B_ACK", 0x0D0008, [(64, 16)],
    [⟨71, 71, .wo, 0⟩, ⟨15, 0, .wo, 0⟩]⟩,
  ⟨"B_STATUS", 0x0D0009, [(64, 16)],
    [⟨71, 70, .ro, 0⟩, ⟨69, 69, .ro, 0⟩, ⟨68, 68, .ro, 0⟩, ⟨67, 67, .ro, 0⟩, ⟨66, 66, .ro, 0⟩, ⟨65, 50, .ro, 0⟩, ⟨49, 48, .ro, 0⟩, ⟨47, 40, .ro, 0⟩, ⟨39, 32, .ro, 0⟩, ⟨31, 24, .ro, 0⟩, ⟨23, 20, .ro, 0⟩]⟩,
  ⟨"MBX_COUNTS", 0x0D000A, [(64, 16)],
    [⟨71, 48, .ro, 0⟩, ⟨47, 36, .ro, 0⟩, ⟨35, 24, .ro, 0⟩, ⟨23, 12, .ro, 0⟩, ⟨11, 0, .ro, 0⟩]⟩,
  ⟨"MBX_GLOBAL", 0x0D0400, [],
    [⟨71, 71, .rwl, 0⟩]⟩,
  ⟨"MBX_HOST_IN", 0x0D0401, [],
    [⟨63, 0, .w1c, 0⟩]⟩,
  ⟨"MBX_HOST_ACK", 0x0D0402, [],
    [⟨63, 0, .w1c, 0⟩]⟩,
  ⟨"HOST_INT_PEND", 0x0D0403, [],
    [⟨31, 2, .w1c, 0⟩, ⟨0, 0, .w1c, 0⟩]⟩,
  ⟨"CHAN_INT_PEND", 0x0D1000, [(512, 2)],
    [⟨7, 0, .w1c, 0⟩]⟩]

def regs0D_2 : List RegDef := [
  ⟨"CHAN_INT_CTRL", 0x0D1001, [(512, 2)],
    [⟨71, 64, .rw, 4⟩, ⟨63, 56, .rw, 4⟩, ⟨55, 45, .rw, 0⟩]⟩,
  ⟨"GROUP_CTRL", 0x0D2000, [(64, 2)],
    [⟨71, 71, .rw, 0⟩, ⟨70, 67, .rw, 0⟩, ⟨66, 51, .rw, 0⟩, ⟨50, 40, .rw, 0⟩]⟩,
  ⟨"GROUP_STATUS", 0x0D2001, [(64, 2)],
    [⟨71, 71, .ro, 0⟩, ⟨70, 70, .ro, 0⟩, ⟨69, 40, .ro, 0⟩, ⟨39, 10, .ro, 0⟩]⟩]

/-- The registers of block 0D. -/
def regs0D : List RegDef := regs0D_0 ++ regs0D_1 ++ regs0D_2

def regs0E_0 : List RegDef := [
  ⟨"FAB_IDENT", 0x0E0000, [],
    [⟨71, 54, .rwl, 0⟩, ⟨53, 38, .rwl, 0⟩, ⟨37, 37, .rwl, 1⟩, ⟨36, 35, .rwl, 3⟩, ⟨34, 34, .rwl, 0⟩]⟩,
  ⟨"FAB_CTRL", 0x0E0001, [],
    [⟨71, 71, .rw, 0⟩, ⟨70, 51, .rw, 0x411b⟩, ⟨50, 45, .rw, 30⟩, ⟨44, 33, .rw, 2000⟩, ⟨32, 17, .rw, 8000⟩, ⟨16, 5, .rw, 2000⟩]⟩,
  ⟨"FAB_STATUS", 0x0E0002, [],
    [⟨71, 70, .ro, 0⟩, ⟨69, 52, .ro, 0⟩, ⟨51, 34, .ro, 0⟩, ⟨33, 15, .ro, 0⟩, ⟨14, 14, .ro, 0⟩, ⟨13, 13, .ro, 0⟩, ⟨12, 12, .ro, 0⟩, ⟨11, 11, .ro, 0⟩]⟩,
  ⟨"FAB_EPOCH", 0x0E0003, [],
    [⟨71, 32, .ro, 0⟩, ⟨31, 16, .ro, 0⟩]⟩,
  ⟨"FAB_COMMITTED", 0x0E0004, [],
    [⟨71, 32, .ro, 0⟩]⟩,
  ⟨"FAB_COMMIT_TIME", 0x0E0005, [],
    [⟨71, 0, .ro, 0⟩]⟩,
  ⟨"FAB_EPOCH_COUNTS", 0x0E0006, [],
    [⟨71, 40, .ro, 0⟩, ⟨39, 24, .ro, 0⟩, ⟨23, 8, .ro, 0⟩, ⟨7, 0, .ro, 0⟩]⟩,
  ⟨"FAB_EVENTS", 0x0E0008, [],
    [⟨5, 5, .w1c, 0⟩, ⟨4, 4, .w1c, 0⟩, ⟨3, 3, .w1c, 0⟩, ⟨2, 2, .w1c, 0⟩, ⟨1, 1, .w1c, 0⟩, ⟨0, 0, .w1c, 0⟩]⟩]

def regs0E_1 : List RegDef := [
  ⟨"FAB_TIME_CTRL", 0x0E0010, [],
    [⟨71, 71, .rw, 0⟩, ⟨70, 69, .rw, 0⟩, ⟨68, 61, .rw, 128⟩]⟩,
  ⟨"FAB_TIME_STATUS", 0x0E0011, [],
    [⟨71, 70, .ro, 0⟩, ⟨69, 66, .ro, 15⟩, ⟨65, 58, .ro, 0⟩, ⟨57, 26, .ro, 0⟩]⟩,
  ⟨"FAB_LINK_CTRL", 0x0E0100, [(8, 4)],
    [⟨71, 71, .rw, 0⟩, ⟨70, 63, .rw, 0⟩]⟩,
  ⟨"FAB_LINK_STATUS", 0x0E0101, [(8, 4)],
    [⟨71, 69, .ro, 0⟩, ⟨68, 66, .ro, 0⟩, ⟨65, 64, .ro, 0⟩, ⟨63, 46, .ro, 0⟩, ⟨45, 38, .ro, 0⟩]⟩,
  ⟨"FAB_LINK_COUNTS", 0x0E0102, [(8, 4)],
    [⟨71, 40, .ro, 0⟩, ⟨39, 24, .ro, 0⟩, ⟨23, 8, .ro, 0⟩, ⟨7, 0, .ro, 0⟩]⟩,
  ⟨"FAB_GATEWAY", 0x0E0200, [(64, 4)],
    [⟨71, 71, .rw, 0⟩, ⟨70, 53, .rw, 0⟩, ⟨52, 51, .rw, 0⟩, ⟨50, 49, .rw, 0⟩, ⟨48, 33, .rw, 0⟩, ⟨32, 32, .rw, 0⟩, ⟨31, 31, .rw, 0⟩]⟩,
  ⟨"FAB_GATEWAY_HI", 0x0E0201, [(64, 4)],
    [⟨71, 8, .rw, 0⟩]⟩,
  ⟨"FAB_GATEWAY_LO", 0x0E0202, [(64, 4)],
    [⟨71, 8, .rw, 0⟩]⟩]

/-- The registers of block 0E. -/
def regs0E : List RegDef := regs0E_0 ++ regs0E_1

def regs0F_0 : List RegDef := [
  ⟨"GATE_CTRL", 0x0F0000, [(24, 16)],
    [⟨71, 71, .rw, 0⟩, ⟨70, 70, .rw, 0⟩, ⟨69, 69, .wo, 0⟩, ⟨68, 68, .wo, 0⟩, ⟨67, 67, .rw, 0⟩, ⟨66, 58, .rw, 0⟩, ⟨57, 26, .rw, 0⟩]⟩,
  ⟨"GATE_BASE", 0x0F0001, [(24, 16)],
    [⟨71, 0, .rw, 0⟩]⟩,
  ⟨"GATE_STATUS", 0x0F0002, [(24, 16)],
    [⟨71, 71, .ro, 0⟩, ⟨70, 70, .ro, 0⟩, ⟨69, 66, .ro, 0⟩, ⟨65, 57, .ro, 0⟩, ⟨56, 25, .ro, 0⟩, ⟨24, 9, .ro, 0⟩, ⟨8, 8, .ro, 0⟩]⟩,
  ⟨"GATE_SWAP_TIME", 0x0F0003, [(24, 16)],
    [⟨71, 0, .ro, 0⟩]⟩,
  ⟨"GATE_COUNTS", 0x0F0004, [(24, 16)],
    [⟨71, 48, .ro, 0⟩, ⟨47, 24, .ro, 0⟩, ⟨23, 0, .ro, 0⟩]⟩,
  ⟨"SHAPER", 0x0F0008, [(24, 16), (8, 1)],
    [⟨71, 71, .rw, 0⟩, ⟨70, 40, .rw, 0⟩, ⟨39, 8, .rw, 0⟩]⟩,
  ⟨"UPLINK_SRC", 0x0F1000, [(16, 4)],
    [⟨71, 24, .rw, 0⟩, ⟨23, 23, .rw, 0⟩]⟩,
  ⟨"UPLINK_SRC_V4", 0x0F1001, [(16, 4)],
    [⟨71, 40, .rw, 0⟩]⟩]

def regs0F_1 : List RegDef := [
  ⟨"UPLINK_SRC_HI", 0x0F1002, [(16, 4)],
    [⟨71, 8, .rw, 0⟩]⟩,
  ⟨"UPLINK_SRC_LO", 0x0F1003, [(16, 4)],
    [⟨71, 8, .rw, 0⟩]⟩,
  ⟨"UPLINK_CTRL", 0x0F1100, [(4, 1)],
    [⟨71, 71, .rw, 0⟩, ⟨70, 70, .rw, 0⟩, ⟨69, 69, .rw, 0⟩]⟩,
  ⟨"UPLINK_STATUS", 0x0F1200, [(16, 1)],
    [⟨71, 70, .ro, 0⟩, ⟨69, 69, .ro, 0⟩]⟩,
  ⟨"UPLINK_COUNTS", 0x0F1300, [(16, 1)],
    [⟨71, 40, .ro, 0⟩, ⟨39, 24, .ro, 0⟩, ⟨23, 8, .ro, 0⟩, ⟨7, 0, .ro, 0⟩]⟩,
  ⟨"TX_CTRL", 0x0F2000, [(64, 8)],
    [⟨71, 71, .rw, 0⟩, ⟨70, 69, .rw, 0⟩, ⟨68, 67, .rw, 0⟩, ⟨66, 64, .rw, 0⟩, ⟨63, 58, .rw, 0⟩, ⟨57, 42, .rw, 0⟩, ⟨41, 26, .rw, 0⟩, ⟨25, 25, .rw, 0⟩]⟩,
  ⟨"TX_DST_MAC", 0x0F2001, [(64, 8)],
    [⟨71, 24, .rw, 0⟩]⟩,
  ⟨"TX_DST_HI", 0x0F2002, [(64, 8)],
    [⟨71, 8, .rw, 0⟩]⟩]

def regs0F_2 : List RegDef := [
  ⟨"TX_DST_LO", 0x0F2003, [(64, 8)],
    [⟨71, 8, .rw, 0⟩]⟩,
  ⟨"TX_COUNTS", 0x0F2004, [(64, 8)],
    [⟨71, 40, .ro, 0⟩, ⟨39, 24, .ro, 0⟩]⟩,
  ⟨"INGEST_CTRL", 0x0F3000, [(256, 8)],
    [⟨71, 71, .rw, 0⟩, ⟨70, 62, .rw, 0⟩, ⟨61, 58, .rw, 0⟩, ⟨57, 56, .rw, 0⟩, ⟨55, 54, .rw, 0⟩, ⟨53, 38, .rw, 0⟩, ⟨37, 37, .rw, 0⟩, ⟨36, 33, .rw, 0⟩, ⟨32, 27, .rw, 0⟩, ⟨26, 24, .rw, 0⟩, ⟨23, 11, .rw, 0⟩, ⟨10, 4, .rw, 0⟩, ⟨3, 3, .rw, 0⟩]⟩,
  ⟨"INGEST_AUX", 0x0F3001, [(256, 8)],
    [⟨71, 40, .rw, 0⟩, ⟨39, 24, .rw, 1000⟩]⟩,
  ⟨"INGEST_DST_HI", 0x0F3002, [(256, 8)],
    [⟨71, 8, .rw, 0⟩]⟩,
  ⟨"INGEST_DST_LO", 0x0F3003, [(256, 8)],
    [⟨71, 8, .rw, 0⟩]⟩,
  ⟨"INGEST_STATUS", 0x0F3004, [(256, 8)],
    [⟨71, 70, .ro, 0⟩, ⟨69, 66, .ro, 0⟩, ⟨65, 65, .ro, 0⟩]⟩,
  ⟨"INGEST_COUNTS", 0x0F3005, [(256, 8)],
    [⟨71, 40, .ro, 0⟩, ⟨39, 24, .ro, 0⟩, ⟨23, 8, .ro, 0⟩, ⟨7, 0, .ro, 0⟩]⟩]

def regs0F_3 : List RegDef := [
  ⟨"INGEST_BYTES", 0x0F3006, [(256, 8)],
    [⟨71, 36, .ro, 0⟩, ⟨35, 0, .ro, 0⟩]⟩,
  ⟨"GCL", 0x0F4000, [(24, 512), (2, 256), (256, 1)],
    [⟨71, 0, .rw, 0⟩]⟩,
  ⟨"METER_MATCH", 0x0F8000, [(1024, 4)],
    [⟨71, 71, .rw, 0⟩, ⟨70, 67, .rw, 0⟩, ⟨66, 51, .rw, 0⟩, ⟨50, 35, .rw, 0⟩, ⟨34, 34, .rw, 0⟩, ⟨33, 33, .rw, 1⟩]⟩,
  ⟨"METER_RATE", 0x0F8001, [(1024, 4)],
    [⟨71, 48, .rw, 0⟩, ⟨47, 24, .rw, 0⟩]⟩,
  ⟨"METER_BURST", 0x0F8002, [(1024, 4)],
    [⟨71, 48, .rw, 0⟩, ⟨47, 24, .rw, 0⟩]⟩,
  ⟨"METER_COUNTS", 0x0F8003, [(1024, 4)],
    [⟨71, 48, .ro, 0⟩, ⟨47, 24, .ro, 0⟩, ⟨23, 0, .ro, 0⟩]⟩]

/-- The registers of block 0F. -/
def regs0F : List RegDef := regs0F_0 ++ regs0F_1 ++ regs0F_2 ++ regs0F_3

def regs10_0 : List RegDef := [
  ⟨"FAULT_CTRL", 0x100000, [],
    [⟨71, 60, .rw, 100⟩, ⟨59, 59, .rw, 1⟩, ⟨58, 58, .rw, 0⟩, ⟨57, 57, .wo, 0⟩]⟩,
  ⟨"FAULT_ESC", 0x100001, [],
    [⟨71, 69, .rw, 1⟩, ⟨68, 66, .rw, 1⟩, ⟨65, 63, .rw, 2⟩, ⟨62, 60, .rw, 2⟩]⟩,
  ⟨"FAULT_STATUS", 0x100002, [],
    [⟨71, 70, .ro, 0⟩, ⟨69, 69, .ro, 0⟩, ⟨68, 64, .ro, 0⟩, ⟨63, 48, .ro, 0⟩, ⟨47, 32, .ro, 0⟩, ⟨31, 24, .ro, 0⟩]⟩,
  ⟨"FAULT_ACK", 0x100003, [],
    [⟨71, 56, .wo, 0⟩, ⟨55, 55, .wo, 0⟩]⟩,
  ⟨"FAULT_PEND", 0x100004, [],
    [⟨3, 3, .w1c, 0⟩, ⟨2, 2, .w1c, 0⟩, ⟨1, 1, .w1c, 0⟩, ⟨0, 0, .w1c, 0⟩]⟩,
  ⟨"FAULT_COUNTS", 0x100005, [],
    [⟨71, 40, .ro, 0⟩, ⟨39, 24, .ro, 0⟩, ⟨23, 8, .ro, 0⟩, ⟨7, 0, .ro, 0⟩]⟩,
  ⟨"FAULT_OPEN", 0x100010, [(16, 1)],
    [⟨71, 71, .ro, 0⟩, ⟨70, 55, .ro, 0⟩, ⟨54, 47, .ro, 0⟩, ⟨46, 44, .ro, 0⟩, ⟨43, 32, .ro, 0⟩]⟩,
  ⟨"DAYBOOK_TIME", 0x100100, [(64, 2)],
    [⟨71, 0, .ro, 0⟩]⟩]

def regs10_1 : List RegDef := [
  ⟨"DAYBOOK_EVENT", 0x100101, [(64, 2)],
    [⟨71, 0, .ro, 0⟩]⟩]

/-- The registers of block 10. -/
def regs10 : List RegDef := regs10_0 ++ regs10_1

def regs11_0 : List RegDef := [
  ⟨"BOOT_STATUS", 0x110000, [],
    [⟨71, 68, .ro, 0⟩, ⟨67, 67, .ro, 0⟩, ⟨66, 66, .ro, 0⟩, ⟨65, 65, .ro, 0⟩, ⟨64, 61, .ro, 0⟩, ⟨60, 57, .ro, 0⟩, ⟨56, 54, .ro, 0⟩, ⟨53, 40, .ro, 0⟩, ⟨39, 32, .ro, 0⟩, ⟨31, 24, .ro, 0⟩]⟩,
  ⟨"BOOT_IMAGE", 0x110001, [],
    [⟨71, 40, .ro, 0⟩, ⟨39, 19, .ro, 0⟩]⟩,
  ⟨"DEVICE_UID", 0x110002, [],
    [⟨63, 0, .ro, 0⟩]⟩,
  ⟨"RESET_CTRL", 0x110003, [],
    [⟨71, 71, .wo, 0⟩, ⟨70, 70, .wo, 0⟩, ⟨69, 54, .wo, 0⟩, ⟨53, 53, .rw, 0⟩, ⟨52, 37, .ro, 0⟩]⟩,
  ⟨"POWER_CTRL", 0x110004, [],
    [⟨71, 71, .rw, 1⟩, ⟨70, 55, .rw, 100⟩]⟩,
  ⟨"POWER_STATUS", 0x110005, [],
    [⟨71, 69, .ro, 0⟩, ⟨68, 61, .ro, 0⟩, ⟨60, 60, .ro, 0⟩, ⟨59, 59, .ro, 0⟩, ⟨58, 43, .ro, 0⟩]⟩]

/-- The registers of block 11. -/
def regs11 : List RegDef := regs11_0

/-- The registers of a block of 65,536 words (R45); blocks above 11h hold none (R21). -/
def regBlock : Nat → List RegDef
  | 0x00 => regs00
  | 0x01 => regs01
  | 0x02 => regs02
  | 0x03 => regs03
  | 0x04 => regs04
  | 0x05 => regs05
  | 0x06 => regs06
  | 0x07 => regs07
  | 0x08 => regs08
  | 0x09 => regs09
  | 0x0A => regs0A
  | 0x0B => regs0B
  | 0x0C => regs0C
  | 0x0D => regs0D
  | 0x0E => regs0E
  | 0x0F => regs0F
  | 0x10 => regs10
  | 0x11 => regs11
  | _ => []

/-- Does an offset from the base fall on an element of an array with these dimensions? -/
def dimsHit : List (Nat × Nat) → Nat → Bool
  | [], o => o == 0
  | (c, st) :: ds, o => decide (o / st < c) && dimsHit ds (o % st)

/-- The register that a word address belongs to, if any (R21, R45). -/
def regAt (a : Nat) : Option RegDef :=
  (regBlock (a / 65536)).find? (fun r => decide (r.base ≤ a) && dimsHit r.dims (a - r.base))

/-- Is the word address assigned to a register? -/
def assigned (a : Nat) : Bool := (regAt a).isSome

/-- The plain reset values of a register's fields, put at their bits. -/
def fieldsReset : List FieldDef → Nat
  | [] => 0
  | f :: fs => f.reset * 2 ^ f.lo + fieldsReset fs

end Sys2Proof.Machine
end

