-- ==== Sys2Proof/Machine/ResetVal.lean ====
section
/-!
DEFINITION. Machine/ResetVal.lean: the reset value of every register (R22): the numbers of the register tables, and the
values that depend on the register's index or on a fuse.
-/

namespace Sys2Proof.Machine

/-- The bits [hi:lo] of a word, as a number. -/
def bits (w : Word) (hi lo : Nat) : Nat := (w.toNat / 2 ^ lo) % 2 ^ (hi + 1 - lo)

/-- The word with bits [hi:lo] set to the low bits of a number. -/
def putBits (w : Word) (hi lo v : Nat) : Word :=
  Word.of (w.toNat - bits w hi lo * 2 ^ lo + (v % 2 ^ (hi + 1 - lo)) * 2 ^ lo)

/-- The default teller table (R527), as a TELLER register word. -/
def tellerDefault (m : Nat) : Nat :=
  if m < 48 then 2 ^ 71 + 0 * 2 ^ 67 + (2 + m % 8) * 2 ^ 63
  else if m < 56 then 2 ^ 71 + 1 * 2 ^ 67 + (2 + (m - 48)) * 2 ^ 63
  else if m = 56 then 2 ^ 71 + 1 * 2 ^ 67 + 0 * 2 ^ 63
  else 0

/-- The owner code of a vault bank after reset (R147, R456). -/
def ownerReset (b : Nat) : Nat :=
  if b < 64 then b / 8 else if b < 128 then 0xFFF else if b < 136 then 0x600 else 0x700

/-- A fused field's bits at their place. -/
def fuseField (a hi lo : Nat) : Nat := bits (Config.fuse a) hi lo * 2 ^ lo

/-- The part of a register's reset value that is no plain number of its table: fields that depend on the index
(R25, R456, R527, R540, R542) and fused fields (R22). -/
def resetSpecial (a : Nat) : Nat :=
  let b := a / 65536
  let o := a % 65536
  if b = 0x01 then
    if o = 0x24 then fuseField a 71 62 + fuseField a 61 52 + fuseField a 51 44 else 0
  else if b = 0x02 then
    if o < 0x8000 && o % 0x40 == 0 then (o / 0x40 / 16) * 2 ^ 64 + (o / 0x40 % 16) * 2 ^ 60 else 0
  else if b = 0x03 then
    if o = 0 then fuseField a 16 13 + fuseField a 12 3 else 0
  else if b = 0x04 then
    if 0x0114 ≤ o && o ≤ 0x0117 then 2 ^ 61 else 0
  else if b = 0x05 then
    if o < 0x180 && o % 16 == 0 && decide (8 ≤ o / 16) then 2 ^ 61 else 0
  else if b = 0x07 then
    if o = 0x1000 then fuseField a 71 24 else 0
  else if b = 0x09 then
    if o < 192 then
      ownerReset o * 2 ^ 60 + (if 64 ≤ o && o < 128 then 2 ^ 58 else 0) + (if 176 ≤ o then 2 ^ 55 else 0)
        + (o / 16) * 2 ^ 51
    else 0
  else if b = 0x0D then
    if o < 0x400 && o % 16 == 0 then tellerDefault (o / 16)
    else if 0x1000 ≤ o && o < 0x1400 && o % 2 == 1 then ((o - 0x1000) / 2) * 2 ^ 45
    else if 0x2040 ≤ o && o < 0x2058 && o % 2 == 0 then (512 + ((o - 0x2000) / 2 - 32)) * 2 ^ 40
    else 0
  else if b = 0x0F then
    if 0x1000 ≤ o && o < 0x1040 && o % 4 == 0 then fuseField a 71 24 else 0
  else if b = 0x11 then
    if o = 2 then fuseField a 63 0 else 0
  else 0

/-- The value of a register word after a cold reset (R22); an unassigned address reads zero (R21). -/
def regReset (a : Nat) : Word :=
  match regAt a with
  | none => 0
  | some r => Word.of (fieldsReset r.fields + resetSpecial a)

end Sys2Proof.Machine
end

