-- ==== Sys2Proof/Machine/Tbl.lean ====
section
/-!
DEFINITION. Machine/Tbl.lean: sparse tables as plain data. A table is a list of (key, value) pairs; a key that is not
listed has the value a default function gives. Writing keeps ONE canonical form: keys strictly rising, and no entry
equal to what its key reads as when unlisted, so that equal contents are equal lists.
-/

namespace Sys2Proof.Machine

/-- The value a key has: the first entry for it, else the default. -/
def tget {α : Type} (d : Nat → α) : List (Nat × α) → Nat → α
  | [], k => d k
  | (j, v) :: r, k => if k = j then v else tget d r k

/-- The table without any entry for the key. -/
def terase {α : Type} : List (Nat × α) → Nat → List (Nat × α)
  | [], _ => []
  | (j, v) :: r, k => if k = j then terase r k else (j, v) :: terase r k

/-- An entry put at its place in rising key order. -/
def tins {α : Type} : List (Nat × α) → Nat → α → List (Nat × α)
  | [], k, v => [(k, v)]
  | (j, u) :: r, k, v => if k < j then (k, v) :: (j, u) :: r else (j, u) :: tins r k v

/-- Write a value under a key, keeping the canonical form. -/
def tput {α : Type} [DecidableEq α] (d : Nat → α) (m : List (Nat × α)) (k : Nat) (v : α) : List (Nat × α) :=
  if v = d k then terase m k else tins (terase m k) k v

/-- Change the value under a key by a function. -/
def tmod {α : Type} [DecidableEq α] (d : Nat → α) (m : List (Nat × α)) (k : Nat) (f : α → α) : List (Nat × α) :=
  tput d m k (f (tget d m k))

/-- Keys strictly above a bound and rising. -/
def trising {α : Type} : List (Nat × α) → Bool
  | [] => true
  | [_] => true
  | (j, _) :: (k, v) :: r => decide (j < k) && trising ((k, v) :: r)

/-- The canonical form: keys strictly rising, no entry equal to its default. -/
def twf {α : Type} [DecidableEq α] (d : Nat → α) (m : List (Nat × α)) : Bool :=
  trising m && m.all (fun p => decide (p.2 ≠ d p.1))

/-- Insert into a rising list of naturals without repeats. -/
def sinsert : List Nat → Nat → List Nat
  | [], k => [k]
  | j :: r, k => if k < j then k :: j :: r else if k = j then j :: r else j :: sinsert r k

/-- Remove from a list of naturals. -/
def sremove (l : List Nat) (k : Nat) : List Nat := l.filter (fun j => decide (j ≠ k))

/-- Is a natural listed? -/
def smem (l : List Nat) (k : Nat) : Bool := l.any (fun j => j == k)

end Sys2Proof.Machine
end

