-- ==== Sys2Proof/Machine/State.lean ====
section
/-!
DEFINITION. Machine/State.lean: the state of the block as plain data: the two memories, everything else the spec gives
the device, and the queue of waiting commands. Registers stand in one sparse table by word address; what no register
shows stands in the structures below, each with the rules of spec/ that name it.
-/

namespace Sys2Proof.Machine

/-! ### What the block sends -/

/-- A UDP datagram for an uplink port (R562, R602): the next hop's MAC address and the source port where the spec states them,
the destination address and port, the address family, the DSCP and the payload. -/
structure Datagram where
  mac : Option Nat
  hi : Nat
  lo : Nat
  v6 : Bool
  srcPort : Option Nat
  dstPort : Nat
  dscp : Nat
  body : List (BitVec 8)
  deriving DecidableEq, Repr

/-- Something the block has sent out: kept newest first in `Dev.out`. -/
inductive Out where
  /-- An MSI-X message on a vector (R544, R545). -/
  | msix (vector : Nat)
  /-- A posted write of packed words to host memory (R10, R502, R508), `poisoned` when sent with EP set (R515, R519). -/
  | hostWrite (addr : Nat) (words : List Word) (poisoned : Bool)
  /-- A read the device asks of host memory: an entry, a burst (R505, R516). -/
  | hostRead (addr : Nat) (bytes : Nat)
  /-- The mark byte of a completion entry (R502). -/
  | hostMark (addr : Nat) (mark : Nat)
  /-- An AER report: 1 Completer Abort as advisory non-fatal (R529), 2 the bus error of R517. -/
  | aer (kind : Nat) (addr : Nat)
  /-- A register or memory value returned to a master (R16, R497). -/
  | readData (master : Nat) (addr : Nat) (value : Word)
  /-- A completion of a BAR access (R494–R497): the BAR, the offset, the data, and whether the completion is poisoned
  (R457). -/
  | barData (bar off : Nat) (value : BitVec 64) (poisoned : Bool)
  /-- Bytes returned to a drive that read device memory (R520). -/
  | driveData (d addr : Nat) (bytes : List (BitVec 8))
  /-- An Unsupported Request completion (R493, R520). -/
  | unsupported (addr : Nat)
  /-- A NACK on the management port (R46, R529, R643). -/
  | nack
  /-- An in-band interrupt of the management port with its data byte (R533). -/
  | ibi (data : Nat)
  /-- A frame sent on a chain link (R555), header, payload and trailer. -/
  | chainFrame (link : Nat) (words : List Word)
  /-- A STOP or GO ordered set on a chain link (R558). -/
  | orderedSet (link : Nat) (stop : Bool) (mask : Nat)
  /-- A UDP datagram leaving an uplink port, in a class (R562, R580, R602). -/
  | uplinkFrame (port : Nat) (cls : Nat) (gram : Datagram)
  /-- A PFC frame sent on an uplink port (R589): the classes it pauses, or resumes. -/
  | pfc (port : Nat) (mask : Nat) (pause : Bool)
  /-- A departure notice flooded to a commit domain (R561). -/
  | departNotice (domain ident : Nat)
  /-- An IGMP or MLD report that joins or leaves a group on an uplink port (R595, R596). -/
  | groupReport (port : Nat) (join : Bool) (addrHi addrLo : Nat)
  /-- A lamp protocol frame on a lamp port: type and payload words (R419, R420). -/
  | lampFrame (port : Nat) (kind version : Nat) (all : Bool) (card seq first count aux : Nat) (body : List Nat)
  /-- An AVSBus frame (R64, R71). -/
  | avs (write : Bool) (millivolts : Nat)
  /-- A command to an NVMe drive (R521, R523). -/
  | drive (d : Nat) (kind : Nat) (lba : Nat) (blocks : Nat)
  /-- The reset output of a drive port, 1 released (R521, R524). -/
  | drivePerst (d : Nat) (released : Bool)
  /-- Words written to the SPI NOR (R442, R444). -/
  | spi (slot : Nat) (kind : Nat)
  /-- A value shifted out on TDO (R645). -/
  | tdo (value : Nat)
  deriving DecidableEq, Repr

/-! ### The Dolry machine -/

/-- Thread states (R112). -/
inductive TState | empty | ready | waiting | stopped | isolated
  deriving DecidableEq, Repr

/-- The four waits (R143). -/
inductive WaitKind | waitk | waite | waitt | fpop
  deriving DecidableEq, Repr

/-- A wait in progress: kind, status register d, data register b, guard timer, the operand read at the start, and the
order in which waits began (R143–R145). -/
structure Wait where
  kind : WaitKind
  d : Nat
  b : Nat
  guard : Option Nat
  operand : Word
  order : Nat
  deriving DecidableEq, Repr

/-- The long instructions (R149). -/
inductive LongKind | moveDD | moveDV | moveVD | moveVV | fillD | fillV | sumD | sumV | compose | draink | drainc
  deriving DecidableEq, Repr

/-- A long instruction in progress or interrupted: its operands, read once at the start (R150), what is done, and what
it holds (R152). -/
structure LongOp where
  kind : LongKind
  d : Nat
  dst : Nat
  src : Nat
  count : Nat
  pattern : Word
  done : Nat
  sum : Word
  banks : List Nat
  holds : List Nat
  todo : List Nat
  layer : Nat
  stage : List Word
  base : Nat
  deriving DecidableEq, Repr

/-- A ticket a thread holds (R139–R142): its word, and its completion once the work has completed. -/
structure Ticket where
  word : Word
  done : Option Word
  deriving DecidableEq, Repr

/-- A thread: a slot's program thread or a service context (R79). -/
structure Thread where
  st : TState := .empty
  w : List (Nat × Word) := []
  tsw : Word := 0
  pc : Nat := 0
  u : List (Nat × Word) := []
  k : List (Nat × Word) := []
  glink : Word := 0
  xlink : Word := 0
  wait : Option Wait := none
  serial : Nat := 1
  tickets : List Ticket := []
  stopReq : Bool := false
  long : Option LongOp := none
  saved : Option LongOp := none
  latch : Nat := 0
  deriving DecidableEq, Repr

/-! ### Mailboxes and interrupts (19) -/

/-- One side of a mailbox: its outbound slot and its acknowledgement record (R526, R531, R535). -/
structure MbxSide where
  slot : Nat := 0
  msg : Word := 0
  stale : Bool := false
  postEpoch : Nat := 0
  deadline : Nat := 0
  ackValid : Bool := false
  timeout : Bool := false
  ackTaken : Bool := false
  ackCode : Nat := 0
  epoch : Nat := 0
  deriving DecidableEq, Repr

/-! ### Faults (22) -/

/-- An open escalation (R610): the report, the last rung taken and the deadline in device time. -/
structure Esc where
  seq : Nat
  code : Nat
  cls : Nat
  kind : Nat
  subj : Nat
  rung : Nat
  repeats : Nat
  deadline : Nat
  deriving DecidableEq, Repr

/-- A report that waits for a free escalation entry (R611). -/
structure EscWait where
  seq : Nat
  code : Nat
  cls : Nat
  kind : Nat
  subj : Nat
  rung : Nat
  deriving DecidableEq, Repr

/-! ### Engine queues (04) -/

/-- A command in an engine queue or running (R137–R140): its ticket, its thread, its class, its flags, the copy of its
block with the address it came from, its place in the order of acceptance, and the thread's previous ticket on the queue. -/
structure QEntry where
  ticket : Word
  t : Nat
  cls : Nat
  flags : Nat
  block : List Word
  addr : Nat
  order : Nat
  prev : Word := 0
  deriving DecidableEq, Repr

/-- The work an engine instance runs: the command, the rows, bands or blocks done, further counts of its kind, the instance that
last worked on it, whether it read a poisoned word, and whether it is to be abandoned at its next row boundary (R156). -/
structure Run where
  e : QEntry
  queue : Nat
  rows : Nat := 0
  n1 : Nat := 0
  n2 : Nat := 0
  n3 : Nat := 0
  inst : Nat := 0
  bad : Bool := false
  abandon : Bool := false
  deriving DecidableEq, Repr

/-! ### Rings (18) -/

/-- A submission entry between its fetch and its retirement into the inbox (R505): index, words 0–6, the status of its
request (R507), the handle used and the words moved. -/
structure RingEntry where
  idx : Nat
  ws : List Word
  status : Nat := 0
  handle : Word := 0
  moved : Nat := 0
  checked : Bool := false
  phase : Nat := 0
  deriving DecidableEq, Repr

/-! ### FIFOs (17) -/

/-- An open packet of a FIFO (R490, R491): its body words, whether it is broken, and whether a channel pushed the first
word. -/
structure OpenPkt where
  body : List Word
  broken : Bool := false
  fromChan : Bool := false
  deriving DecidableEq, Repr

/-- What a priority FIFO holds (R487–R491): the words left of the packet being read, the readable items in the order they
became readable (a single word, or a packet with its head), each with its priority, and the open packets by priority. -/
structure Fifo where
  cur : List Word := []
  items : List (Nat × List Word) := []
  opened : List (Nat × Option OpenPkt) := []
  deriving DecidableEq, Repr

/-! ### Assay (16) -/

/-- An assay run (R460): mode, banks, the bank that saves. -/
structure AssayRun where
  preserving : Bool
  both : Bool
  first : Nat
  last : Nat
  save : Nat
  deriving DecidableEq, Repr

/-! ### Program exchange (05) -/

/-- A pending exchange (R175, R177): the record's words, MODE, the moment of EFFECT_TIME or of SWAP_LIMIT, whether it came
by the SWAP command, whether SWAP_LIMIT has passed, and whether it holds a new demand. -/
structure Swap where
  ws : List Word
  mode : Nat
  at_ns : Nat
  byCmd : Bool
  forced : Bool := false
  newDemand : Bool := false
  deriving DecidableEq, Repr

/-! ### Composition (13) -/

/-- What COMPOSE copies from a picture descriptor (R393): the format, the planes and pitches, the luma and chroma rows that a
slot's planes are laid out for (R223), the shown rectangle, the colour fields, and of a regional picture its group, PIC_KEY,
ORDER_HINT and exactness (R379, R380). -/
structure Pic where
  chroma : Nat
  depth : Nat
  packing : Nat
  luma : Nat
  pitchY : Nat
  pitchC : Nat
  slotRows : Nat
  slotRowsC : Nat
  x0 : Nat
  y0 : Nat
  w : Nat
  h : Nat
  transfer : Nat
  primaries : Nat
  matrix : Nat
  full : Bool
  ident : Option (Nat × Nat × Nat × Bool)
  deriving DecidableEq, Repr

/-- A layer record (R390, R391): op 0 PLACE, 1 SOURCE, 2 HIDE; its words, a SOURCE record with the placement it kept;
word 0 of that placement; the picture; its epoch tag (R400); the status its ticket completed with; the luma rows complete
(R402); and the buffers it holds (R393). -/
structure LayerRec where
  op : Nat
  ws : List Word
  place0 : Word
  pic : Option Pic
  tag : Nat
  done : Option Nat
  rows : Nat
  holds : List Nat
  deriving DecidableEq, Repr

/-- A layer (R397): its shown record, the record whose source stands in while the shown one's ticket has not completed
(R399), up to 3 pending records, oldest first, and the thread whose COMPOSE holds the staging area. -/
structure Layer where
  shown : Option LayerRec := none
  src : Option LayerRec := none
  pending : List LayerRec := []
  staging : Option Nat := none
  deriving DecidableEq, Repr

/-! ### Lamp ports (14) -/

/-- A lamp protocol frame from the device (R419, R420). -/
structure LFrame where
  kind : Nat
  version : Nat
  all : Bool
  card : Nat
  seq : Nat
  first : Nat
  count : Nat
  aux : Nat
  body : List Nat
  deriving DecidableEq, Repr

/-- A DATA or LIVE frame that waits: its card, the lamp index of its first lamp, that lamp's index in the panel, and its
count. Its values are taken when it leaves (R428). -/
structure LRef where
  card : Nat
  lamp : Nat
  first : Nat
  count : Nat
  seq : Nat
  deriving DecidableEq, Repr

/-- What a lamp port has to send, by the priorities of R428, the last moment a frame left, and the rate AUTO tries. -/
structure LPort where
  urgent : List LFrame := []
  live : List LRef := []
  data : List LRef := []
  low : List LFrame := []
  lastTx : Nat := 0
  tryRate : Nat := 0
  tryCount : Nat := 0
  deriving DecidableEq, Repr

/-- A receiver card as its HELLO and STATUS frames tell it (R421–R424). -/
structure Card where
  st : Nat := 0
  ver : Nat := 0
  w : Nat := 0
  h : Nat := 0
  fwd : Nat := 0
  crc : Nat := 0
  factory : Bool := false
  serial : Nat := 0
  temp : Nat := 0
  openLamps : Nat := 0
  missed : Nat := 0
  seen : Bool := false
  deriving DecidableEq, Repr

/-- An upload in progress (R430): port and card, the next word, and how often its range has been asked. -/
structure Upload where
  port : Nat
  card : Nat
  next : Nat
  tries : Nat
  crc : Nat
  serial : Nat
  deriving DecidableEq, Repr

/-! ### The ledger (15) -/

/-- A committed record of the journal (R441): an image, or a tail with no lamp words. -/
structure JImage where
  seq : Nat
  start : Word
  lamps : Nat
  uid : Nat
  dev : List Word
  words : List Word
  deriving DecidableEq, Repr

/-- A journal pass in progress (R442): its slot, SEQ and START_TIME. -/
structure JPass where
  slot : Nat
  seq : Nat
  start : Nat
  deriving DecidableEq, Repr

/-! ### Capture (11) and ingest (21) -/

/-- A frame that a capture source is taking (R326, R333, R336): its slot, SERIAL, CAPTURE_TIME, the moment it began, whether
time was in holdover; the next row position of a port; the number of the last row with a sample plus 1; the rows lost; the
rows completed by repetition or fill; the chroma rows written; of a flow, the RTP timestamp, the rows all resolved from the
top, the highest row seen plus 1, and the samples that came of the rows still open. -/
structure CapFrame where
  slot : Nat
  serial : Nat
  capture : Nat
  began : Nat
  unlocked : Bool
  next : Nat := 0
  last : Nat := 0
  lost : Nat := 0
  filled : Nat := 0
  chromaRows : List Nat := []
  isLong : Bool := false
  badWidth : Bool := false
  rts : Nat := 0
  solid : Nat := 0
  top : Nat := 0
  got : List (Nat × List (Nat × Nat)) := []
  deriving DecidableEq, Repr

/-- A capture source (R326, R335): the states of its slots (1 FILLING, 2 HELD, 3 HELD and marked released; 0 FREE), the
newest kept one, the next SERIAL, the frame under way, the CAPTURE_TIMEs of its last 17 frames, newest first, and the frame whose packets
are passed over: of a port one that was discarded at its start, of a flow the RTP timestamp of the last that ended. -/
structure Source where
  slots : List (Nat × Nat) := []
  newest : Option Nat := none
  serial : Nat := 0
  frame : Option CapFrame := none
  caps : List Nat := []
  skip : Option Nat := none
  deriving DecidableEq, Repr

/-- An entry of the progress table (R338): its writer (a source, or 64 + the place in the order of acceptance of a scaler
command), LUMA_ADDR and LINES_DONE. -/
structure Progress where
  writer : Nat
  luma : Nat
  lines : Nat
  deriving DecidableEq, Repr

/-- A compressed-ingest receiver (R597–R599): the open buffer's handle, its payload bytes, the moment of its first, its
PTS and flags; whether the next buffer carries DISCONT; and the payload bytes written, modulo 1,024. -/
structure Ingest where
  buf : Option Word := none
  bytes : Nat := 0
  began : Nat := 0
  pts : Option Nat := none
  auStart : Bool := false
  disc : Bool := false
  nextDisc : Bool := false
  spare : Nat := 0
  deriving DecidableEq, Repr

/-! ### The fabric (20) and the egress queues (21) -/

/-- A frame that waits in a class queue (R582): a chain frame without its trailer, or an uplink datagram; where it came from
(0 this device, 1 + k chain link k, 9 + q uplink port q); when it came; the residence it brought (R553); and whether
window-fit holding has held it (R584). -/
structure EFrame where
  words : List Word := []
  gram : Option Datagram := none
  src : Nat := 0
  since : Nat := 0
  lat : Nat := 0
  held : Bool := false
  deriving DecidableEq, Repr

/-- A gate list swap that is pending (R585): the list, its length and cycle, its base time and the moment it takes effect. -/
structure GateSwap where
  list : Nat
  len : Nat
  cycle : Nat
  base : Nat
  at_ns : Nat
  deriving DecidableEq, Repr

/-- The two buckets of a meter (R592), in 1/125,000 byte, and the moment of the packet before. -/
structure MeterBuckets where
  tc : Nat
  tp : Nat
  last : Nat
  deriving DecidableEq, Repr

/-- The egress ports and meters beyond their registers and queues (R580–R593): by port the moment its transmitter is idle,
ACTIVE_BASE and the pending swap; by port × 8 + class the end of a PFC pause and the credit of a shaper, in 10⁻⁶ bit, with the
moment it is of; by source of a class buffer (1 + k chain link k, 9 + q uplink port q) the classes stopped at the sender; by
meter its buckets. -/
structure Traffic where
  txEnd : List (Nat × Nat) := []
  pfcUntil : List (Nat × Nat) := []
  stopSent : List (Nat × Nat) := []
  gateBase : List (Nat × Nat) := []
  gateNext : List (Nat × Option GateSwap) := []
  credit : List (Nat × Option (Int × Nat)) := []
  meters : List (Nat × Option MeterBuckets) := []
  deriving DecidableEq, Repr

/-- What LINK_STATE has told of a device of the pane (R557, R559): its UP links, its change serial, and when it was last
heard. -/
structure MapEntry where
  dev : Nat
  mask : Nat
  serial : Nat
  seen : Nat
  deriving DecidableEq, Repr

/-- The reports of an epoch gathered so far (R569, R570): the epoch, its CLOSE_TIME, members reported and held, the group
words, the devices that have reported, those named missed, whether this device has reported itself, whether its
aggregate has left, and the READY frames already seen. -/
structure Tally where
  epoch : Nat
  close : Nat
  members : Nat := 0
  heldN : Nat := 0
  groups : List Word := []
  got : List Nat := []
  named : List Nat := []
  own : Bool := false
  sent : Bool := false
  frames : List (Nat × List Word) := []
  deriving DecidableEq, Repr

/-- What a takeover candidate has gathered (R569, R574): the members covered, those that answered, the highest
LAST_COMMITTED with its T, and the highest OPEN. -/
structure Gather where
  members : Nat := 0
  got : List Nat := []
  last : Nat := 0
  lastT : Word := 0
  opened : Nat := 0
  deriving DecidableEq, Repr

/-- A commit received and not yet latched (R571, R572): its epoch, its T, whether it came after T, and its group words. -/
structure CommitRec where
  epoch : Nat
  at_ns : Nat
  late : Bool
  groups : List Word
  deriving DecidableEq, Repr

/-- The fabric and the epoch protocol beyond their registers (R559, R568–R577). -/
structure Fab where
  map : List MapEntry := []
  serial : Nat := 0
  seen : List (Nat × Nat × Nat × Nat) := []
  peerDomain : List (Nat × Nat) := []
  present : List Nat := []
  misses : List (Nat × Nat) := []
  joins : List Nat := []
  departed : List Nat := []
  admitted : Bool := false
  nextClose : Nat := 0
  tally : Option Tally := none
  logged : Option (List Word) := none
  awaitAck : Option (List Word) := none
  recent : List (List Word) := []
  gather : Option Gather := none
  groups : List (Nat × Word) := []
  cutAt : Nat := 0
  times : List (Nat × TimeMsg) := []
  ptpLocked : Bool := false
  root : Option Nat := none
  commits : List CommitRec := []
  last : List Nat := []
  lastHouse : Nat := 0
  hbSent : Option Nat := none
  tookAt : Nat := 0
  deriving DecidableEq, Repr

/-! ### Decoding (07, 08, 12) -/

/-- A fetch under way (R369): its REQ_ID, the owner, the plane, the rectangle, the decoding number of the picture
that reads, when it left, and the words that have come. -/
structure Fetch where
  id : Nat
  owner : Nat
  plane : Nat
  rect : Nat × Nat × Nat × Nat
  seq : Nat
  at_ns : Nat
  part : Nat := 0
  have_ : Nat := 0
  deriving DecidableEq, Repr

/-- A regional context (R359, R361): the record's fields, the tables, the members held as away, the seam inbox, the
fetches, and whether an exactness event arose since the sweep's first picture (R378). -/
structure Region where
  group : Nat
  colB : List Nat
  rowB : List Nat
  members : List Nat
  myCol : Nat
  myRow : Nat
  marginH : Nat
  marginV : Nat
  fetchOn : Bool
  inboxA : Nat
  inboxN : Nat
  fetchA : Nat
  fetchN : Nat
  away : List Nat := []
  inbox : List (List Word) := []
  fetches : List Fetch := []
  nextReq : Nat := 0
  sweepBad : Bool := false
  deriving DecidableEq, Repr

/-- A picture of a decoder context (R226, R230): its tag, its place in decoding order, its slot and grain slot; marked for
reference, awaiting output, returned for output, dropped; units built and completed, the last one built, started, closed, and
reported by DEC_PIC_DONE; CTBs concealed, exactness (R378), a binding payload that makes it exact-local (R357), since when it waits for its units and how long it
may (R252), or when it closed; whether an exactness event arose; the seams settled, each by member, plane + 4 for PRE, and the rectangle's
edges in the plane (R367); what DEC_NEXT parsed of it. -/
structure DecPic where
  tag : Nat
  seq : Nat
  slot : Nat
  grain : Option Nat
  ref : Bool
  wait : Bool
  out : Bool := false
  bad : Bool := false
  built : Nat := 0
  ended : Nat := 0
  lastUnit : Bool := false
  started : Bool := false
  closed : Bool := false
  reported : Bool := false
  concealed : Nat := 0
  exact : Bool := true
  exactLocal : Bool := false
  since : Nat := 0
  limit : Nat := 0
  event : Bool := false
  settled : List (Nat × Nat × Nat × Nat × Nat × Nat) := []
  info : PicInfo
  deriving DecidableEq, Repr

/-- A decoder context (R229, R231): the config record's fields; the pictures in decoding order; the tag of the picture that
DEC_NEXT is in; the next tag, decoding number and output count; the tags due for output; the sequence in force and whether it
is unsupported, by its item; whether a UNIT has been returned; whether the channel discards (R247), has lost a Live unit (R250), and the
tags of the pictures the engines have found damaged (R245); a reported loss not yet reached (R254); and the regional part. -/
structure DecCtx where
  std : Nat
  packing : Nat
  chroma : Nat
  depth : Nat
  maxW : Nat
  maxH : Nat
  dpb : Nat
  framing : Nat
  opPoint : Nat
  stateA : Nat
  workA : Nat
  spillA : Nat
  spillN : Nat
  tableA : Nat
  slots : Nat
  pics : List DecPic := []
  cur : Option Nat := none
  nextTag : Nat := 1
  nextSeq : Nat := 0
  order : Nat := 0
  due : List Nat := []
  seq : Option SeqInfo := none
  unsupported : Nat := 0
  begun : Bool := false
  discard : Bool := false
  lost : Bool := false
  hurt : List Nat := []
  gap : Option Nat := none
  region : Option Region := none
  deriving DecidableEq, Repr

/-! ### Encoding (09, 10) -/

/-- An entropy unit of a picture being encoded (R272, R286): kind, rows, CTBs and tile group, its region of the output buffer by
first byte and length, and, once it has completed, its bytes and ERR_KIND; the fragments that ENC_UNIT_DONE gave. -/
structure EncUnit where
  kind : Nat
  firstRow : Nat
  rows : Nat
  ctbs : Nat
  lastOfGroup : Bool
  start : Nat
  len : Nat
  done : Option (Nat × Nat) := none
  frags : Option (List Word) := none
  deriving DecidableEq, Repr

/-- A source that ENC_PICTURE holds (R286): its place in the order offered, its descriptor's address and presentation time. -/
structure EncSource where
  idx : Nat
  desc : Nat
  pts : Word
  deriving DecidableEq, Repr

/-- A picture being encoded or kept as a reference (R286–R290): tag, coding order, slot, TYPE, source and presentation time, the
sweep position, what the picture carries, the output buffer and units, the blocks given, what has completed, the rate decisions, the source's
depth, the complexity of each row, when the first row began and the send queue (R315). -/
structure EncPic where
  tag : Nat
  ord : Nat
  slot : Nat
  ptype : Nat
  pts : Word
  refs : List Nat
  unref : List Nat
  isRef : Bool
  sweep : Option Nat
  sweepStart : Bool
  forced : Bool
  payload : Bool
  outA : Nat
  outN : Nat
  units : List EncUnit
  given : Nat := 0
  needSearch : Bool
  needRate : Bool
  searchDone : Bool := false
  rateDone : Bool := false
  reconDone : Bool := false
  failed : Bool := false
  live : Bool := true
  qp : Nat := 0
  qpMin : Nat := 0
  qpMax : Nat := 0
  scene : Bool := false
  toIdr : Bool := false
  overshoot : Bool := false
  intra : Nat := 0
  inter : Nat := 0
  col : Nat := 0
  target : Rat := 0
  srcDepth : Nat := 8
  header : Nat := 0
  plan : List Nat := []
  began : Option Nat := none
  q : Rat := 0
  deriving DecidableEq, Repr

/-- The rate state of a context (R308, R311, R315, R319), in bits held exactly: E, D, the model factors and last QPs by type,
the previous picture's INTER_CPLX, the pictures dropped since the last coded one, and the types exempt from MAX_STEP. -/
structure RateModel where
  e : Rat := 0
  d : Rat := 0
  q : Rat := 0
  alpha : List (Nat × Rat) := []
  lastQp : List (Nat × Nat) := []
  exempt : List Nat := []
  prevInter : Nat := 0
  dropped : Nat := 0
  started : Bool := false
  deriving DecidableEq, Repr

/-- An encoder context (R283, R284): words 0–7 of its config record and 0–5 of its rate record; a rate record that waits and
whether it waits for an IDR picture (R320); the pictures, the sources held; counters of sources, tags and coding order;
pictures coded since the last IDR picture and the next sweep position; a refresh asked for (R291: 1 an IDR picture, 2 a sweep);
whether the input has ended; and the rate state. -/
structure EncCtx where
  ws : List Word
  rate : List Word
  nextRate : Option (List Word) := none
  rateAtIdr : Bool := false
  pics : List EncPic := []
  held : List EncSource := []
  nextSrc : Nat := 0
  nextTag : Nat := 1
  order : Nat := 0
  sinceIdr : Nat := 0
  first : Bool := true
  sweepPos : Nat := 0
  ask : Nat := 0
  forceIdr : Bool := false
  flushed : Bool := false
  model : RateModel := {}
  deriving DecidableEq, Repr



/-! ### Pins and test access (23, 24) -/

/-- The levels of the control pins and rails (R617, R618, R637, R640, R642), the TAP (R646), and the size in bytes of the SPI NOR
fitted, as its SFDP table reports it (R440); no command changes it (log entry 6). -/
structure Pins where
  pwrOk : Bool := false
  sysRstN : Bool := true
  perstN : Bool := true
  pwrdnN : Bool := true
  pwrfailN : Bool := true
  testEn : Bool := false
  trstN : Bool := false
  mgmtMode : Bool := false
  rails : Nat := 63
  mgmtAddr : Nat := 0
  tapReset : Bool := true
  tapHold : Bool := false
  tapInstr : Nat := 0
  flashSize : Nat := Config.flashSize
  deriving DecidableEq, Repr

/-- Everything in the device but its two word memories. -/
structure Dev where
  regs : List (Nat × Word) := []
  now : Nat := 0
  freeCtr : Nat := 0
  out : List Out := []
  pins : Pins := {}
  threads : List (Nat × Thread) := []
  timers : List (Nat × Word) := []
  waitCtr : Nat := 0
  mbx : List (Nat × MbxSide) := []
  grpRec : List (Nat × List Nat) := []
  msixOn : Bool := false
  msixMaskAll : Bool := false
  msixTbl : List (Nat × Nat) := []
  pba : List Nat := []
  esc : List (Nat × Option Esc) := []
  escWait : List EscWait := []
  fnPulse : Bool := false
  faultSeq : Nat := 0
  queues : List (Nat × List QEntry) := []
  running : List (Nat × Option Run) := []
  qOrder : Nat := 0
  lastTick : List (Nat × Word) := []
  segs : List (Nat × Nat) := []
  lastSeg : List (Nat × Nat) := []
  stage : List (Nat × Nat) := []
  meter : List (Nat × Nat) := []
  meterOver : List (Nat × Nat) := []
  ringStop : Bool := false
  ringOff : List Nat := []
  entries : List (Nat × List RingEntry) := []
  d3hot : Bool := false
  linkSeq : List (Nat × Nat) := []
  egress : List (Nat × List EFrame) := []
  tr : Traffic := {}
  poolRing : List (Nat × List (Nat × Nat)) := []
  poolPlaced : List (Nat × Nat) := []
  poolUndef : List Nat := []
  reclaim : Option Nat := none
  fifos : List (Nat × Fifo) := []
  assay : Option AssayRun := none
  refOwed : List (Nat × Nat) := []
  mr4 : List (Nat × Nat) := []
  ceCount : List (Nat × Nat) := []
  ceSec : Nat := 0
  scrubPos : Nat := 0
  swaps : List (Nat × Option Swap) := []
  stopAt : List (Nat × Nat) := []
  liveBad : List (Nat × Nat) := []
  liveFalse : List Nat := []
  liveOver : List (Nat × Nat) := []
  paceBad : Nat := 0
  reroute : List Nat := []
  shedStack : List Nat := []
  loadHi : List (Nat × Nat) := []
  loadLo : List (Nat × Nat) := []
  resync : List Nat := []
  applied : List (Nat × Word) := []
  cfgRec : List (Nat × Word) := []
  cfgSet : List (Nat × Word) := []
  colourDue : Option (Nat × Word) := none
  mapCheck : Option Nat := none
  mapReady : Option Nat := none
  layers : List (Nat × Layer) := []
  lampVal : List (Nat × Nat) := []
  sentVals : List (Nat × Nat) := []
  inRefresh : Bool := false
  refPeriod : Nat := 0
  refreshCtl : Option Word := none
  trackP : Nat := 0
  lastCap : List (Nat × Nat) := []
  lports : List (Nat × LPort) := []
  cards : List (Nat × Card) := []
  upQ : List (Nat × Nat) := []
  upload : Option Upload := none
  calRun : Option (Nat × Nat) := none
  journal : List (Nat × Option JImage) := []
  haltAdded : Nat := 0
  acctStop : Bool := false
  pass : Option JPass := none
  passLate : Bool := false
  nextPass : Nat := 0
  ledgerCmd : Option (Nat × Nat × Nat) := none
  calTicks : Nat := 0
  calAt : Nat := 0
  calDiffs : List Int := []
  ageSum : Nat := 0
  ageCount : Nat := 0
  ucode : List (Nat × Nat) := []
  bursts : List (Nat × Nat) := []
  ucStage : Word := 0
  cancelCount : List (Nat × Nat) := []
  monBad : List (Nat × Nat) := []
  nomFrac : Nat := 0
  missWins : Nat := 0
  coreTemps : List (Nat × Int) := []
  otherPower : Nat := 0
  govHold : Nat := 0
  govAuto : Nat := 0
  avsTries : Nat := 0
  bar0Stage : Option (Nat × Nat) := none
  bar0Latch : Option (Nat × Nat) := none
  bar4Stage : Option (Nat × Nat) := none
  bar4Latch : Option (Nat × Nat) := none
  sqLead : List (Nat × Int) := []
  sqIdle : List Nat := []
  sqTries : List (Nat × Nat) := []
  sqUnretired : List (Nat × Nat) := []
  cqHeld : List Out := []
  driveResets : List (Nat × List Nat) := []
  driveMdts : List (Nat × Nat) := []
  csBytes : List (Nat × Nat) := []
  bootLast : Option BootInfo := none
  lastReset : Nat := 0
  subsys : Nat := 0
  sources : List (Nat × Source) := []
  progress : List Progress := []
  ingests : List (Nat × Ingest) := []
  fab : Fab := {}
  decs : List (Nat × Option DecCtx) := []
  decLogSeq : List (Nat × Nat) := []
  kRem : List (Nat × Nat) := []
  encs : List (Nat × Option EncCtx) := []

  deriving DecidableEq, Repr

/-- The two word memories, each with the words that are marked poisoned (R457, R475), and the vault words that hold an error:
1 a single-bit error, 2 one that the code cannot correct (R457). A DRAM word has its 36-bit word
address, a vault word bank × 32,768 + offset (R93). -/
structure Mem where
  dram : List (Nat × Word) := []
  vault : List (Nat × Word) := []
  dramBad : List (Nat × Bool) := []
  vaultBad : List (Nat × Bool) := []
  vaultErr : List (Nat × Nat) := []
  deriving DecidableEq, Repr

/-- What a DRAM word that nothing has written reads as: zero. DESIGN CHOICE (log entry 5): R476 leaves the contents
undefined after a cold reset. -/
def dramDefault (_ : Nat) : Word := 0

/-- What a vault word that nothing has written reads as: zero, the value a clear leaves (R458). -/
def vaultDefault (_ : Nat) : Word := 0

/-- The canonical form of the two memories. -/
def Mem.wf (m : Mem) : Bool :=
  twf dramDefault m.dram && twf vaultDefault m.vault && twf (fun _ => false) m.dramBad
    && twf (fun _ => false) m.vaultBad && twf (fun _ => 0) m.vaultErr

/-- The state of the block: its memories, the rest of the device, and the commands that are waiting, first in first
out. -/
structure State where
  mem : Mem := {}
  m : Dev := {}
  pending : List Instr := []
  deriving DecidableEq, Repr

/-- Why a command would stop the model with a fault. No meaning raises one: an event whose condition does not hold
leaves the state unchanged (log entry 8), and everything the spec names as an error has its effect. -/
inductive Fault where
  /-- Raised by no meaning; it stands for a behaviour outside the model. Safe. -/
  | outside
  deriving DecidableEq, Repr

/-- Why a command would be refused. -/
inductive Refusal where
  /-- The command has no meaning in this model; raised only by the dispatch table. Safe. -/
  | notModelled (mnemonic : String)
  deriving DecidableEq, Repr

/-- The block right after a cold reset: every register at its reset value, nothing open, nothing queued. -/
def State.reset : State := {}

end Sys2Proof.Machine
end

