-- ==== Sys2Proof/Machine/Ops.lean ====
section
/-!
DEFINITION. Machine/Ops.lean: the named operations every meaning is built from: reading and writing a register and one
field of it, counters, what is sent out, device time, free values, the words of memory, and the parts of a device-time
word.
-/

namespace Sys2Proof.Machine

/-! ### Registers -/

/-- The stored word of a register. -/
def Dev.rd (m : Dev) (a : Nat) : Word := tget regReset m.regs a

/-- Store a whole register word. -/
def Dev.wr (m : Dev) (a : Nat) (v : Word) : Dev := { m with regs := tput regReset m.regs a v }

/-- A field of a register. -/
def Dev.g (m : Dev) (f : RF) : Nat := bits (m.rd f.a) f.hi f.lo

/-- Is a one-bit field set? -/
def Dev.on (m : Dev) (f : RF) : Bool := m.g f == 1

/-- Set a field of a register, leaving the rest of the word. -/
def Dev.p (m : Dev) (f : RF) (v : Nat) : Dev := m.wr f.a (putBits (m.rd f.a) f.hi f.lo v)

/-- Set a field from a Boolean. -/
def Dev.pb (m : Dev) (f : RF) (b : Bool) : Dev := m.p f (if b then 1 else 0)

/-- The largest value of a field. -/
def RF.max (f : RF) : Nat := 2 ^ (f.hi + 1 - f.lo) - 1

/-- Count up by n, saturating at all ones (R19). -/
def Dev.addSat (m : Dev) (f : RF) (n : Nat) : Dev := m.p f (min (m.g f + n) f.max)

/-- Count up by n, wrapping, for a counter whose register says that it wraps (R19). -/
def Dev.addWrap (m : Dev) (f : RF) (n : Nat) : Dev := m.p f (m.g f + n)

/-- Count one, saturating (R19). -/
def Dev.incS (m : Dev) (f : RF) : Dev := m.addSat f 1

/-- Count one, wrapping (R19). -/
def Dev.incW (m : Dev) (f : RF) : Dev := m.addWrap f 1

/-- Apply a change only under a condition. -/
def Dev.onlyIf (m : Dev) (b : Bool) (f : Dev → Dev) : Dev := if b then f m else m

/-! ### Outputs, time, free values -/

/-- Send something out. -/
def Dev.send (m : Dev) (o : Out) : Dev := { m with out := o :: m.out }

/-- Device time has reached at least a moment: the event that needs it has come (log entry 4). -/
def Dev.reach (m : Dev) (t : Nat) : Dev := { m with now := max m.now t }

/-- The next free value (log entry 2). -/
def Dev.free (m : Dev) : Word := Config.freeValue m.freeCtr

/-- Mark the free value as used. -/
def Dev.freeNext (m : Dev) : Dev := { m with freeCtr := m.freeCtr + 1 }

/-- A device-time word from nanoseconds since the epoch: seconds in [71:30], nanoseconds in [29:0] (R12). -/
def timeWord (ns : Nat) : Word := Word.of ((ns / 1000000000) * 2 ^ 30 + ns % 1000000000)

/-- Is a device-time word valid (R12)? -/
def timeOk (w : Word) : Bool := decide (bits w 29 0 < 1000000000)

/-- The nanoseconds since the epoch that a device-time word names (R12). -/
def timeNs (w : Word) : Nat := bits w 71 30 * 1000000000 + bits w 29 0

/-- A signed field as a two's-complement number of a width, from its unsigned reading. -/
def signedOf (w v : Nat) : Int := if v < 2 ^ (w - 1) then (v : Int) else (v : Int) - (2 ^ w : Nat)

/-- The unsigned reading of a signed number in a width, saturated to its range. -/
def satSigned (w : Nat) (x : Int) : Nat :=
  let lo : Int := -((2 ^ (w - 1) : Nat) : Int)
  let hi : Int := ((2 ^ (w - 1) : Nat) : Int) - 1
  let y := if x < lo then lo else if hi < x then hi else x
  (y % ((2 ^ w : Nat) : Int)).toNat

/-- A number put in bits [hi:lo] of an otherwise zero word, as a number. -/
def at_ (hi lo v : Nat) : Nat := (v % 2 ^ (hi + 1 - lo)) * 2 ^ lo

/-! ### Threads -/

/-- The thread of an index; one past the last is EMPTY for good. -/
def Dev.th (m : Dev) (t : Nat) : Thread := tget (fun _ => ({} : Thread)) m.threads t

/-- Store a thread. -/
def Dev.setTh (m : Dev) (t : Nat) (x : Thread) : Dev :=
  { m with threads := tput (fun _ => ({} : Thread)) m.threads t x }

/-- Change a thread. -/
def Dev.modTh (m : Dev) (t : Nat) (f : Thread → Thread) : Dev := m.setTh t (f (m.th t))

/-- The deadline word of a channel timer Tk of a thread index (R79, R129). -/
def Dev.timer (m : Dev) (t k : Nat) : Word := tget (fun _ => 0) m.timers (t * 4 + k)

/-- Set a channel timer's deadline word. -/
def Dev.setTimer (m : Dev) (t k : Nat) (w : Word) : Dev :=
  { m with timers := tput (fun _ => 0) m.timers (t * 4 + k) w }

/-- The clerk a thread index runs on: a channel's home (R157), or the clerk of a service context. -/
def Dev.clerkOf (m : Dev) (t : Nat) : Nat := if t < 512 then m.g (CHAN_CTRL_HOME_CLERK t) else (t - 512) % 32

/-- The cluster of a thread index (R25). -/
def Dev.clusterOf (m : Dev) (t : Nat) : Nat := m.clerkOf t / 4

/-! ### The whole state -/

/-- Change the device part of a state. -/
def State.onM (s : State) (f : Dev → Dev) : State := { s with m := f s.m }

/-- The DRAM word at a word address. -/
def State.dram (s : State) (a : Nat) : Word := tget dramDefault s.mem.dram a

/-- Is the DRAM word marked poisoned (R475)? -/
def State.dramPoison (s : State) (a : Nat) : Bool := tget (fun _ => false) s.mem.dramBad a

/-- The vault word at bank × 32,768 + offset. -/
def State.vault (s : State) (a : Nat) : Word := tget vaultDefault s.mem.vault a

/-- Is the vault word marked poisoned (R457)? -/
def State.vaultPoison (s : State) (a : Nat) : Bool := tget (fun _ => false) s.mem.vaultBad a

/-- The error a vault word holds (R457): 0 none, 1 a single-bit error, 2 one that the code cannot correct. -/
def State.vaultErr (s : State) (a : Nat) : Nat := tget (fun _ => 0) s.mem.vaultErr a

/-- Write a DRAM word and its poison mark. -/
def Mem.putDram (m : Mem) (a : Nat) (v : Word) (bad : Bool) : Mem :=
  { m with dram := tput dramDefault m.dram a v, dramBad := tput (fun _ => false) m.dramBad a bad }

/-- Write a vault word and its poison mark; an error that the word held ends (R457). -/
def Mem.putVault (m : Mem) (a : Nat) (v : Word) (bad : Bool) : Mem :=
  { m with vault := tput vaultDefault m.vault a v, vaultBad := tput (fun _ => false) m.vaultBad a bad, vaultErr := tput (fun _ => 0) m.vaultErr a 0 }

/-- Put an error into a vault word, or take it out. -/
def Mem.putVaultErr (m : Mem) (a e : Nat) : Mem := { m with vaultErr := tput (fun _ => 0) m.vaultErr a e }

/-- Write words to DRAM at rising addresses. -/
def Mem.putDrams (m : Mem) (a : Nat) : List Word → Mem
  | [] => m
  | v :: r => (m.putDram a v false).putDrams (a + 1) r

/-- Write a list of (address, word) pairs to DRAM. -/
def Mem.putList (m : Mem) : List (Nat × Word) → Mem
  | [] => m
  | (a, v) :: r => (m.putDram a v false).putList r

/-- The n DRAM words from an address on. -/
def State.drams (s : State) (a n : Nat) : List Word := (List.range n).map (fun i => s.dram (a + i))

/-- Is any of the n DRAM words from an address on poisoned? -/
def State.anyPoison (s : State) (a n : Nat) : Bool := (List.range n).any (fun i => s.dramPoison (a + i))

/-- The bytes of a word, least significant first (R10). -/
def wordBytes (w : Word) : List (BitVec 8) := (List.range 9).map (fun i => BitVec.ofNat 8 (w.toNat / 2 ^ (8 * i)))

/-- A list of bytes packed into words by R10, the last word filled with zeros. -/
def packWords (fuel : Nat) (bs : List (BitVec 8)) : List Word :=
  match fuel with
  | 0 => []
  | n + 1 =>
    match bs with
    | [] => []
    | _ => Word.of ((bs.take 9).foldr (fun b acc => acc * 256 + b.toNat) 0) :: packWords n (bs.drop 9)

/-- The k-th word of a list, zero past its end. -/
def nthWord (l : List Word) (k : Nat) : Word := l.getD k 0

/-- Fold a device change over the naturals below n, in rising order. -/
def Dev.each (m : Dev) (n : Nat) (f : Nat → Dev → Dev) : Dev := (List.range n).foldl (fun m i => f i m) m

/-! ### Access codes -/

/-- What a write of v leaves in a field (R14), shifted to its place: RW takes the written bits, W1C clears where a 1 is
written, WO stores nothing, the others keep what they hold. The lock of an RWL field is checked by the writer (R15). -/
def commitField (old v : Word) (f : FieldDef) : Nat :=
  let o := bits old f.hi f.lo
  let n := bits v f.hi f.lo
  (match f.acc with
    | .rw | .rwl => n
    | .w1c => o - (o &&& n)
    | .ro | .rc => o
    | .wo => 0) * 2 ^ f.lo

/-- The word a register holds after a write, under the field access codes (R13, R14). -/
def commitWord (old v : Word) (r : RegDef) : Word := Word.of ((r.fields.map (commitField old v)).sum)

/-- A write of all 72 bits of a register (R13); an address that belongs to none ignores it (R21). -/
def Dev.commit (m : Dev) (a : Nat) (v : Word) : Dev :=
  match regAt a with
  | none => m
  | some r => m.wr a (commitWord (m.rd a) v r)

/-! ### Composition configuration in force (R388) -/

/-- The word of a configuration register that is in force since the last refresh start that applied one (R388). -/
def Dev.cfgWord (m : Dev) (a : Nat) : Word := tget regReset m.applied a

/-- A field of the configuration in force. -/
def Dev.cg (m : Dev) (f : RF) : Nat := bits (m.cfgWord f.a) f.hi f.lo

/-- Is a one-bit field of the configuration in force set? -/
def Dev.cOn (m : Dev) (f : RF) : Bool := m.cg f == 1

/-! ### Samples in words (R11, R222) -/

/-- Samples per word of a packing: six-pack or nine-pack (R222). -/
def lanesOf (packing : Nat) : Nat := if packing = 1 then 9 else 6

/-- Bits per lane of a packing (R11). -/
def laneBits (packing : Nat) : Nat := if packing = 1 then 8 else 12

/-- The word address, lane and width of a sample, for writing. -/
def putSample (w : Word) (packing lane v : Nat) : Word :=
  putBits w (laneBits packing * (lane + 1) - 1) (laneBits packing * lane) v

/-- Horizontal and vertical chroma subsampling of a CHROMA code: 1 4:2:0, 2 4:2:2, else none (R231). -/
def chromaSub (c : Nat) : Nat × Nat := if c = 1 then (2, 2) else if c = 2 then (2, 1) else (1, 1)

/-- n ÷ d rounded up. -/
def ceilDiv (n d : Nat) : Nat := (n + d - 1) / d

end Sys2Proof.Machine
end

