-- ==== Sys2Proof/Machine/Irq.lean ====
section
/-!
DEFINITION. Machine/Irq.lean: event latches, cluster wake, pending bits, source groups with their hold-off, and MSI-X
(R144, R539–R546, R632).
-/

namespace Sys2Proof.Machine

/-- Is the device halting or halted (R614)? -/
def Dev.halted (m : Dev) : Bool := m.g FAULT_STATUS_STATE != 0

/-- A cluster is awake after this: an event that concerns a sleeping cluster wakes it (R114, R541, R632). -/
def Dev.wake (m : Dev) (k : Nat) : Dev :=
  let v := m.g POWER_STATUS_CLUSTER_AWAKE
  if Nat.testBit v k then m else m.p POWER_STATUS_CLUSTER_AWAKE (v ||| 2 ^ k)

/-- Set a bit of the event latch of a channel or of a service context (R144). -/
def Dev.latch (m : Dev) (t bit : Nat) : Dev :=
  if t < 512 then m.p (CHAN_EVENT_LATCH t) (m.g (CHAN_EVENT_LATCH t) ||| 2 ^ bit)
  else m.modTh t (fun x => { x with latch := x.latch ||| 2 ^ bit })

/-- The latch as it stands. -/
def Dev.latchOf (m : Dev) (t : Nat) : Nat :=
  if t < 512 then m.g (CHAN_EVENT_LATCH t) else (m.th t).latch

/-- Take bits out of the latch (R144). -/
def Dev.latchTake (m : Dev) (t mask : Nat) : Dev :=
  if t < 512 then m.p (CHAN_EVENT_LATCH t) (m.g (CHAN_EVENT_LATCH t) &&& (255 - mask % 256))
  else m.modTh t (fun x => { x with latch := x.latch &&& (255 - mask % 256) })

/-- The four service contexts of a cluster. -/
def svcOf (k : Nat) : List Nat := (List.range 4).map (fun i => 512 + 4 * k + i)

/-- Every context of a cluster: the channels homed there and its service contexts (R144, R533). -/
def Dev.contextsOf (m : Dev) (k : Nat) : List Nat :=
  ((List.range 512).filter (fun n => m.clusterOf n == k)) ++ svcOf k

/-- Set a latch bit in each of some contexts. -/
def Dev.latchAll (m : Dev) (ts : List Nat) (bit : Nat) : Dev := ts.foldl (fun m t => m.latch t bit) m

/-! ### MSI-X -/

/-- The reset value of an MSI-X table entry: vector masked, as the PCIe base specification has it (R545). -/
def msixDefault (_ : Nat) : Nat := 2 ^ 96

/-- Is a vector masked, alone or with the function (R545)? -/
def Dev.vecMasked (m : Dev) (v : Nat) : Bool := m.msixMaskAll || Nat.testBit (tget msixDefault m.msixTbl v) 96

/-- Send an MSI-X message: none while MSI-X is off, a pending bit while the vector is masked (R545). -/
def Dev.msix (m : Dev) (v : Nat) : Dev :=
  if m.msixOn then
    if m.vecMasked v then { m with pba := sinsert m.pba v } else m.send (.msix v)
  else m

/-! ### Source groups -/

/-- The register that holds the pending bits of groups 32–43 (R542). -/
def groupReg : Nat → Nat
  | 32 => PACE_EVENTS_addr
  | 33 => LOAD_EVENTS_addr
  | 34 => VAULT_EVENTS_addr
  | 35 => DRAM_EVENTS_addr
  | 36 => POOL_EVENTS_addr
  | 37 => HOST_EVENTS_addr
  | 38 => LAMP_EVENTS_addr
  | 39 => LEDGER_EVENTS_addr
  | 40 => FAULT_PEND_addr
  | 41 => MBX_HOST_IN_addr
  | 42 => MBX_HOST_ACK_addr
  | _ => HOST_INT_PEND_addr

/-- A pending bit of a group as a field: of groups 0–31 the bit is channel × 8 + bit, of the others its number. -/
def groupBit (g id : Nat) : RF :=
  if g < 32 then ⟨CHAN_INT_PEND_addr (id / 8), id % 8, id % 8⟩ else ⟨groupReg g, id, id⟩

/-- Does a bit, when set, signal through its group (R540, R543)? A channel bit must be enabled and routed to the host. -/
def Dev.bitSignals (m : Dev) (g id : Nat) : Bool :=
  m.on (GROUP_CTRL_ENABLE g) &&
    (decide (32 ≤ g) || (Nat.testBit (m.g (CHAN_INT_CTRL_MASK (id / 8))) (id % 8) &&
      Nat.testBit (m.g (CHAN_INT_CTRL_ROUTE (id / 8))) (id % 8)))

/-- The vector of a bit (R542). -/
def Dev.bitVector (m : Dev) (g id : Nat) : Nat :=
  if g < 32 then m.g (CHAN_INT_CTRL_VECTOR (id / 8)) else m.g (GROUP_CTRL_VECTOR g)

/-- The cluster that a group signals, if its MASTER is one (R543). -/
def Dev.groupCluster (m : Dev) (g : Nat) : Option Nat :=
  let v := m.g (GROUP_CTRL_MASTER g)
  if 32 ≤ g ∧ 2 ≤ v ∧ v ≤ 9 then some (v - 2) else none

/-- The group signals some bits (R544): PEND in every service context of a cluster master, or one message for each
distinct vector. During a halt nothing is signalled but the HALT bit (R546). -/
def Dev.signal (m : Dev) (g : Nat) (ids : List Nat) : Dev :=
  if m.halted && !(g == 40 && smem ids 2) then m else
  let m := m.incW (GROUP_STATUS_SIGNALS g)
  match m.groupCluster g with
  | some k => (m.latchAll (svcOf k) 3).wake k
  | none => (ids.map (m.bitVector g)).eraseDups.foldl (fun m v => m.msix v) m

/-- An edge of a bit (R544): at once with the timer idle, recorded with it running. -/
def Dev.edge (m : Dev) (g id : Nat) : Dev :=
  if m.bitSignals g id then
    if m.on (GROUP_STATUS_HOLDING g) then
      ({ m with grpRec := tput (fun _ => []) m.grpRec g (sinsert (tget (fun _ => []) m.grpRec g) id) }.p
        (GROUP_STATUS_RECORDED g) 1).incW (GROUP_STATUS_COALESCED g)
    else
      let m := m.signal g [id]
      if m.g (GROUP_CTRL_HOLDOFF g) == 0 then m else m.p (GROUP_STATUS_HOLDING g) 1
  else m

/-- The edge of the HALT bit that starts a halt: signalled whatever the hold-off, with nothing recorded (R544, R614). -/
def Dev.haltEdge (m : Dev) : Dev :=
  if m.on (GROUP_CTRL_ENABLE 40) && (m.groupCluster 40).isNone then m.signal 40 [2] else m.edge 40 2

/-- An event of a pending bit of groups 32–43: an edge only if the bit was 0 (R539). -/
def Dev.event (m : Dev) (g bit : Nat) : Dev :=
  let f := groupBit g bit
  if m.on f then m else (m.p f 1).edge g bit

/-- An event of a channel's pending bit (R540, R541): PEND in its latch and its cluster woken, edge or not. -/
def Dev.chanPend (m : Dev) (n bit : Nat) : Dev :=
  let m := (m.latch n 3).wake (m.clusterOf n)
  let f := groupBit (n / 16) (n * 8 + bit)
  if m.on f then m else (m.p f 1).edge (n / 16) (n * 8 + bit)

/-- Is INT_CHANNEL present at the thread: an enabled bit, routed to the thread, set (R540)? -/
def Dev.intChannel (m : Dev) (n : Nat) : Bool :=
  (m.g (CHAN_INT_PEND_PEND n) &&& m.g (CHAN_INT_CTRL_MASK n) &&& (255 - m.g (CHAN_INT_CTRL_ROUTE n))) != 0

/-- The hold-off timer of a group expires (R544). -/
def Dev.holdoffEnd (m : Dev) (g : Nat) : Dev :=
  if m.on (GROUP_STATUS_HOLDING g) then
    let ids := (tget (fun _ => []) m.grpRec g).filter (fun id => m.on (groupBit g id))
    let m := { m with grpRec := tput (fun _ => []) m.grpRec g [] }.p (GROUP_STATUS_RECORDED g) 0
    if ids.isEmpty then m.p (GROUP_STATUS_HOLDING g) 0
    else (m.signal g ids).pb (GROUP_STATUS_HOLDING g) (m.g (GROUP_CTRL_HOLDOFF g) != 0)
  else m

/-- Every bit of a group that is set and signals, by number. -/
def Dev.groupSet (m : Dev) (g : Nat) : List Nat :=
  (if g < 32 then (List.range 128).map (fun i => g * 128 + i) else List.range 72).filter
    (fun id => m.on (groupBit g id) && m.bitSignals g id)

/-- The group signals the bits it finds set: at once with the timer idle, recorded with it running (R543, R545). -/
def Dev.groupAll (m : Dev) (g : Nat) : Dev :=
  let ids := m.groupSet g
  if ids.isEmpty then m
  else if m.on (GROUP_STATUS_HOLDING g) then
    { m with grpRec := tput (fun _ => []) m.grpRec g (ids.foldl sinsert (tget (fun _ => []) m.grpRec g)) }.p
      (GROUP_STATUS_RECORDED g) 1
  else
    let m := m.signal g ids
    if m.g (GROUP_CTRL_HOLDOFF g) == 0 then m else m.p (GROUP_STATUS_HOLDING g) 1

/-- A write of GROUP_CTRL (R543): a change of MASTER or a cleared ENABLE stops the hold-off and drops its record; ENABLE
set to 1 takes every bit then set as an edge. Groups 44–63 ignore writes (R542). -/
def Dev.groupCtrl (m : Dev) (g : Nat) (v : Word) : Dev :=
  if 44 ≤ g then m else
  let wasOn := m.on (GROUP_CTRL_ENABLE g)
  let wasM := m.g (GROUP_CTRL_MASTER g)
  let m := ((((m.p (GROUP_CTRL_ENABLE g) (bits v 71 71)).p (GROUP_CTRL_MASTER g) (bits v 70 67)).p
    (GROUP_CTRL_HOLDOFF g) (bits v 66 51))).p (GROUP_CTRL_VECTOR g) (bits v 50 40)
  let isOn := m.on (GROUP_CTRL_ENABLE g)
  let m := if (wasM != m.g (GROUP_CTRL_MASTER g)) || (wasOn && !isOn) then
    ({ m with grpRec := tput (fun _ => []) m.grpRec g [] }.p (GROUP_STATUS_RECORDED g) 0).p (GROUP_STATUS_HOLDING g) 0
    else m
  if isOn && !wasOn then m.groupAll g else m

end Sys2Proof.Machine
end

