-- ==== Sys2Proof/Machine/Mailbox.lean ====
section
/-!
DEFINITION. Machine/Mailbox.lean: the 64 mailboxes: posts, takes, acknowledgements, timers and resets of a side
(R526–R538), and the meanings of the mailbox commands. Side A is `false`, side B `true`.
-/

namespace Sys2Proof.Machine

/-- The index of a side's record. -/
def mbxIx (b : Nat) (side : Bool) : Nat := 2 * b + (if side then 1 else 0)

/-- A side of a mailbox. -/
def Dev.side (m : Dev) (b : Nat) (side : Bool) : MbxSide := tget (fun _ => ({} : MbxSide)) m.mbx (mbxIx b side)

/-- Store a side. -/
def Dev.setSide (m : Dev) (b : Nat) (side : Bool) (x : MbxSide) : Dev :=
  { m with mbx := tput (fun _ => ({} : MbxSide)) m.mbx (mbxIx b side) x }

/-- The master bound to a side (R527). -/
def Dev.sideMaster (m : Dev) (b : Nat) (side : Bool) : Nat :=
  if side then m.g (TELLER_MASTER_B b) else m.g (TELLER_MASTER_A b)

/-- May this master use the side (R528)? -/
def Dev.sideOpen (m : Dev) (mst b : Nat) (side : Bool) : Bool :=
  decide (b < 64) && m.on (TELLER_VALID b) && m.sideMaster b side == mst

/-- Notify the master of a side of a post (`post`) or of a result (R533). -/
def Dev.notify (m : Dev) (b : Nat) (side : Bool) (post : Bool) : Dev :=
  let mst := m.sideMaster b side
  if mst = 0 then m.event (if post then 41 else 42) b
  else if mst = 1 then
    if m.on SUPPLY_STATUS_MGMT_MODE then m.send (.ibi (b + (if post then 64 else 128))) else m
  else (m.latchAll (m.contextsOf (mst - 2)) 2).wake (mst - 2)

/-- The timer of a slot in ns: TIMEOUT_US within 10 µs to 1 s (R532). -/
def Dev.mbxTimeout (m : Dev) (b : Nat) : Nat := 1000 * max 10 (min 1000000 (m.g (MBX_CTRL_TIMEOUT_US b)))

/-- A post into a side's outbound slot; false when the slot is not EMPTY (R526, R529). -/
def Dev.mbxPost (m : Dev) (b : Nat) (side : Bool) (msg : Word) : Dev × Bool :=
  let x := m.side b side
  if x.slot == 0 then
    let m := m.setSide b side { x with slot := 1, msg := msg, stale := false, postEpoch := (x.epoch), deadline := (m.now + m.mbxTimeout b), ackValid := false }
    (((m.incW (MBX_COUNTS_POSTS b)).notify b (!side) true), true)
  else (m.incW (MBX_COUNTS_FULL_WRITES b), false)

/-- A take of the message posted to a side (R530). -/
def Dev.mbxTake (m : Dev) (b : Nat) (side : Bool) : Dev × Option Word :=
  let x := m.side b (!side)
  if x.slot == 1 then (m.setSide b (!side) { x with slot := 2 }, some x.msg) else (m, none)

/-- A device-made or given result written to the record of the sending side, which is notified (R531–R533). -/
def Dev.mbxResult (m : Dev) (b : Nat) (sender : Bool) (tmo : Bool) (code : Nat) : Dev :=
  let x := m.side b sender
  let y := { x with slot := 0, stale := false }
  if x.stale then m.setSide b sender y
  else (m.setSide b sender { y with ackValid := true, timeout := tmo, ackTaken := x.slot == 2, ackCode := code }).notify
    b sender false

/-- An acknowledgement by a side of the message it has taken; false when none is TAKEN (R531, R537). -/
def Dev.mbxAck (m : Dev) (b : Nat) (side : Bool) (code : Nat) : Dev × Bool :=
  let x := m.side b (!side)
  if x.slot == 2 then
    (((if x.stale then m.incW (MBX_COUNTS_STALE_ACKS b) else m).mbxResult b (!side) false code), true)
  else (m, false)

/-- The timer of a side's outbound slot expires (R532). -/
def Dev.mbxExpire (m : Dev) (b : Nat) (side : Bool) : Dev :=
  let x := m.side b side
  if x.slot == 0 then m
  else ((m.reach x.deadline).incW (MBX_COUNTS_TIMEOUTS b)).mbxResult b side true 1

/-- A reset of a side (R535–R537). -/
def Dev.sideReset (m : Dev) (b : Nat) (side : Bool) : Dev :=
  let x := m.side b side
  let x := { x with epoch := (x.epoch + 1) % 256 }
  let m := m.setSide b side (if x.slot == 0 then x else { x with stale := true, ackValid := false })
  if (m.side b (!side)).slot == 0 then m else m.mbxResult b (!side) true 2

/-- Reset every side bound to a master (R535). -/
def Dev.resetSidesOf (m : Dev) (mst : Nat) : Dev :=
  m.each 64 (fun b m =>
    let m := if m.sideOpen mst b false then m.sideReset b false else m
    if m.sideOpen mst b true then m.sideReset b true else m)

/-- X_STATUS of a side (the word MSTAT returns, R146). -/
def Dev.mbxStatus (m : Dev) (b : Nat) (side : Bool) : Word :=
  let x := m.side b side
  let y := m.side b (!side)
  Word.of (at_ 71 70 x.slot + at_ 69 69 (if x.stale then 1 else 0) + at_ 68 68 (if x.ackValid then 1 else 0)
    + at_ 67 67 (if x.timeout then 1 else 0) + at_ 66 66 (if x.ackTaken then 1 else 0) + at_ 65 50 x.ackCode
    + at_ 49 48 y.slot + at_ 47 40 y.postEpoch + at_ 39 32 y.epoch + at_ 31 24 x.epoch
    + at_ 23 20 (m.sideMaster b (!side)))

/-- A denied access of a side's registers is counted (R528); the management port answers it with a NACK (R46). -/
def Dev.mbxDenied (m : Dev) (mst b : Nat) : Dev :=
  let m := if b < 64 then m.incW (MBX_COUNTS_DENIED b) else m
  if mst = 1 then m.send .nack else m

/-- A register post (R529): a full slot is a Completer Abort to the host and a NACK to the board controller. -/
def Dev.regPost (m : Dev) (mst b : Nat) (side : Bool) (msg : Word) : Dev :=
  if m.sideOpen mst b side then
    match m.mbxPost b side msg with
    | (m, true) => m
    | (m, false) =>
      if mst = 0 then m.send (.aer 1 (b * 16 + (if side then 6 else 2)))
      else if mst = 1 then m.send .nack else m
  else m.mbxDenied mst b

/-- A register take (R530): the word read, zero when there is nothing to take or the access is denied. -/
def Dev.regTake (m : Dev) (mst b : Nat) (side : Bool) : Dev × Word :=
  if m.sideOpen mst b side then
    match m.mbxTake b side with
    | (m, some w) => (m, w)
    | (m, none) => (m, 0)
  else (m.mbxDenied mst b, 0)

/-- A register acknowledgement (R531). -/
def Dev.regAck (m : Dev) (mst b : Nat) (side : Bool) (code : Nat) : Dev :=
  if m.sideOpen mst b side then (m.mbxAck b side code).1 else m.mbxDenied mst b

/-- A register reset of a side (R535). -/
def Dev.regSideReset (m : Dev) (mst b : Nat) (side : Bool) : Dev :=
  if m.sideOpen mst b side then m.sideReset b side else m.mbxDenied mst b

/-- A write of TELLER (R527): ignored once the lock is set, and for a code that may not be bound. -/
def Dev.tellerWrite (m : Dev) (b : Nat) (v : Word) : Dev :=
  let a := bits v 70 67
  let c := bits v 66 63
  if m.on MBX_GLOBAL_TELLER_LOCK || decide (64 ≤ b) || decide (9 < a) || decide (9 < c) || a == c then m
  else ((m.p (TELLER_VALID b) (bits v 71 71)).p (TELLER_MASTER_A b) a).p (TELLER_MASTER_B b) c

end Sys2Proof.Machine
end

