-- ==== Sys2Proof/Machine/Layers.lean ====
section
/-!
DEFINITION. Machine/Layers.lean: a layer's records as data (R397–R402): the registers that show them, the source in use,
and what a latch replaces.
-/

namespace Sys2Proof.Machine

/-- Is a TRANSFER code one of the table of R403? -/
def transferKnown (t : Nat) : Bool := smem [1, 6, 14, 15, 8, 16, 18] t

/-- Was a colour code of the picture assumed (R403, R405)? -/
def Pic.assumed (p : Pic) : Bool := !transferKnown p.transfer || (p.primaries != 1 && p.primaries != 9)

/-- Has the record's ticket completed so that its picture may be shown: STATUS OK or STREAM_ERROR (R399)? -/
def LayerRec.ready (r : LayerRec) : Bool := r.done == some 0 || r.done == some 1

/-- The record whose source picture is in use (R36, R399). -/
def Layer.current (l : Layer) : Option LayerRec :=
  match l.shown with
  | none => none
  | some r => if r.ready then some r else l.src

/-- A layer. -/
def Dev.layer (m : Dev) (l : Nat) : Layer := tget (fun _ => ({} : Layer)) m.layers l

/-- Store a layer, with LAYER_STATUS and LAYER_REC as they show it. -/
def Dev.setLayer (m : Dev) (l : Nat) (x : Layer) : Dev :=
  let m := { m with layers := tput (fun _ => ({} : Layer)) m.layers l x }
  let m := (m.pb (LAYER_STATUS_SHOWING l) x.shown.isSome).pb (LAYER_STATUS_STAGING_BUSY l) x.staging.isSome
  let m := m.p (LAYER_STATUS_PENDING l) x.pending.length
  let m := m.pb (LAYER_STATUS_WAITING_TICKET l) (match x.shown with | some r => r.done.isNone | none => false)
  let m := m.pb (LAYER_STATUS_ASSUMED l) (match x.current.bind (·.pic) with | some p => p.assumed | none => false)
  let ws := match x.shown with | some r => r.ws | none => []
  m.each 8 (fun j m => m.wr (LAYER_REC_addr l j) (ws.getD j 0))

/-- The buffers that a record, if any, holds. -/
def recHolds : Option LayerRec → List Nat
  | some r => r.holds
  | none => []

/-- A record is latched (R397, R399): it is shown, the source that was in use stands in until its ticket completes, and
the holds of what no refresh reads any more are answered. -/
def Layer.latch (l : Layer) (r : LayerRec) : Layer × List Nat :=
  let keep := if r.op = 2 ∨ r.ready = true then none else l.current
  let out := (if keep == l.shown then [] else recHolds l.shown) ++ (if keep == l.src then [] else recHolds l.src)
  ({ l with shown := some r, src := keep }, out)

/-- Once the shown record's ticket has completed well, no earlier source stands in (R399). -/
def Layer.settle (l : Layer) : Layer × List Nat :=
  match l.shown with
  | some r => if r.ready then ({ l with src := none }, recHolds l.src) else (l, [])
  | none => (l, [])

/-- A record learns that a ticket has completed (R399). -/
def LayerRec.ticketDone (r : LayerRec) (w : Word) (status : Nat) : LayerRec :=
  if r.ws.getD 2 0 = w && r.done.isNone then { r with done := some status } else r

/-- A layer's records learn that a ticket has completed. -/
def Layer.ticketDone (l : Layer) (w : Word) (status : Nat) : Layer :=
  let f := fun (r : LayerRec) => r.ticketDone w status
  { l with shown := l.shown.map f, src := l.src.map f, pending := l.pending.map f }

/-- Every layer record that names a ticket learns its status (R399). -/
def Dev.layerTicket (m : Dev) (w : Word) (status : Nat) : Dev :=
  m.layers.foldl (fun m e => m.setLayer e.1 (e.2.ticketDone w status)) m

/-- The picture at a luma address, that layers show as it is written, is written in full (R338, R402). -/
def Dev.layerWritten (m : Dev) (luma : Nat) : Dev :=
  let f := fun (r : LayerRec) => match r.pic with | some p => if p.luma = luma then r.ticketDone 0 0 else r | none => r
  m.layers.foldl (fun m e => m.setLayer e.1 { e.2 with shown := e.2.shown.map f, src := e.2.src.map f, pending := e.2.pending.map f }) m

end Sys2Proof.Machine
end

