-- ==== Sys2Proof/Machine/Frames.lean ====
section
/-!
DEFINITION. Machine/Frames.lean: CRC-32 (R366), chain frames with header and trailer (R555), and the class queues that
every frame leaving a port waits in (R580).
-/

namespace Sys2Proof.Machine

/-- One bit of the reflected CRC-32 with polynomial 04C1_1DB7h (R366). -/
def crcBit (c : Nat) : Nat := if c % 2 = 1 then Nat.xor (c / 2) 0xEDB88320 else c / 2

/-- One byte of the CRC. -/
def crcByte (c : Nat) (b : BitVec 8) : Nat :=
  crcBit (crcBit (crcBit (crcBit (crcBit (crcBit (crcBit (crcBit (Nat.xor c b.toNat))))))))

/-- CRC-32 of bytes: initial value and final XOR all ones (R366). -/
def crc32 (bs : List (BitVec 8)) : Nat := Nat.xor (bs.foldl crcByte 0xFFFFFFFF) 0xFFFFFFFF

/-- CRC-32 of the packed bytes of words (R10, R366). -/
def crcWords (ws : List Word) : Nat := crc32 (ws.flatMap wordBytes)

/-- This device's identity (R26). -/
def Dev.ident (m : Dev) : Nat := m.g FAB_IDENT_IDENT

/-- The header word of a chain frame (R555); TTL is 200 at the sender. -/
def frameHeader (kind cls dest src route ttl len : Nat) : Word :=
  Word.of (at_ 71 68 kind + at_ 67 65 cls + at_ 64 47 dest + at_ 46 29 src + at_ 28 27 route + at_ 26 19 ttl
    + at_ 18 8 len)

/-- A frame that this device originates, without its trailer. -/
def Dev.frame (m : Dev) (kind cls dest route : Nat) (payload : List Word) : List Word :=
  frameHeader kind cls dest m.ident route 200 payload.length :: payload

/-- The trailer of a frame on a link: CRC, the sequence number of the link and class, and on a version-3 link the residence
time, saturated (R553, R555). Links 0–7 are the chain links; an uplink port q counts as 8 + q. -/
def Dev.trailer (m : Dev) (k : Nat) (ws : List Word) (lat : Nat) : Word :=
  let cls := bits (nthWord ws 0) 67 65
  let v3 := decide (k < 8) && m.g (FAB_LINK_STATUS_VERSION k) == 3
  Word.of (at_ 71 40 (crcWords ws) + at_ 39 24 (tget (fun _ => 0) m.linkSeq (k * 8 + cls)) + (if v3 then min lat 0xFFFFFF else 0))

/-- The sequence number of a link and class advances (R555). -/
def Dev.seqNext (m : Dev) (k : Nat) (ws : List Word) : Dev :=
  let i := k * 8 + bits (nthWord ws 0) 67 65
  { m with linkSeq := tput (fun _ => 0) m.linkSeq i ((tget (fun _ => 0) m.linkSeq i + 1) % 65536) }

/-- Send a frame on a chain link now: trailer added, sequence number and count advanced (R555). -/
def Dev.chainSend (m : Dev) (k : Nat) (ws : List Word) (lat : Nat) : Dev :=
  let t := m.trailer k ws lat
  ((m.seqNext k ws).incW (FAB_LINK_COUNTS_FRAMES_SENT k)).send (.chainFrame k (ws ++ [t]))

/-- Send a frame of this device's own on a chain link now. -/
def Dev.chainNow (m : Dev) (k : Nat) (ws : List Word) : Dev := m.chainSend k ws 0

/-- The frames waiting on an egress port in a class (R580). -/
def Dev.eq (m : Dev) (port cls : Nat) : List EFrame := tget (fun _ => []) m.egress (port * 8 + cls)

/-- Store the frames waiting. -/
def Dev.setEq (m : Dev) (port cls : Nat) (l : List EFrame) : Dev :=
  { m with egress := tput (fun _ => []) m.egress (port * 8 + cls) l }

/-- Queue a frame at the end of its port's class queue (R582). -/
def Dev.enqueueF (m : Dev) (port cls : Nat) (f : EFrame) : Dev := m.setEq port cls (m.eq port cls ++ [f])

/-- Queue a frame of this device's own. -/
def Dev.enqueue (m : Dev) (port cls : Nat) (ws : List Word) : Dev :=
  m.enqueueF port cls { words := ws, since := m.now }

/-- Is a chain link UP (R552)? -/
def Dev.linkUp (m : Dev) (k : Nat) : Bool := decide (k < 8) && m.g (FAB_LINK_STATUS_STATE k) == 4

/-- The payload of a CONTROL frame (R557): its op, with this device's identity in [67:50]. -/
def Dev.control (m : Dev) (op : Nat) (rest : Nat) : List Word :=
  [Word.of (at_ 71 68 op + at_ 67 50 m.ident + rest)]

/-- Queue a link-local CONTROL frame (R557, class 7). -/
def Dev.sendControl (m : Dev) (k op rest : Nat) : Dev := m.enqueue k 7 (m.frame 4 7 0 2 (m.control op rest))

/-- DEPART sent at once on every UP link (R561). -/
def Dev.departAll (m : Dev) : Dev :=
  m.each 8 (fun k m => if m.linkUp k then m.chainNow k (m.frame 4 7 0 2 (m.control 4 0)) else m)

/-- HOLD on every lamp port that is up (R429); frame type 13h (R420). -/
def Dev.holdAll (m : Dev) : Dev :=
  m.each 64 (fun p m => if m.g (PORT_STATUS_STATE p) == 2 then m.send (.lampFrame p 0x13 1 true 0 0 0 0 0 []) else m)

end Sys2Proof.Machine
end

