-- ==== Sys2Proof/Machine/Routes.lean ====
section
/-!
DEFINITION. Machine/Routes.lean: positions in a pane (R548, R549), the link map and shortest-path routes (R559), gateways
(R562), and the sending of frames along them.
-/

namespace Sys2Proof.Machine

/-! ### Positions -/

/-- The pane of an identity (R26). -/
def paneOf (d : Nat) : Nat := d / 4096

/-- An identity from its pane, row and column (R26). -/
def identOf (p y x : Nat) : Nat := p * 4096 + y * 64 + x

/-- The offsets of link k (R549). -/
def linkOffset (k : Nat) : Int × Int :=
  ([(1, 0), (1, 1), (0, 1), (-1, 1), (-1, 0), (-1, -1), (0, -1), (1, -1)] : List (Int × Int)).getD k (0, 0)

/-- The device that link k of a device leads to, if its position lies in the pane (R549). -/
def neighbour (d k : Nat) : Option Nat :=
  let o := linkOffset k
  let x : Int := (d % 64 : Nat) + o.1
  let y : Int := (d / 64 % 64 : Nat) + o.2
  if decide (k < 8) && decide (0 ≤ x) && decide (x < 64) && decide (0 ≤ y) && decide (y < 64) then
    some (identOf (paneOf d) y.toNat x.toNat) else none

/-- The position of an identity less that of another. -/
def hopsBetween (a b : Nat) : Nat :=
  max ((a % 64 : Nat) - (b % 64 : Nat) : Int).natAbs ((a / 64 % 64 : Nat) - (b / 64 % 64 : Nat) : Int).natAbs

/-! ### The map (R559) -/

/-- The UP links of this device. -/
def Dev.ownMask (m : Dev) : Nat := ((List.range 8).map (fun k => if m.linkUp k then 2 ^ k else 0)).sum

/-- The UP links that the map holds for a device. -/
def Dev.maskOf (m : Dev) (d : Nat) : Nat :=
  if d = m.ident then m.ownMask else match m.fab.map.find? (fun e => e.dev == d) with | some e => e.mask | none => 0

/-- The devices that a device reaches over links both ends report UP; with `full`, over every link of a device in the map. -/
def Dev.reachable (m : Dev) (full : Bool) (d : Nat) : List Nat :=
  (List.range 8).filterMap (fun k => match neighbour d k with
    | some e => if (full && (e == m.ident || m.fab.map.any (fun x => x.dev == e))) ||
        (Nat.testBit (m.maskOf d) k && Nat.testBit (m.maskOf e) ((k + 4) % 8)) then some e else none
    | none => none)

/-- Distances from a device, breadth first: `front` holds the devices at distance `n`, `done` those found. -/
def Dev.spread (m : Dev) (full : Bool) : Nat → Nat → List Nat → List (Nat × Nat) → List (Nat × Nat)
  | 0, _, _, found => found
  | fuel + 1, n, front, found =>
    let next := (front.flatMap (m.reachable full)).eraseDups.filter (fun d => !found.any (fun e => e.1 == d))
    if next.isEmpty then found else m.spread full fuel (n + 1) next (found ++ next.map (fun d => (d, n + 1)))

/-- The devices reached from one, with their distances (R559). -/
def Dev.distances (m : Dev) (full : Bool) (d : Nat) : List (Nat × Nat) := m.spread full 4096 0 [d] [(d, 0)]

/-- The hops from this device to another of the pane. -/
def Dev.hopsTo (m : Dev) (d : Nat) : Option Nat := ((m.distances false d).find? (fun e => e.1 == m.ident)).map (·.2)

/-- The link of the next hop toward a device of the pane: a shortest path, the lowest link of equals (R559). -/
def Dev.nextHop (m : Dev) (d : Nat) : Option Nat :=
  let ds := m.distances false d
  match ds.find? (fun e => e.1 == m.ident) with
  | none => none
  | some me => (List.range 8).find? (fun k => m.linkUp k && (match neighbour m.ident k with
      | some e => ds.any (fun x => x.1 == e && x.2 + 1 == me.2) | none => false))

/-! ### Uplinks -/

/-- The uplink port of an uplink and split port (R594). -/
def Dev.uplinkPort (m : Dev) (u sub : Nat) : Nat := 4 * u + (if m.on (UPLINK_CTRL_SPLIT u) then sub else 0)

/-- Is an uplink port up (R595)? -/
def Dev.uplinkUp (m : Dev) (q : Nat) : Bool := m.g (UPLINK_STATUS_STATE q) == 2

/-- The gateway datagram of a frame toward a pane (R562), queued in the class of the frame (R581); dropped, and counted,
while the port is not up. -/
def Dev.gatewaySend (m : Dev) (pane : Nat) (f : EFrame) : Dev :=
  let q := m.uplinkPort (m.g (FAB_GATEWAY_UPLINK pane)) (m.g (FAB_GATEWAY_SUBPORT pane))
  if m.uplinkUp q then
    let t := m.trailer (8 + q) f.words 0
    let body := ([0x49, 0x58, 1, 0] : List (BitVec 8)) ++ (f.words ++ [t]).flatMap wordBytes
    let gram : Datagram := ⟨none, m.g (FAB_GATEWAY_HI_ADDR pane), m.g (FAB_GATEWAY_LO_ADDR pane), m.on (FAB_GATEWAY_IPV6 pane), none, m.g (FAB_GATEWAY_UDP_PORT pane), 0, body⟩
    (m.seqNext (8 + q) f.words).enqueueF (8 + q) (bits (nthWord f.words 0) 67 65) { f with gram := some gram }
  else m.incW (GATE_COUNTS_QUEUE_DROPS (8 + q))

/-- Put a unicast frame on its route (R559, R562), and whether there is one. -/
def Dev.route (m : Dev) (f : EFrame) : Dev × Bool :=
  let w := nthWord f.words 0
  let dest := bits w 64 47
  let cls := bits w 67 65
  let local_ := paneOf dest == paneOf m.ident
  let gw := m.g (FAB_GATEWAY_GATEWAY (paneOf dest))
  if !local_ && !m.on (FAB_GATEWAY_VALID (paneOf dest)) then (m, false)
  else if !local_ && gw == m.ident then (m.gatewaySend (paneOf dest) f, true)
  else match m.nextHop (if local_ then dest else gw) with
    | some k => (m.enqueueF k cls f, true)
    | none => (m, false)

/-- Send a unicast frame of this device's own (R555, R559). -/
def Dev.sendTo (m : Dev) (kind cls dest : Nat) (payload : List Word) : Dev :=
  (m.route { words := m.frame kind cls dest 0 payload, since := m.now }).1

/-- Queue a copy of a frame on every UP link but the one it came on (R559, R569). -/
def Dev.floodLinks (m : Dev) (but : Option Nat) (cls : Nat) (f : EFrame) : Dev :=
  m.each 8 (fun k m => if m.linkUp k && but != some k then m.enqueueF k cls f else m)

/-- Send a message through the gateways whose FLOOD bit is set and that stand in this device (R569). -/
def Dev.floodGateways (m : Dev) (kind cls : Nat) (payload : List Word) : Dev :=
  m.each 64 (fun p m =>
    if p != paneOf m.ident && m.on (FAB_GATEWAY_VALID p) && m.on (FAB_GATEWAY_FLOOD p) && m.g (FAB_GATEWAY_GATEWAY p) == m.ident then
      m.gatewaySend p { words := m.frame kind cls (identOf p 0 0) 0 payload, since := m.now } else m)

end Sys2Proof.Machine
end

