-- ==== Sys2Proof/Machine/Contexts.lean ====
section
/-!
DEFINITION. Machine/Contexts.lean: decoder contexts and what other parts of the device share with them: the layout of slots
(R223, R225, R361), the areas of a regional group (R349, R350), seam messages (R365, R368) with ABSENT and AWAY (R374), the
decode log (R256, R257), the discard of pictures (R247), and the loss of a context (R229).
-/

namespace Sys2Proof.Machine

/-! ### Counters in units of 1,024 -/

/-- Count n in units of 1,024 into a field, keeping the remainder; `sat`: the field saturates instead of wrapping. -/
def Dev.countK (m : Dev) (f : RF) (sat : Bool) (n : Nat) : Dev :=
  let key := f.a * 128 + f.lo
  let t := tget (fun _ => 0) m.kRem key + n
  let m := { m with kRem := tput (fun _ => 0) m.kRem key (t % 1024) }
  if sat then m.addSat f (t / 1024) else m.addWrap f (t / 1024)

/-! ### Areas of a regional group -/

/-- A rectangle from its left, top, right and bottom edges, the last two exclusive. -/
abbrev Rect := Nat × Nat × Nat × Nat

/-- Width and height of a rectangle. -/
def rectW (r : Rect) : Nat := r.2.2.1 - r.1
def rectH (r : Rect) : Nat := r.2.2.2 - r.2.1

/-- The common part of two rectangles. -/
def rectMeet (a b : Rect) : Rect := (max a.1 b.1, max a.2.1 b.2.1, min a.2.2.1 b.2.2.1, min a.2.2.2 b.2.2.2)

/-- Does a rectangle hold a sample? -/
def rectSome (a : Rect) : Bool := decide (a.1 < a.2.2.1) && decide (a.2.1 < a.2.2.2)

/-- Does the second rectangle lie within the first? -/
def rectHas (a b : Rect) : Bool :=
  decide (a.1 ≤ b.1) && decide (a.2.1 ≤ b.2.1) && decide (b.2.2.1 ≤ a.2.2.1) && decide (b.2.2.2 ≤ a.2.2.2)

/-- A rectangle widened on every side and clipped to a picture. -/
def rectGrow (a : Rect) (h v W H : Nat) : Rect := (a.1 - h, a.2.1 - v, min W (a.2.2.1 + h), min H (a.2.2.2 + v))

/-- A rectangle at a plane's scale: rounded outward, or inward (R350). -/
def rectPlane (a : Rect) (sub : Nat × Nat) (outward : Bool) : Rect :=
  if outward then (a.1 / sub.1, a.2.1 / sub.2, ceilDiv a.2.2.1 sub.1, ceilDiv a.2.2.2 sub.2)
  else (ceilDiv a.1 sub.1, ceilDiv a.2.1 sub.2, a.2.2.1 / sub.1, a.2.2.2 / sub.2)

/-- The core of region (c, r) of a picture of W × H (R349, R350). -/
def Region.core (g : Region) (W H c r : Nat) : Rect :=
  let xs := 0 :: g.colB.map (min W) ++ [W]
  let ys := 0 :: g.rowB.map (min H) ++ [H]
  (xs.getD c 0, ys.getD r 0, xs.getD (c + 1) 0, ys.getD (r + 1) 0)

/-- The number of columns of the grid. -/
def Region.cols (g : Region) : Nat := g.colB.length + 1

/-- The core of a member by its place in the member table. -/
def Region.coreOf (g : Region) (W H i : Nat) : Rect := g.core W H (i % g.cols) (i / g.cols)

/-- This member's place in the table. -/
def Region.me (g : Region) : Nat := g.myRow * g.cols + g.myCol

/-- A member's reconstruct area A, rounded outward to whole chroma samples (R350). -/
def Region.area (g : Region) (chroma W H i : Nat) : Rect :=
  let a := rectGrow (g.coreOf W H i) g.marginH g.marginV W H
  let s := chromaSub chroma
  (a.1 / s.1 * s.1, a.2.1 / s.2 * s.2, min W (ceilDiv a.2.2.1 s.1 * s.1), min H (ceilDiv a.2.2.2 s.2 * s.2))

/-- The seam band of member i's margin that lies in this member's core (R350). -/
def Region.bandTo (g : Region) (chroma W H i : Nat) : Rect := rectMeet (g.area chroma W H i) (g.coreOf W H g.me)

/-- The seam band of this member's margin that lies in member i's core (R350). -/
def Region.bandFrom (g : Region) (chroma W H i : Nat) : Rect := rectMeet (g.area chroma W H g.me) (g.coreOf W H i)

/-- The strip that this member owes member i before filtering (R363): its core samples within `pf` of member i's core. -/
def Region.stripTo (g : Region) (W H pf i : Nat) : Rect := rectMeet (rectGrow (g.coreOf W H i) pf pf W H) (g.coreOf W H g.me)

/-- The strip that member i owes this member (R363). -/
def Region.stripFrom (g : Region) (W H pf i : Nat) : Rect := rectMeet (rectGrow (g.coreOf W H g.me) pf pf W H) (g.coreOf W H i)

/-- PF (R363). -/
def seamDepth (std : Nat) : Nat := if std ≤ 1 then 8 else if std = 2 then 16 else 32

/-- The members that this member owes seams, by place: those whose margin band or PRE strips reach its core (R362, R363). -/
def Region.owed (g : Region) (std chroma W H : Nat) : List Nat :=
  (List.range g.members.length).filter (fun i => i != g.me &&
    (rectSome (g.bandTo chroma W H i) || rectSome (g.stripTo W H (seamDepth std) i)))

/-! ### Contexts -/

/-- The decoder context of a channel, if one is open (R229). -/
def Dev.dec (m : Dev) (n : Nat) : Option DecCtx := tget (fun _ => none) m.decs n

/-- Store a context, with REGION_CHAN_STATUS as it shows. -/
def Dev.setDec (m : Dev) (n : Nat) (c : Option DecCtx) : Dev :=
  let m := { m with decs := tput (fun _ => none) m.decs n c }
  if 512 ≤ n then m
  else match c.bind (·.region) with
  | some g =>
    ((((m.p (REGION_CHAN_STATUS_ACTIVE n) 1).p (REGION_CHAN_STATUS_GROUP_ID n) g.group).p (REGION_CHAN_STATUS_MY_COL n) g.myCol).p
      (REGION_CHAN_STATUS_MY_ROW n) g.myRow).p (REGION_CHAN_STATUS_ABSENT_MEMBERS n) g.away.length
  | none => (m.p (REGION_CHAN_STATUS_ACTIVE n) 0).p (REGION_CHAN_STATUS_ABSENT_MEMBERS n) 0

/-- Is the channel's context regional (R361)? -/
def Dev.isRegional (m : Dev) (n : Nat) : Bool := ((m.dec n).bind (·.region)).isSome

/-- The area that the slots of a context are laid out for: A of a regional context, else the whole (R223, R361). -/
def DecCtx.layout (c : DecCtx) : Rect :=
  match c.region with
  | some g => g.area c.chroma c.maxW c.maxH g.me
  | none => (0, 0, c.maxW, c.maxH)

def DecCtx.layW (c : DecCtx) : Nat := rectW c.layout
def DecCtx.layH (c : DecCtx) : Nat := rectH c.layout
def DecCtx.layHC (c : DecCtx) : Nat := ceilDiv c.layH (chromaSub c.chroma).2

/-- PITCH_Y (R223). -/
def DecCtx.pitchY (c : DecCtx) : Nat := ceilDiv (ceilDiv c.layW (lanesOf c.packing)) 8 * 8

/-- PITCH_C (R223); zero with no chroma. -/
def DecCtx.pitchC (c : DecCtx) : Nat :=
  if c.chroma = 0 then 0 else ceilDiv (ceilDiv (ceilDiv c.layW (chromaSub c.chroma).1) (lanesOf c.packing)) 8 * 8

/-- The words of a slot (R223). -/
def DecCtx.slotWords (c : DecCtx) : Nat := c.pitchY * c.layH + (if c.chroma = 0 then 0 else 2 * c.pitchC * c.layHC)

/-- The words of a side-data area (R225). -/
def DecCtx.sideWords (c : DecCtx) : Nat :=
  if c.std = 3 then
    let b := ceilDiv c.maxW 8 * ceilDiv c.maxH 8
    b + ceilDiv b 24
  else ceilDiv c.maxW 16 * ceilDiv c.maxH 16

/-- A picture of a context by its tag. -/
def DecCtx.pic (c : DecCtx) (tag : Nat) : Option DecPic := c.pics.find? (fun p => p.tag == tag)

/-- Change a picture of a context. -/
def DecCtx.modPic (c : DecCtx) (tag : Nat) (f : DecPic → DecPic) : DecCtx :=
  { c with pics := c.pics.map (fun p => if p.tag == tag then f p else p) }

/-- What a shown regional picture is called across members: group, PIC_KEY, ORDER_HINT, exactness (R366, R379). -/
def Dev.picIdent (m : Dev) (n tag key : Nat) (exact : Bool) : Option (Nat × Nat × Nat × Bool) :=
  match m.dec n with
  | some c => match c.region, c.pic tag with
    | some g, some p => some (g.group, key, p.info.hint, exact)
    | _, _ => none
  | none => none

/-- Is a slot held by a picture (R226)? It is not once the picture has been reported, is no reference, awaits no output and
has been released. A Live channel keeps the last closed picture as the concealment source (R253). -/
def DecCtx.holds (c : DecCtx) (live : Bool) (p : DecPic) : Bool :=
  !p.reported || p.ref || p.wait || p.out ||
    (live && p.closed && !c.pics.any (fun q => decide (p.seq < q.seq) && q.closed))

/-- The context without the pictures whose slots are free. -/
def DecCtx.prune (c : DecCtx) (live : Bool) : DecCtx := { c with pics := c.pics.filter (c.holds live) }

/-- The lowest slot that no picture holds. -/
def DecCtx.freeSlot (c : DecCtx) (also : List Nat) : Option Nat :=
  (List.range c.slots).find? (fun k => !smem also k && !c.pics.any (fun p => p.slot == k || p.grain == some k))

/-! ### Seam messages -/

/-- A seam message (R365). -/
def seamMsg (kind group src dest plane packing key hint req : Nat) (last inexact : Bool) (x y w h : Nat)
    (payload : List Word) : List Word :=
  [Word.of (at_ 71 68 kind + at_ 67 52 group + at_ 51 34 src + at_ 33 16 dest + at_ 15 14 plane + at_ 13 13 packing
      + at_ 12 0 payload.length),
    Word.of (at_ 71 40 key + at_ 39 24 hint + at_ 23 23 (if last then 1 else 0) + at_ 22 22 (if inexact then 1 else 0)
      + at_ 15 0 req),
    Word.of (at_ 71 56 x + at_ 55 40 y + at_ 39 24 w + at_ 23 8 h)] ++ payload

/-- The traffic class of a channel's seam frames (R581). -/
def Dev.seamClass (m : Dev) (n : Nat) : Nat :=
  if m.g (CHAN_CTRL_CLASS n) = 0 then 6 else if m.g (CHAN_CTRL_CLASS n) = 1 then 4 else 2

/-- Send a seam message for a channel (R365, R368). -/
def Dev.seamSend (m : Dev) (n dest : Nat) (ws : List Word) : Dev :=
  (m.sendTo 1 (m.seamClass n) dest ws).countK (REGION_CHAN_TRAFFIC_KWORDS_SENT n) false ws.length

/-- AWAY to every member that is owed seams (R374). -/
def Dev.sendAway (m : Dev) (n : Nat) : Dev :=
  match m.dec n with
  | some c => match c.region with
    | some g => (g.owed c.std c.chroma c.maxW c.maxH).foldl (fun (m : Dev) (i : Nat) =>
        let d := g.members.getD i 0
        m.seamSend n d (seamMsg 7 g.group m.ident d 0 c.packing 0 0 0 false false 0 0 0 0 [])) m
    | none => m
  | none => m

/-- ABSENT for the seams of a picture, to every member that is owed them (R374). -/
def Dev.sendAbsent (m : Dev) (n : Nat) (p : DecPic) : Dev :=
  match m.dec n with
  | some c => match c.region with
    | some g => (g.owed c.std c.chroma p.info.width p.info.height).foldl (fun (m : Dev) (i : Nat) =>
        let d := g.members.getD i 0
        let b := g.bandTo c.chroma p.info.width p.info.height i
        m.seamSend n d (seamMsg 6 g.group m.ident d 0 c.packing p.info.key p.info.hint 0 true false b.1 b.2.1 (rectW b) (rectH b) [])) m
    | none => m
  | none => m

/-! ### The decode log -/

/-- Write an entry of a channel's decode log, word B before word A, and set the stream-error pending bit (R256, R257). -/
def Dev.decLog (m : Dev) (n kind action std pos tag row detail : Nat) : Dev :=
  let seq := tget (fun _ => 0) m.decLogSeq n
  let m := { m with decLogSeq := tput (fun _ => 0) m.decLogSeq n ((seq + 1) % 65536) }
  let m := m.wr (DEC_LOG_B_addr n (seq % 8)) (Word.of (at_ 71 40 tag + at_ 39 24 row + at_ 23 8 detail))
  let m := m.wr (DEC_LOG_A_addr n (seq % 8)) (Word.of (2 ^ 71 + at_ 70 55 seq + at_ 54 47 kind + at_ 46 44 action
    + at_ 43 40 std + at_ 39 0 pos))
  m.chanPend n 1

/-- A kind of damage is reported (R244, R256) and counted in DEC_CHAN_ERRORS. -/
def Dev.damage (m : Dev) (n kind action std pos tag row detail : Nat) : Dev :=
  let m := m.decLog n kind action std pos tag row detail
  if 1 ≤ kind ∧ kind ≤ 7 then m.incW (DEC_CHAN_ERRORS_HDR_ERRORS n)
  else if 8 ≤ kind ∧ kind ≤ 0x0D then m.incW (DEC_CHAN_ERRORS_UNIT_ERRORS n) else m

/-- Is the channel Live? -/
def Dev.isLive (m : Dev) (n : Nat) : Bool := m.g (CHAN_CTRL_CLASS n) == 0

/-- The discard of R247 begins at the picture with a decoding number: it and every later one are never due for output, and a
regional member sends AWAY (R374). -/
def Dev.enterDiscard (m : Dev) (n first : Nat) : Dev :=
  match m.dec n with
  | none => m
  | some c =>
    let bad := (c.pics.filter (fun p => decide (first ≤ p.seq) && !p.out)).map (·.tag)
    let pics := c.pics.map (fun p => if smem bad p.tag then { p with bad := true, wait := false } else p)
    let m := if c.discard then m else (m.incW (DEC_CHAN_ERRORS_DISCARDS n)).sendAway n
    m.setDec n (some ({ c with pics := pics, discard := true, due := c.due.filter (fun t => !smem bad t) }.prune false))

/-- A picture whose work was cancelled is dropped from its context, and a regional one reported ABSENT (R239, R374). -/
def Dev.dropPic (m : Dev) (n tag : Nat) : Dev :=
  match m.dec n with
  | none => m
  | some c =>
    match c.pic tag with
    | none => m
    | some p =>
      let m := if p.closed then m else m.sendAbsent n p
      let c := { c.modPic tag (fun p => { p with bad := true, wait := false, ref := false, reported := true, closed := true }) with due := c.due.filter (· != tag) }
      m.setDec n (some (c.prune false))

/-- A SEAM was cancelled: the seams of its picture go as ABSENT (R381). -/
def Dev.seamCancelled (m : Dev) (n tag : Nat) : Dev :=
  match m.dec n with
  | some c => match c.pic tag with
    | some p => if p.bad then m else m.sendAbsent n p
    | none => m
  | none => m

/-! ### Encoder contexts -/

/-- The encoder context of a channel, if one is open (R283). -/
def Dev.enc (m : Dev) (n : Nat) : Option EncCtx := tget (fun _ => none) m.encs n

/-- Store an encoder context. -/
def Dev.setEnc (m : Dev) (n : Nat) (c : Option EncCtx) : Dev := { m with encs := tput (fun _ => none) m.encs n c }

/-- A picture of an encoder context by its tag. -/
def EncCtx.pic (c : EncCtx) (tag : Nat) : Option EncPic := c.pics.find? (fun p => p.tag == tag && p.live)

/-- Change a picture of an encoder context. -/
def EncCtx.modPic (c : EncCtx) (tag : Nat) (f : EncPic → EncPic) : EncCtx :=
  { c with pics := c.pics.map (fun p => if p.tag == tag && p.live then f p else p) }

/-- A picture being encoded was cancelled (R298): it is never output, and the next coded picture is an IDR picture or key frame.
-/
def Dev.dropEnc (m : Dev) (n tag : Nat) : Dev :=
  match m.enc n with
  | none => m
  | some c =>
    if (c.pic tag).isSome then m.setEnc n (some { c with pics := c.pics.filter (fun p => !(p.tag == tag && p.live)), forceIdr := true })
    else m

/-- The ENC_TAG in the first word of a block of an encode queue (R293–R295, R301); none in a search in analysis mode. -/
def encTag (q : Nat) (w0 : Word) : Option Nat :=
  if q = 2 ∨ q = 3 then some (bits w0 55 24) else if q = 9 then some (bits w0 51 20)
  else if q = 0x18 then some (bits w0 59 28)
  else if q = 0x10 then (if bits w0 59 56 = 0 then some (bits w0 48 17) else none) else none

/-- A channel's contexts are lost (R229, R283, R381): nothing further is sent. -/
def Dev.dropContexts (m : Dev) (n : Nat) : Dev := (m.setDec n none).setEnc n none

end Sys2Proof.Machine
end

