-- ==== Sys2Proof/Machine/Completion.lean ====
section
/-!
DEFINITION. Machine/Completion.lean: who may reach which register (R46, R47, R624); completion entries on the rings
(R502, R508, R509); the end of an engine's work: tickets, cancelling a channel's work (R141, R142, R156, R660).
-/

namespace Sys2Proof.Machine

/-! ### Access by master -/

/-- The 65,536-word block of a register address (R45). -/
def blockOf (a : Nat) : Nat := a / 65536

/-- Has the boot chain signalled host-ready (R623)? -/
def Dev.hostReady (m : Dev) : Bool := m.on BOOT_STATUS_HOST_READY

/-- Is the core running: past host-ready, not halted, not powering down (R614, R617, R633)? -/
def Dev.coreUp (m : Dev) : Bool := m.g POWER_STATUS_STATE == 1 && !m.halted

/-- Is the device held in reset: PWR_OK low, SYS_RST_N low, TEST_EN high, or held by the TAP (R617, R618, R636, R646)? -/
def Dev.held (m : Dev) : Bool := !m.pins.pwrOk || !m.pins.sysRstN || m.pins.testEn || m.pins.tapHold

/-- The blocks the host reaches during a halt or before host-ready: read (R47, R624). -/
def openRead (a : Nat) : Bool := smem [0x00, 0x01, 0x0A, 0x10, 0x11] (blockOf a)

/-- The blocks the host reaches during a halt or before host-ready: write (R47, R624). -/
def openWrite (a : Nat) : Bool := smem [0x10, 0x11] (blockOf a)

/-- Is this a mailbox side register of block 0D, offsets 2–9 of a mailbox? -/
def mbxReg (a : Nat) : Bool :=
  decide (0x0D0000 ≤ a) && decide (a < 0x0D0400) && decide (2 ≤ a % 16) && decide (a % 16 ≤ 9)

/-- May a master write a register address (R46, R47, R624)? -/
def Dev.mayWrite (m : Dev) (mst a : Nat) : Bool :=
  if m.held then false
  else if mst = 0 then !m.d3hot && (if m.halted || !m.hostReady then openWrite a else true)
  else if mst = 1 then mbxReg a
  else if mst ≤ 9 then m.coreUp
  else if mst = 0xB then !m.hostReady else false

/-- May a master read a register address (R46, R47, R624)? -/
def Dev.mayRead (m : Dev) (mst a : Nat) : Bool :=
  if m.held then false
  else if mst = 0 then !m.d3hot && (if m.halted || !m.hostReady then openRead a else true)
  else if mst = 1 then smem [0x00, 0x01, 0x08, 0x10, 0x11] (blockOf a) || mbxReg a
  else if mst ≤ 9 then m.coreUp
  else if mst = 0xB then !m.hostReady else false

/-- A register write that a command names: applied if the master may make it; a NACK to the board controller, an
Unsupported Request in D3hot, otherwise ignored (R46, R493). -/
def Dev.ifWrite (m : Dev) (mst a : Nat) (f : Dev → Dev) : Dev :=
  if m.mayWrite mst a then f m
  else if mst = 1 then m.send .nack
  else if mst = 0 && m.d3hot then m.send (.unsupported a) else m

/-! ### Rings -/

/-- The first word address of a ring's register set: a channel's, or the admin ring's for 512. -/
def ringSet (r : Nat) : Nat := if r = 512 then 0x0C0800 else 0x0C1000 + 8 * r

def rSqBase (r : Nat) : RF := ⟨ringSet r, 71, 8⟩
def rSqEnable (r : Nat) : RF := ⟨ringSet r + 1, 71, 71⟩
def rSqSize (r : Nat) : RF := ⟨ringSet r + 1, 70, 66⟩
def rSqInbox (r : Nat) : RF := ⟨ringSet r + 1, 65, 30⟩
def rSqFifo (r : Nat) : RF := ⟨ringSet r + 1, 29, 24⟩
def rSqPrio (r : Nat) : RF := ⟨ringSet r + 1, 23, 21⟩
def rSqPrefetch (r : Nat) : RF := ⟨ringSet r + 1, 20, 19⟩
def rSqFetch (r : Nat) : RF := ⟨ringSet r + 2, 71, 56⟩
def rSqHead (r : Nat) : RF := ⟨ringSet r + 2, 55, 40⟩
def rSqDoorbell (r : Nat) : RF := ⟨ringSet r + 2, 39, 24⟩
def rSqPhase (r : Nat) : RF := ⟨ringSet r + 2, 23, 23⟩
def rCqBase (r : Nat) : RF := ⟨ringSet r + 3, 71, 8⟩
def rCqEnable (r : Nat) : RF := ⟨ringSet r + 4, 71, 71⟩
def rCqSize (r : Nat) : RF := ⟨ringSet r + 4, 70, 66⟩
def rCqTail (r : Nat) : RF := ⟨ringSet r + 5, 71, 56⟩
def rCqHead (r : Nat) : RF := ⟨ringSet r + 5, 55, 40⟩
def rCqPhase (r : Nat) : RF := ⟨ringSet r + 5, 39, 39⟩
def rEntries (r : Nat) : RF := ⟨ringSet r + 6, 71, 40⟩
def rReqFails (r : Nat) : RF := ⟨ringSet r + 6, 39, 24⟩
def rCqDrops (r : Nat) : RF := ⟨ringSet r + 6, 23, 8⟩

/-- The index after j in a ring of 2^size entries. -/
def ringNext (size j : Nat) : Nat := (j + 1) % 2 ^ size

/-- The free entries of a completion ring. TAIL = HEAD means empty, so one entry of the ring is never filled.
DEDUCED (log entry 11) from R502 and R509. -/
def Dev.cqFree (m : Dev) (r : Nat) : Nat :=
  let n := 2 ^ m.g (rCqSize r)
  n - 1 - (m.g (rCqTail r) + n - m.g (rCqHead r)) % n

/-- A base address with bits [13:8] of its register treated as zero (R501). -/
def ringBase (v : Nat) : Nat := v / 64 * 64

/-- A write of the ring channels to the host: held back while a bus error stops them (R517). -/
def Dev.ringSend (m : Dev) (o : Out) : Dev :=
  if m.on DMA_GLOBAL_BUS_ERROR then { m with cqHeld := o :: m.cqHeld } else m.send o

/-- Write a completion entry at TAIL: words 0–6, then the mark byte with the pass's phase (R502, R508). -/
def Dev.cqWrite (m : Dev) (r kind tag status : Nat) (body : List Word) : Dev :=
  let tail := m.g (rCqTail r)
  let abi := if m.on HOST_ABI_KW40_MODE then 2 else 3
  let w0 := Word.of (at_ 71 64 abi + at_ 63 56 kind + at_ 55 24 tag + at_ 23 8 (m.g (rSqHead r)) + at_ 7 0 status)
  let b := [nthWord body 0, nthWord body 1, nthWord body 2, nthWord body 3, nthWord body 4]
  let check := if m.on HOST_ABI_KW40_MODE then 0 else (w0 :: b).foldl (· + ·) 0
  let addr := ringBase (m.g (rCqBase r)) + 64 * tail
  let m := (m.ringSend (.hostWrite addr (w0 :: b ++ [check]) false)).ringSend (.hostMark (addr + 63) (0xAA + m.g (rCqPhase r)))
  let next := ringNext (m.g (rCqSize r)) tail
  let m := if next == 0 then m.p (rCqPhase r) (1 - m.g (rCqPhase r)) else m
  m.p (rCqTail r) next

/-- A completion entry has been written: the pending bit of the ring (R508, R542). -/
def Dev.cqPend (m : Dev) (r : Nat) : Dev := if r = 512 then m.event 43 0 else m.chanPend r 2

/-- A device-posted completion (R508, R509): dropped and counted when the ring is disabled or has no free entry. -/
def Dev.cqPost (m : Dev) (r kind tag status : Nat) (body : List Word) : Dev :=
  if m.on (rCqEnable r) && m.cqFree r != 0 then (m.cqWrite r kind tag status body).cqPend r
  else (m.incW (rCqDrops r)).event 37 1

/-! ### Tickets -/

/-- The thread that a ticket word names (R139): a channel's thread, or the service context of its clerk. The channel field
of a service context reads 0, and its slot Fh with a clerk's context; `svc` says which. -/
def Dev.ticketThread (m : Dev) (w : Word) : Nat :=
  let ch := bits w 62 54
  if (m.th ch).tickets.any (fun x => x.word == w) then ch else 512 + bits w 53 49

/-- The completion word of an engine's work (R141). -/
def completionWord (status engine result : Nat) : Word :=
  Word.of (at_ 71 64 status + at_ 63 56 engine + at_ 55 0 result)

/-- A ticket completes (R141, R142): its completion is kept for its thread, TICKET is latched, and with INTERRUPT the
channel's ticket pending bit is set (R138, R144, R540). A cancelled RECON_DEC drops its picture (R239), as cancelled encode
work does (R298); the unsent seams of a cancelled SEAM go as ABSENT (R381). -/
def Dev.complete (m : Dev) (e : QEntry) (status engine result : Nat) : Dev :=
  let c := completionWord status engine result
  let m := m.modTh e.t (fun x =>
    { x with tickets := x.tickets.map (fun k => if k.word == e.ticket then { k with done := some c } else k) })
  let m := m.onlyIf (status == 2) (fun m => { m with cancelCount := tmod (fun _ => 0) m.cancelCount e.t (· + 1) })
  let m := m.layerTicket e.ticket status
  let m := m.onlyIf (status == 2 && bits e.ticket 70 63 == 8) (fun m => m.dropPic e.t (bits (nthWord e.block 0) 51 20))
  let m := m.onlyIf (status == 2 && bits e.ticket 70 63 == 0x30) (fun m => m.seamCancelled e.t (bits (nthWord e.block 0) 59 28))
  let m := match encTag (bits e.ticket 70 63) (nthWord e.block 0) with
    | some tag => m.onlyIf (status == 2) (fun m => m.dropEnc e.t tag)
    | none => m
  let m := (m.latch e.t 0).wake (m.clusterOf e.t)
  if e.t < 512 && Nat.testBit e.flags 1 then m.chanPend e.t 0 else m

/-- The queues, in ascending order (R137). -/
def queueNumbers : List Nat := [0x00, 0x01, 0x02, 0x03, 0x08, 0x09, 0x10, 0x18, 0x20, 0x30, 0x38]

/-- The entries of a queue. -/
def Dev.queue (m : Dev) (q : Nat) : List QEntry := tget (fun _ => []) m.queues q

/-- Store the entries of a queue. -/
def Dev.setQueue (m : Dev) (q : Nat) (l : List QEntry) : Dev := { m with queues := tput (fun _ => []) m.queues q l }

/-- The work an engine instance runs; the key is kind × 64 + instance, kinds 0 entropy, 1 pipe, 2 search, 3 rate,
4 scaler, 5 seam mover; from 384 on the commands that the content engine has started, 256 for each drive. -/
def Dev.run (m : Dev) (key : Nat) : Option Run := tget (fun _ => none) m.running key

/-- Store the work of an engine instance. -/
def Dev.setRun (m : Dev) (key : Nat) (r : Option Run) : Dev :=
  { m with running := tput (fun _ => none) m.running key r }

/-- The key of started work that instances take in turns (R218, R264): by its place in the order of acceptance. -/
def workKey (order : Nat) : Nat := 65536 + order

/-- The work whose segment or band an instance has in progress: its place in the order of acceptance plus 1, 0 for none. -/
def Dev.seg (m : Dev) (key : Nat) : Nat := tget (fun _ => 0) m.segs key

/-- Set the segment in progress. -/
def Dev.setSeg (m : Dev) (key v : Nat) : Dev := { m with segs := tput (fun _ => 0) m.segs key v }

/-- The instances of a kind that have a segment or band of a thread's work of a queue in progress. -/
def Dev.slices (m : Dev) (kind q t : Nat) : Nat :=
  (m.segs.filter (fun e => e.1 / 64 == kind &&
    (match m.run (workKey (e.2 - 1)) with | some r => r.queue == q && r.e.t == t | none => false))).length

/-- The entropy engines that run a thread's work of two queues. -/
def Dev.entropyOf (m : Dev) (q1 q2 t : Nat) : Nat :=
  ((List.range 24).filter (fun k => match m.run k with | some r => (r.queue == q1 || r.queue == q2) && r.e.t == t | none => false)).length

/-- DEC_CHAN_PROGRESS and ENC_CHAN_PROGRESS show the instances that run a channel's work. -/
def Dev.showEngines (m : Dev) (n : Nat) : Dev :=
  if 512 ≤ n then m
  else
    let m := (m.p (DEC_CHAN_PROGRESS_ENGINES n) (m.entropyOf 0 1 n)).p (DEC_CHAN_PROGRESS_PIPES n) (m.slices 1 8 n)
    ((m.p (ENC_CHAN_PROGRESS_ENGINES n) (m.entropyOf 2 3 n)).p (ENC_CHAN_PROGRESS_PIPES n) (m.slices 1 9 n)).p
      (ENC_CHAN_PROGRESS_SEARCHERS n) (m.slices 2 0x10 n)

/-- The RESULT of work abandoned after it started, as far as it went (R660, with R235, R297, R347, R364, R523). -/
def Run.partly (r : Run) : Nat :=
  let top := at_ 55 40 r.rows
  let pipes := at_ 23 21 (bits (nthWord r.e.block 0) 54 52)
  if r.queue ≤ 3 then top + min r.n1 (2 ^ 32 - 1)
  else if r.queue = 8 then top + at_ 39 24 (min r.n2 65535) + pipes
  else if r.queue = 9 then top + at_ 31 24 r.n2 + pipes
  else if r.queue = 0x10 then top + min (r.n1 / 64) (2 ^ 32 - 1)
  else if r.queue = 0x30 then at_ 55 40 r.n1 + at_ 39 28 r.n2 + at_ 27 16 r.n3
  else if r.queue = 0x20 then top + min (r.n1 / 1024) (2 ^ 32 - 1)
  else if r.queue = 0x18 then 0 else top

/-- The LINES_DONE of the picture at a luma address, if the progress table lists it (R338). -/
def Dev.linesOf (m : Dev) (luma : Nat) : Option Nat := (m.progress.find? (fun e => e.luma == luma)).map (·.lines)

/-- The area of a picture that its slot holds. -/
def DecCtx.picArea (c : DecCtx) (p : DecPic) : Rect :=
  match c.region with
  | some g => g.area c.chroma p.info.width p.info.height g.me
  | none => (0, 0, p.info.width, p.info.height)

/-- The coding-tree size of the sequence in force. -/
def DecCtx.ctb (c : DecCtx) : Nat := match c.seq with | some q => max 1 q.ctb | none => 64

/-- The luma lines that r row tickets cover (R219). -/
def DecCtx.ticketLines (c : DecCtx) (p : DecPic) (rows : Nat) : Nat :=
  let a := c.picArea p
  let lag := match c.std with | 0 => 3 | 1 => 4 | 2 => 12 | _ => 16
  min (rectH a) ((a.2.1 / c.ctb + rows) * c.ctb - a.2.1) - lag

/-- The luma rows written of the picture that is being written at a luma address: LINES_DONE, or what the row tickets of a Live
reconstruction cover (R219, R338, R402); 0 for any other. -/
def Dev.rowsDone (m : Dev) (luma : Nat) : Nat :=
  match m.linesOf luma with
  | some n => n
  | none =>
    let at_luma := fun (r : Run) =>
      let grain := bits (nthWord r.e.block 3) 71 36
      r.queue == 8 && (if grain = 0 then bits (nthWord r.e.block 1) 71 36 else grain) == luma && decide (r.e.t < 512) && m.isLive r.e.t
    match m.running.find? (fun k => match k.2 with | some r => at_luma r | none => false) with
    | some (_, some r) =>
      (match (m.dec r.e.t).bind (fun c => (c.pic (bits (nthWord r.e.block 0) 51 20)).map (fun p => (c, p))) with
      | some (c, p) => if r.n3 = 1 then rectH (c.picArea p) else c.ticketLines p r.rows
      | none => 0)
    | _ => 0

/-- The rows complete, of its shown rectangle, of the picture that a layer record names (R402). -/
def Dev.recRows (m : Dev) (r : LayerRec) : Nat :=
  match r.pic with
  | some p => if r.ready then p.h else m.rowsDone p.luma - p.y0
  | none => 0

/-- An entry of the progress table is removed; when it was abandoned, the scaler work that reads its picture is marked with the
rows that were written, plus 1 (R338, R347). -/
def Dev.progressEnd (m : Dev) (writer : Nat) (abandoned : Bool) : Dev :=
  let gone := m.progress.filter (fun e => e.writer == writer)
  let m := { m with progress := m.progress.filter (fun e => e.writer != writer) }
  let m := gone.foldl (fun (m : Dev) (e : Progress) => m.layerWritten e.luma) m
  let mark := fun (r : Run) => match gone.find? (fun e => r.queue == 0x20 && e.luma + 1 == r.n2) with | some e => { r with n3 := e.lines + 1 } | none => r
  if abandoned then { m with running := m.running.map (fun k => (k.1, k.2.map mark)) } else m

/-- Started work is abandoned: its ticket completes CANCELLED (R156, R660), and the progress entry of a scaler command is
abandoned (R348). -/
def Dev.abandonRun (m : Dev) (key : Nat) (r : Run) : Dev :=
  ((if r.queue = 0x20 then (m.setRun key none).progressEnd (64 + r.e.order) true else m.setRun key none).complete r.e 2 (if key < 65536 then key % 64 else r.inst) r.partly).showEngines r.e.t

/-- Does queue q hold or run work of channel n? -/
def Dev.queueBusy (m : Dev) (q n : Nat) : Bool :=
  (m.queue q).any (fun e => e.t == n) ||
    m.running.any (fun k => match k.2 with | some r => r.queue == q && r.e.t == n | none => false)

/-- Does a queue hold or run work of thread t that a test on the first block word takes? -/
def Dev.hasWork (m : Dev) (q t : Nat) (f : Word → Bool) : Bool :=
  (m.queue q).any (fun e => e.t == t && f (nthWord e.block 0)) ||
    m.running.any (fun k => match k.2 with | some r => r.queue == q && r.e.t == t && f (nthWord r.e.block 0) | none => false)

/-- Does a block's PIC_TAG field at [hi:lo] hold the tag? -/
def tagIs (hi lo tag : Nat) (w : Word) : Bool := bits w hi lo == tag

/-- Is work between its segments, bands or messages, so that it stands at a boundary (R156)? -/
def Dev.between (m : Dev) (key : Nat) : Bool := decide (65536 ≤ key) && !m.segs.any (fun e => workKey e.2 == key + 1)

/-- DRAINC's visit of one queue (R156): commands not started are removed and complete CANCELLED with ENGINE FFh (R660);
started ones are to be abandoned at their next row boundary. Answers how many were removed. -/
def Dev.cancelQueue (m : Dev) (q n : Nat) : Dev × Nat :=
  let gone := (m.queue q).filter (fun e => e.t == n)
  let m := m.setQueue q ((m.queue q).filter (fun e => e.t != n))
  let m := gone.foldl (fun m e => m.complete e 2 0xFF 0) m
  let m := m.running.foldl (fun m k => match k.2 with
    | some r => if r.queue == q && r.e.t == n then
        (if m.between k.1 then m.abandonRun k.1 r else m.setRun k.1 (some { r with abandon := true })) else m
    | none => m) m
  (m, gone.length)

/-- Cancel the engine work of a channel on every queue (R156, R612). -/
def Dev.cancelAll (m : Dev) (n : Nat) : Dev := queueNumbers.foldl (fun m q => (m.cancelQueue q n).1) m

end Sys2Proof.Machine
end

