-- ==== Sys2Proof/Machine/Fault.lean ====
section
/-!
DEFINITION. Machine/Fault.lean: fault collection: codes and classes (R604, R605), the daybook (R606, R607), FAULT_N
(R608), the escalation ladder (R610, R611), channel isolation (R612), cluster reset (R613) and the device halt (R614).
-/

namespace Sys2Proof.Machine

/-- The class of a fault code (R605): 0 RECORD, 1 WARN, 2 CHANNEL, 3 CLUSTER, 4 DEVICE, 5 HALT. -/
def faultClass (code : Nat) : Nat :=
  if code = 0x08 ∨ code = 0x3E then 0
  else if code = 0x10 then 2
  else if code = 0x18 ∨ code = 0x19 ∨ code = 0x1A then 3
  else if code = 0x02 ∨ code = 0x04 then 4
  else if code = 0x03 ∨ code = 0x23 ∨ code = 0x28 ∨ code = 0x3F then 5
  else 1

/-- The event word of a daybook entry (R606). -/
def eventWord (code cls seq kind subj detail : Nat) : Word :=
  Word.of (at_ 71 64 code + at_ 63 61 cls + at_ 60 45 seq + at_ 44 41 kind + at_ 40 28 subj + at_ 27 0 detail)

/-- Write a daybook entry and answer its SEQ (R606): the time word before the event word. -/
def Dev.daybook (m : Dev) (code kind subj detail : Nat) : Dev × Nat :=
  let seq := m.faultSeq
  let m := m.wr (DAYBOOK_TIME_addr (seq % 64)) (timeWord m.now)
  let m := m.wr (DAYBOOK_EVENT_addr (seq % 64)) (eventWord code (faultClass code) seq kind subj detail)
  let m := (m.p FAULT_STATUS_LAST_SEQ seq).incW FAULT_COUNTS_EVENTS
  ({ m with faultSeq := (seq + 1) % 65536 }, seq)

/-- FAULT_N driven low by a report, for at least 10 µs, with FN_HOLD under AUTO_HOLD (R608). -/
def Dev.faultLow (m : Dev) : Dev :=
  let m := { m with fnPulse := true }.p FAULT_STATUS_FAULT_N_LOW 1
  if m.on FAULT_CTRL_AUTO_HOLD then m.p FAULT_CTRL_FN_HOLD 1 else m

/-- Does a RECORD or WARN report equal an entry written within the previous 10 ms (R607)? -/
def Dev.recentEntry (m : Dev) (code subj detail : Nat) : Bool :=
  (List.range 64).any (fun j =>
    let e := m.rd (DAYBOOK_EVENT_addr j)
    bits e 71 64 == code && bits e 40 28 == subj && bits e 27 0 == detail &&
      decide (m.now < timeNs (m.rd (DAYBOOK_TIME_addr j)) + 10000000))

/-- The escalation in an entry of FAULT_OPEN. -/
def Dev.escAt (m : Dev) (k : Nat) : Option Esc := tget (fun _ => none) m.esc k

/-- Store an escalation entry, and keep FAULT_OPEN and OPEN with it (R610). -/
def Dev.setEsc (m : Dev) (k : Nat) (e : Option Esc) : Dev :=
  let m := { m with esc := tput (fun _ => none) m.esc k e }
  let w : Word := match e with
    | none => 0
    | some x => Word.of (2 ^ 71 + at_ 70 55 x.seq + at_ 54 47 x.code + at_ 46 44 x.rung + at_ 43 32 x.repeats)
  let m := m.wr (FAULT_OPEN_addr k) w
  m.p FAULT_STATUS_OPEN (((List.range 16).filter (fun i => (m.escAt i).isSome)).length)

/-- The open escalation that a report equals in CODE and SUBJECT (R607). -/
def Dev.escMatch (m : Dev) (code subj : Nat) : Option Nat :=
  (List.range 16).find? (fun k => match m.escAt k with | some x => x.code == code && x.subj == subj | none => false)

/-- A free entry of FAULT_OPEN. -/
def Dev.escFree (m : Dev) : Option Nat := (List.range 16).find? (fun k => (m.escAt k).isNone)

/-- The grace time in ns (R610). -/
def Dev.graceNs (m : Dev) : Nat := 1000000 * max 1 (min 4000 (m.g FAULT_CTRL_GRACE_MS))

/-- The TOP rung of an escalating class; 5–7 act as 4, and HALT_TOP below 2 acts as 2 (R610). -/
def Dev.escTop (m : Dev) (cls : Nat) : Nat :=
  let v := if cls = 2 then m.g FAULT_ESC_CHANNEL_TOP else if cls = 3 then m.g FAULT_ESC_CLUSTER_TOP
    else if cls = 4 then m.g FAULT_ESC_DEVICE_TOP else max 2 (m.g FAULT_ESC_HALT_TOP)
  min 4 v

/-- The first rung of a class (R604). -/
def firstRung (cls : Nat) : Nat := if cls = 2 ∨ cls = 3 then 1 else 2

/-- The thread of a channel enters ISOLATED with its completion posted, unless it is EMPTY or there already (R112, R612). -/
def Dev.isolateThread (m : Dev) (n first second : Nat) : Dev :=
  let x := m.th n
  if x.st == .empty || x.st == .isolated then m
  else
    let m := m.setTh n { x with st := .isolated, wait := none }
    if n < 512 then
      m.cqPost n 5 0 0 [Word.of (first % 64), Word.of (second % 64)]
    else m

/-- Rung 1 on a channel (R612); its step 4 is `State.channelGone`, which every caller applies. -/
def Dev.isolateChannel (m : Dev) (n : Nat) : Dev :=
  if (m.th n).st == .empty then m else
  let m := m.isolateThread n (m.g DOLRY_DTRAP_FIRST_CAUSE) (m.g DOLRY_DTRAP_SECOND_CAUSE)
  let m := m.cancelAll n
  { m with ringOff := sinsert m.ringOff n }

/-- The firmware service entry that a service context restarts at (R613). The spec names it without an address: a free
value (log entry 2). -/
def Dev.serviceEntry (m : Dev) : Nat := m.free.toNat % 2 ^ 24

/-- The initial TSW of a service context: firmware privilege, class 11b, its clerk, slot Fh (R80, R82). -/
def svcTsw (c : Nat) : Word := Word.of (2 ^ 47 + 3 * 2 ^ 45 + at_ 16 12 c + 15 * 2 ^ 8)

/-- The service contexts of a cluster start at the firmware service entry (R82, R613). -/
def Dev.startServices (m : Dev) (k : Nat) : Dev :=
  (svcOf k).foldl (fun m t =>
    let e := m.serviceEntry
    (m.setTh t { st := .ready, tsw := svcTsw (t - 512), pc := e, latch := (m.th t).latch }).freeNext) m

/-- Rung 1 on a cluster: its service contexts restart, its mailbox sides are reset (R613). -/
def Dev.resetCluster (m : Dev) (k : Nat) : Dev := (m.startServices k).resetSidesOf (2 + k)

/-- What a halt does once it starts (R614): STATE, HALT pending, ring fetching stopped, DEPART, HOLD on the lamps, the
drives' reset outputs low (R524), and the halt counted (R437, R439). -/
def Dev.haltStart (m : Dev) (seq code : Nat) : Dev :=
  if m.halted then m else
  let m := (m.p FAULT_STATUS_HALT_SEQ seq).p FAULT_STATUS_HALT_CODE code
  let m := if m.on FAULT_PEND_HALT then m else (m.p FAULT_PEND_HALT 1).haltEdge
  let m := m.departAll
  let m := m.holdAll
  let m := m.each 4 (fun d m => m.send (.drivePerst d false))
  let m := (m.incS LIFE_COUNTS_HALTS).incS CALENDAR_STATUS_HALT_CARRY
  { m.p FAULT_STATUS_STATE 2 with ringStop := true }

/-- Take a rung for an escalated report (R610): the RUNG entry, ESCALATED, FAULT_N, and the rung's action. Rungs 3 and 4
reset the device and are completed by the command that takes them. -/
def Dev.takeRung (m : Dev) (x : Esc) (rung : Nat) : Dev :=
  let wasHalted := m.halted
  let m := (m.daybook 0x3E x.kind x.subj (at_ 27 12 x.seq + at_ 2 0 rung)).1
  let m := ((m.incW FAULT_COUNTS_RUNGS).event 40 1).faultLow
  if rung = 1 then
    if wasHalted then m else if x.cls = 2 then m.isolateChannel x.subj else m.resetCluster (x.subj / 4)
  else if rung = 2 then m.haltStart x.seq x.code
  else m

/-- Open an escalation in a free entry (R610, R611). -/
def Dev.openEsc (m : Dev) (x : Esc) : Dev :=
  match m.escFree with
  | some k => m.setEsc k (some { x with deadline := (m.now + m.graceNs) })
  | none => { m with escWait := m.escWait ++ [⟨x.seq, x.code, x.cls, x.kind, x.subj, x.rung⟩] }

/-- A free entry goes to the first report that waits for one (R611). -/
def Dev.admitEsc (m : Dev) : Dev :=
  match m.escWait, m.escFree with
  | w :: r, some k =>
    { m with escWait := r }.setEsc k (some ⟨w.seq, w.code, w.cls, w.kind, w.subj, w.rung, 0, m.now + m.graceNs⟩)
  | _, _ => m

/-- What a written report starts (R610, R611). -/
def Dev.escalate (m : Dev) (cls : Nat) (x : Esc) : Dev :=
  if cls < 2 then m
  else if cls = 5 then
    if m.halted then m else
    let m := m.takeRung x 2
    if m.escTop 5 = 2 then m else m.openEsc { x with rung := 2 }
  else if m.escTop cls < firstRung cls then m
  else match m.escFree with
    | some _ => m.openEsc x
    | none =>
      let m := (m.takeRung x (firstRung cls)).incW FAULT_COUNTS_OPEN_FULL
      if firstRung cls < m.escTop cls then m.openEsc { x with rung := firstRung cls } else m

/-- A fault report (R604–R610): counted as a repeat, or written, signalled and escalated. -/
def Dev.report (m : Dev) (code kind subj detail : Nat) : Dev :=
  let cls := faultClass code
  match m.escMatch code subj with
  | some k =>
    match m.escAt k with
    | some x => (m.setEsc k (some { x with repeats := min 4095 (x.repeats + 1) })).incW FAULT_COUNTS_REPEATS
    | none => m
  | none =>
    if cls < 2 && m.recentEntry code subj detail then m.incW FAULT_COUNTS_REPEATS
    else
      let (m, seq) := m.daybook code kind subj detail
      let m := if 1 ≤ cls then (m.event 40 0).faultLow else m
      m.escalate cls ⟨seq, code, cls, kind, subj, 0, 0, 0⟩

/-- A fabric event (R605, R609): its W1C bit, the FABRIC pending bit, and a report of code 30h + bit. -/
def Dev.fabricEvent (m : Dev) (bit : Nat) : Dev :=
  let m := m.p ⟨FAB_EVENTS_addr, bit, bit⟩ 1
  (m.event 40 3).report (0x30 + bit) 0 0 bit

/-- Close every open escalation (R611, R615). -/
def Dev.closeAllEsc (m : Dev) : Dev := { (m.each 16 (fun k m => m.setEsc k none)) with escWait := [] }

end Sys2Proof.Machine
end

