-- ==== Sys2Proof/Machine/Dram.lean ====
section
/-!
DEFINITION. Machine/Dram.lean: the DRAM controllers' view of a write: the protections of R92, R414 and R436 (R472), and
the metadata of an enabled pool (R480); the extent and the channel of a DRAM word (R93, R465); who may reach a vault
bank (R451, R458).
-/

namespace Sys2Proof.Machine

/-! ### Addresses -/

/-- The DRAM word address of program word p (R90); the low 24 bits of PROG_BASE act as zero. -/
def Dev.progAddr (m : Dev) (p : Nat) : Nat := m.g DOLRY_SPACE_PROG_BASE / 16777216 * 16777216 + p % 16777216

/-- Installed DRAM words: the DRAM_BOUNDS limit of R93. -/
def Dev.capacity (m : Dev) : Nat := m.g DRAM_CONFIG_CAPACITY

/-- The DRAM channel of a word address (R465). -/
def dramChannel (a : Nat) : Nat :=
  let g := a / 32
  Nat.xor (Nat.xor (g % 8) (g / 32 % 8)) (g / 1024 % 8)

/-- The first word of a configured lamp's record, and its number of words (R44). -/
def Dev.lampRegion (m : Dev) : Nat × Nat := (m.g LAMP_RECORDS_LAMP_BASE, 4 * m.g LAMP_RECORDS_LAMPS)

/-- Is an address in the range [base, base + n)? -/
def inRange (a base n : Nat) : Bool := decide (base ≤ a) && decide (a < base + n)

/-- Do two ranges of words overlap? -/
def overlaps (b1 n1 b2 n2 : Nat) : Bool := decide (0 < n1) && decide (0 < n2) && decide (b1 < b2 + n2) && decide (b2 < b1 + n1)

/-! ### Who writes DRAM -/

/-- The writers the protections tell apart: a register master's code (R27), the calibration updater, the ledger writer with
LEDGER_CMD, the pool manager, and the other parts of the device. -/
inductive Writer where
  | master (code : Nat)
  | updater
  | ledger
  | poolManager
  | device
  deriving DecidableEq, Repr

/-- The master code that a PROG_WRITE report names (R605); the device's own writers act for the host's code 0. -/
def Writer.code : Writer → Nat
  | .master c => c
  | _ => 0

/-- Is a write of a program word discarded (R92)? -/
def Dev.progLocked (m : Dev) (w : Writer) (a : Nat) : Bool :=
  m.on DOLRY_SPACE_LOCK && inRange a (m.progAddr 0) 0x100000 && decide (w ≠ .master 0xB)

/-- Is a write of a lamp record discarded (R414, R436)? -/
def Dev.recordLocked (m : Dev) (w : Writer) (a : Nat) : Bool :=
  let r := m.lampRegion
  inRange a r.1 r.2 &&
    (if (a - r.1) % 4 = 3 then m.on LEDGER_CTRL_ENABLE && decide (w ≠ .ledger)
     else m.on LAMP_RECORDS_LOCK && decide (w ≠ .updater))

/-- The pool whose metadata holds an address, among the enabled pools (R477). -/
def Dev.metaPool (m : Dev) (a : Nat) : Option Nat :=
  (List.range 16).find? (fun p => m.on (POOL_CFG_A_ENABLE p) &&
    inRange a (m.g (POOL_CFG_B_META_BASE p)) (2 * m.g (POOL_CFG_B_COUNT p)))

/-- A write of one DRAM word: discarded with its count or its report under a protection (R92, R414, R436, R472); one into
the metadata of an enabled pool by another writer leaves that pool's records undefined (R480). -/
def State.store (s : State) (w : Writer) (a : Nat) (v : Word) (bad : Bool) : State :=
  if s.m.progLocked w a then s.onM (fun m => m.report 0x08 0 w.code (a % 268435456))
  else if s.m.recordLocked w a then s.onM (fun m => m.incW CAL_STATUS_WRITE_DROPS)
  else
    let s := { s with mem := s.mem.putDram a v bad }
    match s.m.metaPool a with
    | some p => if w = .poolManager then s else s.onM (fun m => { m with poolUndef := sinsert m.poolUndef p })
    | none => s

/-- Write words at rising addresses, each with its poison mark. -/
def State.stores (s : State) (w : Writer) (a : Nat) : List (Word × Bool) → State
  | [] => s
  | (v, b) :: r => (s.store w a v b).stores w (a + 1) r

/-- Words that are not poisoned. -/
def clean (ws : List Word) : List (Word × Bool) := ws.map (fun v => (v, false))

/-- The n DRAM words from an address on, each with its poison mark. -/
def State.loads (s : State) (a n : Nat) : List (Word × Bool) :=
  (List.range n).map (fun i => (s.dram (a + i), s.dramPoison (a + i)))

/-! ### Vault banks -/

/-- Is the power domain of a bank on (R458)? -/
def Dev.domainOn (m : Dev) (b : Nat) : Bool := Nat.testBit (m.g VAULT_POWER_DOMAIN_ON) (b / 16)

/-- May an agent with this owner code access the bank (R451, R458)? -/
def Dev.bankOpen (m : Dev) (b code : Nat) : Bool :=
  decide (b < 192) && m.domainOn b && m.g (VAULT_OWNER_OWNER b) == code

/-- The codes that may own a bank (R147). -/
def ownerCode (c : Nat) : Bool :=
  let k := c / 256
  let j := c % 256
  if k = 0 then decide (j < 8) else if k = 1 then decide (j < 24) else if k = 2 then decide (j < 8)
  else if k = 3 ∨ k = 4 then decide (j < 4) else if k = 5 then decide (j < 2)
  else if k = 6 ∨ k = 7 ∨ k = 8 then j == 0 else false

/-- A write of one vault word. -/
def State.vaultStore (s : State) (a : Nat) (v : Word) (bad : Bool) : State := { s with mem := s.mem.putVault a v bad }

/-- The check of a vault word that is read (R457): a single-bit error is counted, and the corrected word written back; one
that the code cannot correct is counted, recorded and set in VAULT_EVENTS, and the word is left as found. -/
def State.vaultCheck (s : State) (a : Nat) : State :=
  match s.vaultErr a with
  | 0 => s
  | 1 => { s with mem := s.mem.putVaultErr a 0, m := s.m.incS VAULT_ERRORS_CE_COUNT }
  | _ => s.onM (fun m => (((m.incS VAULT_ERRORS_UE_COUNT).p VAULT_ERRORS_LAST_UE_BANK (a / 32768)).p VAULT_ERRORS_LAST_UE_OFFSET (a % 32768)).event 34 3)

/-- What an engine, the DMA engine or the host receives of a vault word (R457): its value, and whether it comes poisoned. -/
def State.vaultRead (s : State) (a : Nat) : Word × Bool := (s.vault a, s.vaultPoison a || decide (2 ≤ s.vaultErr a))

end Sys2Proof.Machine
end

