-- ==== Sys2Proof/Machine/Pools.lean ====
section
/-!
DEFINITION. Machine/Pools.lean: the buffer pools (R477–R486): the buffer table in DRAM, takes along the fallback chain,
returns, passes, holds and RECLAIM, and the meanings of the pool commands that no gate makes. The free ring keeps its
order in `poolRing` as ranges of buffer numbers, oldest first; its image in DRAM is internal to the pool manager (R477).
-/

namespace Sys2Proof.Machine

/-! ### The buffer table -/

/-- Words per buffer of a class (R477). -/
def classSize : Nat → Nat
  | 1 => 512 | 2 => 4096 | 3 => 32768 | 4 => 262144 | 5 => 8388608 | _ => 0

def Dev.poolSize (m : Dev) (p : Nat) : Nat := classSize (m.g (POOL_CFG_A_CLASS p))
def Dev.poolCount (m : Dev) (p : Nat) : Nat := m.g (POOL_CFG_B_COUNT p)
def Dev.poolMeta (m : Dev) (p : Nat) : Nat := m.g (POOL_CFG_B_META_BASE p)

/-- A record of the buffer table (R480): state 0 FREE, 1 TAKEN, 2 RETURNING. -/
structure BufRec where
  st : Nat
  owner : Nat
  holds : Nat
  gen : Nat
  deriving DecidableEq, Repr

/-- A table word as a record (R480). -/
def bufRec (w : Word) : BufRec := ⟨bits w 71 70, bits w 69 60, bits w 59 48, bits w 47 32⟩

/-- A record as a table word (R480). -/
def bufWord (r : BufRec) : Word := Word.of (at_ 71 70 r.st + at_ 69 60 r.owner + at_ 59 48 r.holds + at_ 47 32 r.gen)

/-- The record of buffer k of pool p: the table word, or a free value where software has written the metadata of the pool
(R480; log entry 2). -/
def State.buf (s : State) (p k : Nat) : BufRec :=
  if smem s.m.poolUndef p then bufRec (Config.freeValue (s.m.freeCtr + k)) else bufRec (s.dram (s.m.poolMeta p + k))

/-- Write the record of a buffer. -/
def State.setBuf (s : State) (p k : Nat) (r : BufRec) : State := s.store .poolManager (s.m.poolMeta p + k) (bufWord r) false

/-- The handle of a buffer with a generation (R479). -/
def Dev.handle (m : Dev) (p k gen : Nat) : Word :=
  Word.of (at_ 71 36 (m.g (POOL_CFG_A_BASE p) + k * m.poolSize p) + at_ 35 32 p
    + at_ 31 29 (m.g (POOL_CFG_A_CLASS p)) + at_ 15 0 gen)

/-- The buffer of an enabled pool that holds a DRAM address: pool and number. -/
def Dev.bufferAt (m : Dev) (a : Nat) : Option (Nat × Nat) :=
  match (List.range 16).find? (fun p => m.on (POOL_CFG_A_ENABLE p) &&
      inRange a (m.g (POOL_CFG_A_BASE p)) (m.poolCount p * m.poolSize p)) with
  | some p => some (p, (a - m.g (POOL_CFG_A_BASE p)) / m.poolSize p)
  | none => none

/-- Does the range [a, a + n) lie wholly inside one pool buffer of an owner (R94)? -/
def State.owns (s : State) (owner a n : Nat) : Bool :=
  match s.m.bufferAt a with
  | some (p, k) =>
    decide (a + n ≤ s.m.g (POOL_CFG_A_BASE p) + (k + 1) * s.m.poolSize p) && (s.buf p k).owner == owner
  | none => false

/-! ### The free ring -/

/-- The ring of a pool: ranges of buffer numbers, oldest first. -/
def Dev.ring (m : Dev) (p : Nat) : List (Nat × Nat) := tget (fun _ => []) m.poolRing p

/-- Store the ring. -/
def Dev.setRing (m : Dev) (p : Nat) (l : List (Nat × Nat)) : Dev := { m with poolRing := tput (fun _ => []) m.poolRing p l }

/-- Put FREE at a number; once STATE is ON, LOW_MARK keeps the least (R478). The cache holds between 0 and 64 handles, how
many is the pool manager's own (R482): a free value. -/
def Dev.setFree (m : Dev) (p n : Nat) : Dev :=
  let m := m.p (POOL_STATUS_FREE p) n
  let m := (m.p (POOL_STATUS_CACHED p) (m.free.toNat % 65)).freeNext
  if m.g (POOL_STATUS_STATE p) = 2 then m.p (POOL_STATUS_LOW_MARK p) (min n (m.g (POOL_STATUS_LOW_MARK p))) else m

/-- A buffer becomes FREE with GEN + 1 and joins the tail of its ring (R483). -/
def State.bufFree (s : State) (p k : Nat) (r : BufRec) : State :=
  (s.setBuf p k ⟨0, 0x3FF, 0, r.gen + 1⟩).onM (fun m =>
    (m.setRing p (m.ring p ++ [(k, k)])).setFree p (m.g (POOL_STATUS_FREE p) + 1))

/-! ### Takes -/

/-- The pool of a chain that serves a take: at most four fallback steps (R478, R481). -/
def Dev.servePool (m : Dev) (noFb : Bool) : Nat → Nat → Option Nat
  | 0, _ => none
  | fuel + 1, p =>
    let st := m.g (POOL_STATUS_STATE p)
    if st = 1 ∨ st = 2 then
      if !(m.ring p).isEmpty then some p
      else if m.on (POOL_CFG_A_FB_EN p) && !noFb then m.servePool noFb fuel (m.g (POOL_CFG_A_FALLBACK p)) else none
    else none

/-- The buffer taken next from a ring, with the ring left. -/
def ringTake : List (Nat × Nat) → Nat × List (Nat × Nat)
  | [] => (0, [])
  | (lo, hi) :: r => (lo, if lo < hi then (lo + 1, hi) :: r else r)

/-- A take from a named pool for an owner (R481): the handle, or zero with EMPTIES and POOL_EMPTY. -/
def State.poolTake (s : State) (p owner : Nat) (noFb : Bool) : State × Word :=
  match s.m.servePool noFb 5 p with
  | some q =>
    let t := ringTake (s.m.ring q)
    let k := if smem s.m.poolUndef q then s.m.free.toNat % (s.m.poolCount q) else t.1
    let r := s.buf q k
    let s := s.onM (fun m => ((m.setRing q t.2).setFree q (m.g (POOL_STATUS_FREE q) - 1)).onlyIf (q != p)
      (fun m => m.incW (POOL_COUNTS_FALLBACKS p)))
    ((s.setBuf q k { r with st := 1, owner := owner }), s.m.handle q k r.gen)
  | none => (s.onM (fun m => (m.incW (POOL_COUNTS_EMPTIES p)).event 36 2), 0)

/-! ### Returns and passes -/

/-- The buffer number that a handle names in its pool, if checks 1 of R485 pass. -/
def Dev.handleBuf (m : Dev) (h : Word) : Option Nat :=
  let p := bits h 35 32
  let a := bits h 71 36
  let base := m.g (POOL_CFG_A_BASE p)
  let size := m.poolSize p
  if m.on (POOL_CFG_A_ENABLE p) && bits h 31 29 == m.g (POOL_CFG_A_CLASS p) && bits h 28 16 == 0 &&
      inRange a base (m.poolCount p * size) && (a - base) % size == 0 then some ((a - base) / size) else none

/-- The refusal of a new owner (R484). -/
def Dev.badOwner (m : Dev) (o : Nat) : Bool :=
  decide (0x202 ≤ o) || (decide (o < 512) && (m.th o).st == .empty)

/-- The reason a return or pass is refused (R485), 0 for none, with the buffer. -/
def State.putCheck (s : State) (h : Word) (caller : Nat) (newOwner : Option Nat) : Nat × Nat :=
  match s.m.handleBuf h with
  | none => (1, 0)
  | some k =>
    let r := s.buf (bits h 35 32) k
    if r.gen != bits h 15 0 || r.st != 1 then (2, k)
    else if r.owner != caller then (3, k)
    else match newOwner with
      | some o => if s.m.badOwner o then (3, k) else (0, k)
      | none => (0, k)

/-- A refusal is counted, signalled and recorded (R485). -/
def Dev.badPut (m : Dev) (h : Word) (caller reason : Nat) : Dev :=
  let m := (m.incW (POOL_COUNTS_BAD_PUTS (bits h 35 32))).event 36 3
  m.wr POOL_BAD_addr (Word.of (at_ 71 36 (bits h 71 36) + at_ 35 26 caller + at_ 25 22 reason + at_ 21 6 (bits h 15 0)))

/-- A buffer that passed the checks is returned (R483): FREE at once without holds, else RETURNING. -/
def State.bufReturn (s : State) (p k : Nat) : State :=
  let r := s.buf p k
  if r.holds = 0 then s.bufFree p k r else s.setBuf p k { r with st := 2, owner := 0x3FF }

/-- A return (R483, R485), with the reason of a refusal or 0. -/
def State.poolPut (s : State) (h : Word) (caller : Nat) : State × Nat :=
  let c := s.putCheck h caller none
  if c.1 = 0 then (s.bufReturn (bits h 35 32) c.2, 0) else (s.onM (fun m => m.badPut h caller c.1), c.1)

/-- A pass to a new owner (R484, R485), with the reason of a refusal or 0. -/
def State.poolPass (s : State) (h : Word) (caller newOwner : Nat) : State × Nat :=
  let c := s.putCheck h caller (some newOwner)
  let p := bits h 35 32
  if c.1 = 0 then (s.setBuf p c.2 { s.buf p c.2 with owner := newOwner }, 0)
  else (s.onM (fun m => m.badPut h caller c.1), c.1)

/-! ### Holds -/

/-- Does the buffer at an address have HOLDS at 4,095, so that a taker waits (R483)? -/
def State.holdFull (s : State) (a : Nat) : Bool :=
  match s.m.bufferAt a with
  | some (p, k) => (s.buf p k).holds == 4095
  | none => false

/-- Take a hold on the buffer at an address (R483); none outside a pool or on a FREE buffer. -/
def State.hold (s : State) (a : Nat) : State :=
  match s.m.bufferAt a with
  | some (p, k) =>
    let r := s.buf p k
    if r.st = 0 then s else s.setBuf p k { r with holds := min 4095 (r.holds + 1) }
  | none => s

/-- End a hold; the last one frees a RETURNING buffer (R43, R483). -/
def State.unhold (s : State) (a : Nat) : State :=
  match s.m.bufferAt a with
  | some (p, k) =>
    let r := s.buf p k
    if r.holds = 0 then s
    else if r.holds = 1 ∧ r.st = 2 then s.bufFree p k r else s.setBuf p k { r with holds := r.holds - 1 }
  | none => s

/-- Take holds on a list of addresses. -/
def State.holdAll (s : State) (l : List Nat) : State := l.foldl (fun s a => s.hold a) s

/-- End holds on a list of addresses. -/
def State.unholdAll (s : State) (l : List Nat) : State := l.foldl (fun s a => s.unhold a) s

/-! ### Enabling and disabling -/

/-- Does the range overlap an enabled pool, program space or the lamp records (R478 check 3)? -/
def Dev.regionTaken (m : Dev) (p base n : Nat) : Bool :=
  overlaps base n (m.progAddr 0) 16777216 || overlaps base n m.lampRegion.1 m.lampRegion.2 ||
    (List.range 16).any (fun q => q != p && m.on (POOL_CFG_A_ENABLE q) &&
      (overlaps base n (m.g (POOL_CFG_A_BASE q)) (m.poolCount q * m.poolSize q) ||
        overlaps base n (m.poolMeta q) (2 * m.poolCount q)))

/-- The first failing check of R478, 0 for none. -/
def Dev.poolCheck (m : Dev) (p : Nat) : Nat :=
  let c := m.g (POOL_CFG_A_CLASS p)
  let count := m.poolCount p
  let base := m.g (POOL_CFG_A_BASE p)
  let n := count * m.poolSize p
  let mb := m.poolMeta p
  let fb := m.g (POOL_CFG_A_FALLBACK p)
  if c < 1 ∨ 5 < c ∨ count < 1 ∨ 2 ^ 26 - 1 < count then 1
  else if base % 512 ≠ 0 ∨ mb % 512 ≠ 0 ∨ m.capacity < base + n ∨ m.capacity < mb + 2 * count then 2
  else if overlaps base n mb (2 * count) || m.regionTaken p base n || m.regionTaken p mb (2 * count) then 3
  else if m.on (POOL_CFG_A_FB_EN p) &&
      !(m.on (POOL_CFG_A_ENABLE fb) && decide (c < m.g (POOL_CFG_A_CLASS fb))) then 4
  else 0

/-- ENABLE of a pool set from 0 to 1 (R478): INIT begins, or REFUSED with the reason. -/
def Dev.poolOn (m : Dev) (p : Nat) : Dev :=
  let r := m.poolCheck p
  if r = 0 then
    let m := ((m.p (POOL_CFG_A_ENABLE p) 1).p (POOL_STATUS_STATE p) 1).p (POOL_STATUS_REASON p) 0
    let m := ((m.p (POOL_STATUS_FREE p) 0).p (POOL_STATUS_LOW_MARK p) 0).setRing p []
    { m with poolPlaced := tput (fun _ => 0) m.poolPlaced p 0, poolUndef := sremove m.poolUndef p }
  else (m.p (POOL_STATUS_STATE p) 3).p (POOL_STATUS_REASON p) r

/-- ENABLE of a pool cleared (R478): accepted only while FREE = COUNT. -/
def Dev.poolOff (m : Dev) (p : Nat) : Dev :=
  if m.g (POOL_STATUS_FREE p) = m.poolCount p then
    (((m.p (POOL_CFG_A_ENABLE p) 0).p (POOL_STATUS_STATE p) 0).p (POOL_STATUS_FREE p) 0).setRing p []
  else m

/-- A write of POOL_CFG_A (R478). -/
def Dev.poolCfgA (m : Dev) (p : Nat) (v : Word) : Dev :=
  if m.on (POOL_CFG_A_ENABLE p) then (if bits v 27 27 = 0 then m.poolOff p else m)
  else
    let m := (((m.p (POOL_CFG_A_BASE p) (bits v 71 36)).p (POOL_CFG_A_CLASS p) (bits v 35 33)).p
      (POOL_CFG_A_FALLBACK p) (bits v 32 29)).p (POOL_CFG_A_FB_EN p) (bits v 28 28)
    if bits v 27 27 = 1 then m.poolOn p else m

/-- A write of POOL_CFG_B (R478): ignored while ENABLE = 1. -/
def Dev.poolCfgB (m : Dev) (p : Nat) (v : Word) : Dev :=
  if m.on (POOL_CFG_A_ENABLE p) then m
  else (m.p (POOL_CFG_B_COUNT p) (bits v 71 46)).p (POOL_CFG_B_META_BASE p) (bits v 45 10)

/-- Write the table words of buffers lo … lo + n − 1 FREE with GEN 0 (R478). -/
def State.initTable (s : State) (p : Nat) : Nat → Nat → State
  | _, 0 => s
  | lo, n + 1 => (s.setBuf p lo ⟨0, 0x3FF, 0, 0⟩).initTable p (lo + 1) n

/-- Initialisation of a pool reaches `upTo` buffers (R478); at COUNT it ends, and STATE reads ON. -/
def State.poolInit (s : State) (p upTo : Nat) : State :=
  let c := s.m.poolCount p
  let old := tget (fun _ => 0) s.m.poolPlaced p
  let new := max old (min upTo c)
  if decide (p < 16) && s.m.g (POOL_STATUS_STATE p) == 1 then
    (s.initTable p old (new - old)).onM (fun m =>
      let m := { m with poolPlaced := tput (fun _ => 0) m.poolPlaced p new }
      let m := if old < new then (m.setRing p (m.ring p ++ [(old, new - 1)])).setFree p (m.g (POOL_STATUS_FREE p) + (new - old)) else m
      if new = c then (m.p (POOL_STATUS_STATE p) 2).p (POOL_STATUS_LOW_MARK p) (m.g (POOL_STATUS_FREE p)) else m)
  else s

/-! ### Commands of the host -/

/-- The owner code that a master acts under (R481, R485): 200h the host, 201h a clerk thread at firmware privilege or the
boot master. -/
def ownerOf (mst : Nat) : Nat := if mst = 0 then 0x200 else 0x201

/-- The result of a host pool command. -/
def Dev.poolResult (m : Dev) (status reason : Nat) : Dev :=
  (m.p POOL_HOST_STATUS_RESULT status).p POOL_HOST_STATUS_REASON reason

/-- RECLAIM for a channel (R486): refused while the channel is not EMPTY. -/
def Dev.reclaimStart (m : Dev) (n : Nat) : Dev :=
  if (m.th n).st == .empty then
    { m.p POOL_HOST_STATUS_BUSY 1 with reclaim := some n }.p POOL_HOST_STATUS_RECLAIMED 0
  else m.poolResult 8 0

/-- A write of POOL_HOST_CMD (R483–R486): ignored while BUSY = 1. -/
def State.poolHostCmd (s : State) (mst : Nat) (v : Word) : State :=
  if s.m.on POOL_HOST_STATUS_BUSY then s else
  let h := s.m.g POOL_HOST_HANDLE_HANDLE
  let done := fun (r : State × Nat) => r.1.onM (fun m => m.poolResult (if r.2 = 0 then 0 else 8) r.2)
  match bits v 71 70 with
  | 1 => done (s.poolPut (Word.of h) (ownerOf mst))
  | 2 => done (s.poolPass (Word.of h) (ownerOf mst) (bits v 69 60))
  | 3 => s.onM (fun m => m.reclaimStart (bits v 59 51))
  | _ => s

/-- The TAKEN buffers of an owner in an enabled pool, in ascending order. A table word that nothing has written is no TAKEN
record, so the listed words are searched. -/
def State.takenBy (s : State) (p owner : Nat) : List Nat :=
  if s.m.on (POOL_CFG_A_ENABLE p) then
    (s.mem.dram.filter (fun e => inRange e.1 (s.m.poolMeta p) (s.m.poolCount p) && bits e.2 71 70 == 1
      && bits e.2 69 60 == owner)).map (fun e => e.1 - s.m.poolMeta p)
  else []

/-- A RECLAIM search ends (R486): every TAKEN buffer of the channel is returned, RECLAIMED counts them. -/
def State.reclaimEnd (s : State) : State :=
  match s.m.reclaim with
  | none => s
  | some n =>
    let s := (List.range 16).foldl (fun s p =>
      let l := s.takenBy p n
      (l.foldl (fun s k => s.bufReturn p k) s).onM (fun m => m.addWrap POOL_HOST_STATUS_RECLAIMED l.length)) s
    s.onM (fun m => { (m.p POOL_HOST_STATUS_BUSY 0).poolResult 0 0 with reclaim := none })

/-! ### Meanings -/

/-- A register write that needs the whole state, applied if the master may make it (R46). -/
def State.ifWrite (s : State) (mst a : Nat) (f : State → State) : State :=
  if s.m.mayWrite mst a then f s else s.onM (fun m => m.ifWrite mst a id)

/-- POOL_ENABLE (R478): a write of POOL_CFG_A. -/
def execPoolEnable (mst p : Nat) (v : Word) (s : State) : Host.Outcome State Fault Refusal :=
  .next (s.onM (fun m => m.ifWrite mst (POOL_CFG_A_addr (p % 16)) (fun m => m.poolCfgA (p % 16) v)))

/-- POOL_DISABLE (R478): a write of POOL_CFG_A. -/
def execPoolDisable (mst p : Nat) (v : Word) (s : State) : Host.Outcome State Fault Refusal :=
  .next (s.onM (fun m => m.ifWrite mst (POOL_CFG_A_addr (p % 16)) (fun m => m.poolCfgA (p % 16) v)))

/-- POOL_INIT_DONE (R478). -/
def execPoolInitDone (p upTo : Nat) (s : State) : Host.Outcome State Fault Refusal := .next (s.poolInit p upTo)

/-- A read of POOL_TAKE (R481): takes a buffer for the reading master. -/
def State.poolTakeRead (s : State) (mst p : Nat) : State × Word :=
  if s.m.mayRead mst (POOL_TAKE_addr p) then s.poolTake p (ownerOf mst) false else (s, 0)

/-- POOL_HOST_PUT (R483). -/
def execPoolHostPut (mst : Nat) (v : Word) (s : State) : Host.Outcome State Fault Refusal :=
  .next (s.ifWrite mst POOL_HOST_CMD_addr (fun s => s.poolHostCmd mst v))

/-- POOL_HOST_PASS (R484). -/
def execPoolHostPass (mst : Nat) (v : Word) (s : State) : Host.Outcome State Fault Refusal :=
  .next (s.ifWrite mst POOL_HOST_CMD_addr (fun s => s.poolHostCmd mst v))

/-- RECLAIM (R486). -/
def execReclaim (mst : Nat) (v : Word) (s : State) : Host.Outcome State Fault Refusal :=
  .next (s.ifWrite mst POOL_HOST_CMD_addr (fun s => s.poolHostCmd mst v))

/-- RECLAIM_DONE (R486). -/
def execReclaimDone (s : State) : Host.Outcome State Fault Refusal := .next s.reclaimEnd

/-- HOLD_END (R483): the last hold of a RETURNING buffer ends, and it becomes FREE. -/
def execHoldEnd (p k : Nat) (s : State) : Host.Outcome State Fault Refusal :=
  let r := s.buf p k
  .next (if decide (p < 16) && s.m.on (POOL_CFG_A_ENABLE p) && decide (k < s.m.poolCount p) && r.st == 2 && r.holds == 1
    then s.bufFree p k r else s)

end Sys2Proof.Machine
end

