-- ==== Sys2Proof/Machine/Fifos.lean ====
section
/-!
DEFINITION. Machine/Fifos.lean: the 64 priority FIFOs (R487–R492): pushes, pops, packets, flush, and the meanings of the
FIFO commands that no instruction makes.
-/

namespace Sys2Proof.Machine

/-- What a FIFO holds. -/
def Dev.fifo (m : Dev) (f : Nat) : Fifo := tget (fun _ => ({} : Fifo)) m.fifos f

/-- The open packet of a priority. -/
def Fifo.pkt (x : Fifo) (q : Nat) : Option OpenPkt := tget (fun _ => none) x.opened q

/-- Store the open packet of a priority. -/
def Fifo.setPkt (x : Fifo) (q : Nat) (k : Option OpenPkt) : Fifo := { x with opened := tput (fun _ => none) x.opened q k }

/-- The readable entries (R488). -/
def Fifo.ready (x : Fifo) : Nat := x.cur.length + (x.items.map (fun i => i.2.length)).sum

/-- The entries held: open packets' words and their reserved head words included (R489, R490). -/
def Fifo.count (x : Fifo) : Nat :=
  x.ready + (x.opened.map (fun e => match e.2 with | some k => k.body.length + 1 | none => 0)).sum

/-- The OPEN bits (R490). -/
def Fifo.openBits (x : Fifo) : Nat :=
  ((List.range 8).map (fun q => if (x.pkt q).isSome then 2 ^ q else 0)).sum

/-- The contexts that read a FIFO: a channel's thread, or a cluster's service contexts (R487). -/
def Dev.fifoReaders (m : Dev) (f : Nat) : List Nat :=
  let r := m.g (FIFO_CTRL_READER f)
  if m.g (FIFO_CTRL_READER_KIND f) = 0 then (if r < 512 then [r] else [])
  else if m.g (FIFO_CTRL_READER_KIND f) = 1 then (if r < 8 then svcOf r else []) else []

/-- Store a FIFO and its status; READY going from 0 to not 0 sets FIFO in the reader's latch (R144, R488). -/
def Dev.setFifo (m : Dev) (f : Nat) (x : Fifo) : Dev :=
  let was := (m.fifo f).ready
  let m := { m with fifos := tput (fun _ => ({} : Fifo)) m.fifos f x }
  let m := ((m.p (FIFO_STATUS_COUNT f) x.count).p (FIFO_STATUS_READY f) x.ready).p (FIFO_STATUS_OPEN f) x.openBits
  let m := m.p (FIFO_STATUS_PEAK f) (max x.count (m.g (FIFO_STATUS_PEAK f)))
  if was = 0 ∧ x.ready ≠ 0 then
    (m.fifoReaders f).foldl (fun m t => (m.latch t 1).wake (m.clusterOf t)) m
  else m

/-- An overrun (R489). -/
def Dev.overrun (m : Dev) (f : Nat) : Dev := (m.incW (FIFO_COUNTS_OVERRUNS f)).event 36 1

/-- A push at a priority (R489–R491), and whether it was accepted. `chan`: a channel pushes, at channel privilege. -/
def Dev.fifoPush (m : Dev) (f q : Nat) (w : Word) (chan : Bool) : Dev × Bool :=
  let x := m.fifo f
  let q := q % 8
  if !m.on (FIFO_CTRL_ENABLE f) then (m, false)
  else if m.on (FIFO_CTRL_PACKET f) then
    match x.pkt q with
    | some k =>
      if k.broken then (m, false)
      else if 256 ≤ x.count then ((m.setFifo f (x.setPkt q (some { k with broken := true }))).overrun f, false)
      else (m.setFifo f (x.setPkt q (some { k with body := k.body ++ [w] })), true)
    | none =>
      if 255 ≤ x.count then (m.overrun f, false)
      else (m.setFifo f (x.setPkt q (some ⟨[w], false, chan⟩)), true)
  else if 256 ≤ x.count then (m.overrun f, false)
  else (m.setFifo f { x with items := x.items ++ [(q, [w])] }, true)

/-- The first item of the highest priority that has one, taken out of the list. -/
def takeItem (l : List (Nat × List Word)) : Option (List Word × List (Nat × List Word)) :=
  match (List.range 8).reverse.find? (fun q => l.any (fun i => i.1 == q)) with
  | none => none
  | some q =>
    match l.find? (fun i => i.1 == q) with
    | none => none
    | some i => some (i.2, l.erase i)

/-- A pop (R488): the word, if there is a readable entry. -/
def Dev.fifoPop (m : Dev) (f : Nat) : Dev × Option Word :=
  let x := m.fifo f
  match x.cur with
  | w :: r => (m.setFifo f { x with cur := r }, some w)
  | [] =>
    match takeItem x.items with
    | some (w :: r, l) => (m.setFifo f { x with cur := r, items := l }, some w)
    | _ => (m, none)

/-- The head word of a packet (R490). -/
def Dev.pktHead (m : Dev) (f q : Nat) (k : OpenPkt) : Word :=
  Word.of (at_ 71 68 1 + at_ 67 59 (if k.fromChan then m.g (FIFO_CTRL_WRITER f) else 0) + at_ 58 56 q
    + at_ 55 55 (if k.fromChan then 1 else 0) + at_ 7 0 k.body.length)

/-- Close the open packet of a priority (R490, R491), and whether one was open and closed whole. -/
def Dev.fifoClose (m : Dev) (f q : Nat) : Dev × Bool :=
  let x := m.fifo f
  let q := q % 8
  match x.pkt q with
  | none => (m, false)
  | some k =>
    if k.broken then ((m.setFifo f (x.setPkt q none)).incW (FIFO_COUNTS_PKT_DROPS f) |>.event 36 0, true)
    else (m.setFifo f { x.setPkt q none with items := x.items ++ [(q, m.pktHead f q k :: k.body)] }, true)

/-- Remove the open packet of a priority without count (R491). -/
def Dev.fifoDiscard (m : Dev) (f q : Nat) : Dev := m.setFifo f ((m.fifo f).setPkt (q % 8) none)

/-- ENABLE cleared (R492). -/
def Dev.fifoFlush (m : Dev) (f : Nat) : Dev :=
  let n := (m.fifo f).count
  ((m.setFifo f {}).p (FIFO_CTRL_ENABLE f) 0).addWrap (FIFO_COUNTS_FLUSHED f) n

/-- A write of FIFO_CTRL (R492): the configuration is ignored while ENABLE = 1. -/
def Dev.fifoCtrl (m : Dev) (f : Nat) (v : Word) : Dev :=
  if m.on (FIFO_CTRL_ENABLE f) then (if bits v 71 71 = 0 then m.fifoFlush f else m)
  else
    let m := ((m.p (FIFO_CTRL_PACKET f) (bits v 70 70)).p (FIFO_CTRL_READER_KIND f) (bits v 69 68)).p
      (FIFO_CTRL_READER f) (bits v 67 58)
    let m := ((m.p (FIFO_CTRL_WRITER_VALID f) (bits v 57 57)).p (FIFO_CTRL_WRITER f) (bits v 56 48))
    if bits v 71 71 = 1 then (m.p (FIFO_CTRL_ENABLE f) 1).p (FIFO_STATUS_PEAK f) 0 else m

/-- Is a channel the reader of a FIFO (R487)? -/
def Dev.chanReads (m : Dev) (f n : Nat) : Bool := m.g (FIFO_CTRL_READER_KIND f) == 0 && m.g (FIFO_CTRL_READER f) == n

/-- Is a FIFO assigned to a channel (R487)? -/
def Dev.chanFifo (m : Dev) (f n : Nat) : Bool :=
  m.chanReads f n || (m.on (FIFO_CTRL_WRITER_VALID f) && m.g (FIFO_CTRL_WRITER f) == n)

/-- Is the master the reader of a FIFO through FIFO_POP (R488)? -/
def Dev.popMaster (m : Dev) (mst f : Nat) : Bool :=
  if mst = 0 then m.g (FIFO_CTRL_READER_KIND f) == 2
  else decide (2 ≤ mst) && decide (mst ≤ 9) && m.g (FIFO_CTRL_READER_KIND f) == 1 && m.g (FIFO_CTRL_READER f) == mst - 2

/-- A read of FIFO_POP by a master (R488): zero and EMPTY_POPS where nothing is popped. -/
def Dev.fifoPopRead (m : Dev) (mst f : Nat) : Dev × Word :=
  if m.mayRead mst (FIFO_POP_addr f) then
    if m.popMaster mst f then
      match m.fifoPop f with
      | (m, some w) => (m, w)
      | (m, none) => (m.incW (FIFO_COUNTS_EMPTY_POPS f), 0)
    else (m.incW (FIFO_COUNTS_EMPTY_POPS f), 0)
  else (m, 0)

/-- A write of FIFO_CLOSE (R490, R491). -/
def Dev.fifoCloseWrite (m : Dev) (f : Nat) (v : Word) : Dev :=
  if bits v 68 68 = 1 then m.fifoDiscard f (bits v 71 69) else (m.fifoClose f (bits v 71 69)).1

/-! ### Meanings -/

/-- FIFO_FLUSH (R492): a write of FIFO_CTRL. -/
def execFifoFlush (mst f : Nat) (v : Word) (s : State) : Host.Outcome State Fault Refusal :=
  .next (s.onM (fun m => m.ifWrite mst (FIFO_CTRL_addr (f % 64)) (fun m => m.fifoCtrl (f % 64) v)))

/-- FIFO_PUSH (R489): a write of FIFO_PUSH; a refused push is discarded. -/
def execFifoPush (mst f q : Nat) (v : Word) (s : State) : Host.Outcome State Fault Refusal :=
  .next (s.onM (fun m => m.ifWrite mst (FIFO_PUSH_addr (f % 64) (q % 8)) (fun m => (m.fifoPush (f % 64) q v false).1)))

/-- HOST_FIFO_CLOSE (R490): a write of FIFO_CLOSE. -/
def execHostFifoClose (mst f : Nat) (v : Word) (s : State) : Host.Outcome State Fault Refusal :=
  .next (s.onM (fun m => m.ifWrite mst (FIFO_CLOSE_addr (f % 64)) (fun m => m.fifoCloseWrite (f % 64) v)))

/-- FIFO_DISCARD (R491): a write of FIFO_CLOSE. -/
def execFifoDiscard (mst f : Nat) (v : Word) (s : State) : Host.Outcome State Fault Refusal :=
  .next (s.onM (fun m => m.ifWrite mst (FIFO_CLOSE_addr (f % 64)) (fun m => m.fifoCloseWrite (f % 64) v)))

end Sys2Proof.Machine
end

