-- ==== Sys2Proof/Machine/Sources.lean ====
section
/-!
DEFINITION. Machine/Sources.lean: what capture sources and ingest receivers share with the rest of the device: slots, events,
the discard of a frame (R326, R328, R337, R348), the progress table (R338), the closing of an ingest buffer (R598, R599,
R601), and what ends when a channel leaves.
-/

namespace Sys2Proof.Machine

/-! ### Groups -/

/-- Is an address, in the two halves of FLOW_DST_HI and FLOW_DST_LO, a multicast group? -/
def isGroup (hi lo : Nat) : Bool :=
  if hi = 0 ∧ lo / 2 ^ 32 = 0xFFFF then lo / 2 ^ 28 % 16 == 14 else hi / 2 ^ 56 == 0xFF

/-- Join or leave the group of an address on an uplink port (R332, R596). -/
def Dev.groupMember (m : Dev) (q hi lo : Nat) (join : Bool) : Dev :=
  if isGroup hi lo then m.send (.groupReport q join hi lo) else m

/-! ### Capture sources -/

/-- A capture source. -/
def Dev.source (m : Dev) (i : Nat) : Source := tget (fun _ => ({} : Source)) m.sources i

/-- The state of a slot (R326). -/
def Source.slot (x : Source) (k : Nat) : Nat := tget (fun _ => 0) x.slots k

/-- Set the state of a slot. -/
def Source.setSlot (x : Source) (k st : Nat) : Source := { x with slots := tput (fun _ => 0) x.slots k st }

/-- Store a source, with FREE_SLOTS and SLOT_FILLING (SRC_STATUS). -/
def Dev.setSource (m : Dev) (i : Nat) (x : Source) : Dev :=
  let m := { m with sources := tput (fun _ => ({} : Source)) m.sources i x }
  let free := ((List.range (m.g (SRC_RING_SLOTS i))).filter (fun k => x.slot k == 0)).length
  (m.p (SRC_STATUS_FREE_SLOTS i) free).p (SRC_STATUS_SLOT_FILLING i) (match x.frame with | some f => f.slot | none => 0)

/-- The event word of a source (R328). The flags are SHORT, LONG, WIDTH, CRC, LOSS and UNLOCKED, in bits 5–0. -/
def srcEventWord (kind i slot serial flags reason filled : Nat) : Word :=
  Word.of (at_ 71 68 kind + at_ 67 63 i + at_ 62 59 slot + at_ 58 27 serial + at_ 26 21 flags + at_ 20 17 reason
    + at_ 16 0 (min filled 131071))

/-- The flags of a frame's event but SHORT (R328, R336). -/
def CapFrame.flags (f : CapFrame) (port : Bool) : Nat :=
  (if f.isLong then 16 else 0) + (if f.badWidth then 8 else 0) + (if 0 < f.lost then (if port then 4 else 2) else 0) + (if f.unlocked then 1 else 0)

/-- Push an event of a source (R328), and whether its FIFO took it. -/
def Dev.srcEvent (m : Dev) (i : Nat) (w : Word) : Dev × Bool :=
  let r := m.fifoPush (m.g (SRC_CTRL_EVENT_FIFO i)) (m.g (SRC_CTRL_EVENT_PRIO i)) w false
  if r.2 then r else (r.1.incW (SRC_ERRORS_EVENTS_LOST i), false)

/-- The frame under way is discarded (R326, R337): its slot FREE, its progress abandoned, its event posted. -/
def Dev.srcDiscard (m : Dev) (i reason : Nat) : Dev :=
  let x := m.source i
  match x.frame with
  | none => m
  | some f =>
    let m := (m.setSource i { x.setSlot f.slot 0 with frame := none }).progressEnd i true
    let flags := f.flags (decide (i < 8))
    (m.srcEvent i (srcEventWord 1 i f.slot f.serial flags reason f.filled)).1.incW (SRC_COUNTS_DISCARDS i)

/-- ENABLE of a source cleared (R332, R336, R348): the frame discarded with STOPPED, the group left, STATE OFF. -/
def Dev.srcStop (m : Dev) (i : Nat) : Dev :=
  if m.on (SRC_CTRL_ENABLE i) then
    let m := (m.srcDiscard i 4).p (SRC_CTRL_ENABLE i) 0
    let m := if 8 ≤ i then
      m.groupMember (m.uplinkPort (m.g (FLOW_LINK_UPLINK (i - 8))) (m.g (FLOW_LINK_SUBPORT (i - 8)))) (m.g (FLOW_DST_HI_ADDR (i - 8)))
        (m.g (FLOW_DST_LO_ADDR (i - 8))) false else m
    (m.p (SRC_STATUS_STATE i) 0).p (SRC_STATUS_ENABLE_REASON i) 0
  else m

/-! ### Ingest receivers -/

/-- An ingest receiver. -/
def Dev.ingest (m : Dev) (r : Nat) : Ingest := tget (fun _ => ({} : Ingest)) m.ingests r

/-- Store a receiver, with OPEN. -/
def Dev.setIngest (m : Dev) (r : Nat) (x : Ingest) : Dev :=
  { m with ingests := tput (fun _ => ({} : Ingest)) m.ingests r x }.pb (INGEST_STATUS_OPEN r) x.buf.isSome

/-- The header word of an ingest buffer (R598). -/
def Ingest.header (x : Ingest) : Word :=
  Word.of (at_ 71 40 x.bytes + (match x.pts with | some p => 2 ^ 39 + at_ 38 6 p | none => 0))

/-- The event word of a closed buffer (R599). -/
def Ingest.event (x : Ingest) (r : Nat) (h : Word) (auEnd timeout : Bool) : Word :=
  Word.of (h.toNat + at_ 28 21 r + (if x.auStart then 2 ^ 20 else 0) + (if auEnd then 2 ^ 19 else 0)
    + (if x.disc then 2 ^ 18 else 0) + (if timeout then 2 ^ 17 else 0))

/-- The open buffer of a receiver is closed (R598, R599): announced with its header written, or returned when it holds no
payload or when its event is refused. -/
def State.ingestClose (s : State) (r : Nat) (auEnd timeout : Bool) : State :=
  let x := s.m.ingest r
  let n := s.m.g (INGEST_CTRL_CHANNEL r)
  match x.buf with
  | none => s
  | some h =>
    let fresh : Ingest := { nextDisc := x.nextDisc, spare := x.spare }
    if x.bytes = 0 then (s.onM (fun m => m.setIngest r { fresh with nextDisc := x.nextDisc || x.disc })).poolPut h n |>.1
    else
      let s := s.store .device (bits h 71 36) x.header false
      let p := s.m.fifoPush (s.m.g (INGEST_CTRL_EVENT_FIFO r)) (s.m.g (INGEST_CTRL_EVENT_PRIO r)) (x.event r h auEnd timeout) false
      if p.2 then { s with m := (p.1.setIngest r fresh).incW (INGEST_BYTES_BUFFERS r) }
      else ({ s with m := (p.1.setIngest r { fresh with nextDisc := true }).incW (INGEST_COUNTS_EVENTS_LOST r) }.poolPut h n).1

/-- ENABLE of a receiver cleared (R596, R601): its buffer announced with TIMEOUT, or returned unannounced when its channel
has left; the group left; STATE OFF. -/
def State.ingestStop (s : State) (r : Nat) (announce : Bool) : State :=
  if s.m.on (INGEST_CTRL_ENABLE r) then
    let x := s.m.ingest r
    let s := if announce then s.ingestClose r false true
      else match x.buf with
        | some h => ((s.onM (fun m => m.setIngest r { nextDisc := true, spare := x.spare })).poolPut h (s.m.g (INGEST_CTRL_CHANNEL r))).1
        | none => s
    s.onM (fun m =>
      let m := m.setIngest r { m.ingest r with nextDisc := true }
      let m := m.groupMember (m.uplinkPort (m.g (INGEST_CTRL_UPLINK r)) (m.g (INGEST_CTRL_SUBPORT r))) (m.g (INGEST_DST_HI_ADDR r))
        (m.g (INGEST_DST_LO_ADDR r)) false
      ((m.p (INGEST_CTRL_ENABLE r) 0).p (INGEST_STATUS_STATE r) 0).p (INGEST_STATUS_ENABLE_REASON r) 0)
  else s

/-- A channel has become ISOLATED, or EMPTY other than by KILL: its capture sources and ingest receivers clear ENABLE (R348,
R601, R612). -/
def State.channelGone (s : State) (n : Nat) : State :=
  let s := s.onM (fun m => m.each 24 (fun i m => if m.g (SRC_CTRL_CHANNEL i) == n then m.srcStop i else m))
  (List.range 256).foldl (fun s r => if s.m.g (INGEST_CTRL_CHANNEL r) == n then s.ingestStop r false else s) s

end Sys2Proof.Machine
end

