-- ==== Sys2Proof/Machine/Vaults.lean ====
section
/-!
DEFINITION. Machine/Vaults.lean: hand-overs of vault banks (R452, R453), power domains (R458), retirement (R462) and the
assay engine (R460, R461), with the meanings of their commands.
-/

namespace Sys2Proof.Machine

/-! ### Marks and hand-overs -/

/-- The banks a thread's long instructions mark, running or interrupted (R152). -/
def Thread.marks (x : Thread) : List Nat :=
  (match x.long with | some l => l.banks | none => []) ++ (match x.saved with | some l => l.banks | none => [])

/-- Does a long instruction hold a mark on the bank (R152)? -/
def Dev.marked (m : Dev) (b : Nat) : Bool := m.threads.any (fun e => smem e.2.marks b)

/-- Does an assay run hold the bank? -/
def Dev.assayHolds (m : Dev) (b : Nat) : Bool :=
  match m.assay with
  | some r => (decide (r.first ≤ b) && decide (b ≤ r.last)) || (r.preserving && r.save == b)
  | none => false

/-- Reasons 4h–7h of R453, which GIVE and the host's write share; 0 for none. -/
def Dev.handoverBar (m : Dev) (b code : Nat) : Nat :=
  if m.on (VAULT_OWNER_MAP b) && code != 0x600 then 4
  else if m.on (VAULT_OWNER_RETIRED b) && code != 0x800 then 5
  else if m.assayHolds b then 6
  else if !m.domainOn b || m.on (VAULT_OWNER_CLEARING b) then 7 else 0

/-- The reason a host hand-over is refused (R453); 0 for none. -/
def Dev.handoverReason (m : Dev) (b code : Nat) : Nat :=
  if !ownerCode code then 1 else if m.marked b then 2 else if m.on (VAULT_OWNER_STAGING b) then 3
  else m.handoverBar b code

/-- A hand-over by the host, accepted or refused (R453), and whether it was accepted. -/
def Dev.handover (m : Dev) (b code : Nat) : Dev × Bool :=
  let r := m.handoverReason b code
  if r = 0 then (m.p (VAULT_OWNER_OWNER b) code, true)
  else (((m.p VAULT_EVENTS_REFUSED_BANK b).p VAULT_EVENTS_REFUSE_REASON r).event 34 5, false)

/-- A write of VAULT_RETIRE (R462): a bank above 191 does nothing. -/
def Dev.retire (m : Dev) (b : Nat) : Dev :=
  if 192 ≤ b then m
  else match m.handover b 0x800 with
    | (m, true) => m.p (VAULT_OWNER_RETIRED b) 1
    | (m, false) => m

/-! ### Power domains -/

/-- Every word of a bank becomes zero (R458, R459). -/
def Mem.clearBank (x : Mem) (b : Nat) : Mem :=
  { x with vault := x.vault.filter (fun e => e.1 / 32768 != b), vaultBad := x.vaultBad.filter (fun e => e.1 / 32768 != b), vaultErr := x.vaultErr.filter (fun e => e.1 / 32768 != b) }

/-- Clear the banks of a list. -/
def Mem.clearBanks (x : Mem) (l : List Nat) : Mem := l.foldl (fun x b => x.clearBank b) x

/-- The sixteen banks of a domain (R458). -/
def domainBanks (d : Nat) : List Nat := (List.range 16).map (fun i => 16 * d + i)

/-- May a domain be powered off (R458)? -/
def Dev.domainIdle (m : Dev) (d : Nat) : Bool :=
  (domainBanks d).all (fun b => m.g (VAULT_OWNER_OWNER b) == 0x700 || m.on (VAULT_OWNER_RETIRED b))

/-- Power a domain on: its words read zero before any access is served, and CLEARING reads 1 (R458). -/
def State.domainUp (s : State) (d : Nat) : State :=
  { s with mem := s.mem.clearBanks (domainBanks d), m := (domainBanks d).foldl (fun m b => m.p (VAULT_OWNER_CLEARING b) 1) (s.m.p VAULT_POWER_DOMAIN_ON (s.m.g VAULT_POWER_DOMAIN_ON ||| 2 ^ d)) }

/-- Power a domain off, or refuse (R458). -/
def Dev.domainDown (m : Dev) (d : Nat) : Dev :=
  if m.domainIdle d then m.p VAULT_POWER_DOMAIN_ON (Nat.xor (m.g VAULT_POWER_DOMAIN_ON) (2 ^ d)) else m.event 34 2

/-- A write of VAULT_POWER (R458). -/
def State.vaultPower (s : State) (v : Word) : State :=
  (List.range 12).foldl (fun s d =>
    let now := Nat.testBit (s.m.g VAULT_POWER_DOMAIN_ON) d
    let want := bits v (60 + d) (60 + d) == 1
    if now && !want then s.onM (fun m => m.domainDown d) else if !now && want then s.domainUp d else s) s

/-- The clear of a domain ends (R458). -/
def Dev.clearDone (m : Dev) (d : Nat) : Dev :=
  if (domainBanks d).any (fun b => m.on (VAULT_OWNER_CLEARING b)) then
    ((domainBanks d).foldl (fun m b => m.p (VAULT_OWNER_CLEARING b) 0) m).event 34 1
  else m

/-! ### The assay engine -/

/-- The reason an assay run is refused (R460); 0 for none. -/
def Dev.assayReason (m : Dev) (r : AssayRun) : Nat :=
  if m.on ASSAY_STATUS_BUSY then 2
  else if r.last < r.first ∨ 191 < r.last then 3
  else if (List.range (r.last + 1 - r.first)).any (fun i => m.g (VAULT_OWNER_OWNER (r.first + i)) != 0x800) then 4
  else if r.preserving && (decide (r.save < 176) || decide (191 < r.save) || m.g (VAULT_OWNER_OWNER r.save) != 0x800
    || (decide (r.first ≤ r.save) && decide (r.save ≤ r.last))) then 5
  else 0

/-- A write of ASSAY_CMD (R460): nothing without START. -/
def Dev.assayStart (m : Dev) (v : Word) : Dev :=
  if bits v 45 45 = 0 then m
  else
    let r : AssayRun := ⟨bits v 71 71 == 1, bits v 70 70 == 1, bits v 69 62, bits v 61 54, bits v 53 46⟩
    let e := m.assayReason r
    if e = 0 then
      let m := ((m.p ASSAY_STATUS_BUSY 1).p ASSAY_STATUS_CURRENT_BANK r.first).p ASSAY_STATUS_BANKS_DONE 0
      { m.p ASSAY_STATUS_BANKS_FAILED 0 with assay := some r }
    else m.p ASSAY_STATUS_RESULT e

/-- The record of a tested bank (R461): failing offsets in ascending order, and the first failing bit. -/
def Dev.assayRecord (m : Dev) (b : Nat) (preserving : Bool) (offs : List Nat) (bit : Nat) : Dev :=
  m.wr (ASSAY_BANK_addr b) (Word.of (2 ^ 71 + at_ 70 70 (if offs.isEmpty then 0 else 1)
    + at_ 69 69 (if preserving then 1 else 0) + at_ 68 53 (min 65535 offs.length) + at_ 52 38 (offs.headD 0)
    + at_ 37 31 bit))

/-- What a run does to the words of a bank (R459, R461): destructive, zero; preserving, restored except the failed words,
which read free values, with check bits of any state (R457). -/
def State.assayWords (s : State) (b : Nat) (preserving : Bool) (offs : List Nat) : State :=
  if preserving then
    offs.foldl (fun s o =>
      let a := b * 32768 + o % 32768
      let s := (s.vaultStore a s.m.free false).onM Dev.freeNext
      { s with mem := s.mem.putVaultErr a (s.m.free.toNat % 3) }.onM Dev.freeNext) s
  else { s with mem := s.mem.clearBank b }

/-- Copy the words of a bank into another, as preserving mode leaves SAVE_BANK (R461). -/
def Mem.copyBank (x : Mem) (src dst : Nat) : Mem :=
  let y := x.clearBank dst
  (x.vault.filter (fun e => e.1 / 32768 == src)).foldl
    (fun y e => y.putVault (dst * 32768 + e.1 % 32768) e.2 (tget (fun _ => false) x.vaultBad e.1)) y

/-- The end of an assay run (R461), from the failures found: (bank, failing offsets, first bit). -/
def State.assayEnd (s : State) (saveFailed : Bool) (fails : List (Nat × List Nat × Nat)) : State :=
  match s.m.assay with
  | none => s
  | some r =>
    let stop := fun (s : State) (res : Nat) => s.onM (fun m =>
      { ((m.p ASSAY_STATUS_BUSY 0).p ASSAY_STATUS_RESULT res).event 34 0 with assay := none })
    if r.preserving && saveFailed then stop { s with mem := s.mem.clearBank r.save } 6
    else
      let banks := (List.range (r.last + 1 - r.first)).map (fun i => r.first + i)
      let s := if r.preserving then { s with mem := s.mem.copyBank r.last r.save } else s
      let s := banks.foldl (fun s b =>
        let f := (fails.find? (fun e => e.1 == b)).getD (b, [], 0)
        (s.assayWords b r.preserving f.2.1).onM (fun m => m.assayRecord b r.preserving f.2.1 f.2.2)) s
      let bad := (banks.filter (fun b => fails.any (fun e => e.1 == b && !e.2.1.isEmpty))).length
      stop (s.onM (fun m => ((m.p ASSAY_STATUS_BANKS_DONE banks.length).p ASSAY_STATUS_BANKS_FAILED bad).p
        ASSAY_STATUS_CURRENT_BANK r.last)) (if bad = 0 then 0 else 1)

/-! ### Meanings -/

/-- VAULT_OWNER_WRITE (R452, R453). -/
def execVaultOwnerWrite (mst b : Nat) (v : Word) (s : State) : Host.Outcome State Fault Refusal :=
  .next (s.onM (fun m => m.ifWrite mst (VAULT_OWNER_addr (b % 192)) (fun m => (m.handover (b % 192) (bits v 71 60)).1)))

/-- VAULT_RETIRE (R462). -/
def execVaultRetire (mst : Nat) (v : Word) (s : State) : Host.Outcome State Fault Refusal :=
  .next (s.onM (fun m => m.ifWrite mst VAULT_RETIRE_addr (fun m => m.retire (bits v 71 64))))

/-- VAULT_POWER_WRITE (R458). -/
def execVaultPowerWrite (mst : Nat) (v : Word) (s : State) : Host.Outcome State Fault Refusal :=
  .next (s.ifWrite mst VAULT_POWER_addr (fun s => s.vaultPower v))

/-- DOMAIN_CLEAR_DONE (R458). -/
def execDomainClearDone (d : Nat) (s : State) : Host.Outcome State Fault Refusal :=
  .next (s.onM (fun m => m.clearDone (d % 12)))

/-- ASSAY_START (R460). -/
def execAssayStart (mst : Nat) (v : Word) (s : State) : Host.Outcome State Fault Refusal :=
  .next (s.onM (fun m => m.ifWrite mst ASSAY_CMD_addr (fun m => m.assayStart v)))

/-- ASSAY_DONE (R461). -/
def execAssayDone (saveFailed : Bool) (fails : List (Nat × List Nat × Nat)) (s : State) : Host.Outcome State Fault Refusal :=
  .next (s.assayEnd saveFailed fails)

end Sys2Proof.Machine
end

