-- ==== Sys2Proof/Machine/DramCtl.lean ====
section
/-!
DEFINITION. Machine/DramCtl.lean: the DRAM controllers' upkeep (R466–R468), correctable errors and their intervals (R473),
and uncorrectable events (R474), with the meanings of their commands.
-/

namespace Sys2Proof.Machine

/-! ### Errors -/

/-- A correctable error of channel c (R473): counted, recorded, and CE_STORM once in an interval. `ceSec` is the second of
device time that `ceCount` counts in. -/
def Dev.correctable (m : Dev) (a syn : Nat) (retried : Bool) : Dev :=
  let c := dramChannel a
  let m := (m.incW (DRAM_CH_STATUS_CE_COUNT c)).wr (DRAM_CH_CE_addr c)
    (Word.of (at_ 71 36 a + at_ 35 28 syn + at_ 27 27 (if retried then 1 else 0)))
  let sec := m.now / 1000000000
  let m := if m.ceSec = sec then m else { m with ceCount := [], ceSec := sec }
  let n := tget (fun _ => 0) m.ceCount c + 1
  let m := { m with ceCount := tput (fun _ => 0) m.ceCount c n }
  if n = m.g DRAM_CTRL_CE_LIMIT + 1 then (m.event 35 3).report 0x22 4 c 0 else m

/-- An uncorrectable event on channel c (R474): the record, FROZEN, UE and the report that halts the device. A channel
frozen already does nothing more. `loc` is the location, in bits [23:0] of DRAM_CH_UE_A. -/
def Dev.freeze (m : Dev) (c kind a syn loc : Nat) : Dev :=
  if m.g (DRAM_CH_STATUS_STATE c) = 3 then m
  else
    let m := (m.wr (DRAM_CH_UE_A_addr c) (Word.of (2 ^ 71 + at_ 70 68 kind + at_ 67 32 a + at_ 31 24 syn + at_ 23 0 loc))).wr
      (DRAM_CH_UE_B_addr c) (timeWord m.now)
    ((m.p (DRAM_CH_STATUS_STATE c) 3).event 35 4).report 0x23 4 c kind

/-- The DRAM_TRAFFIC field of a request class (R469): 0 LIVE, 1 FRAME, 2 NORMAL, 3 BACKGROUND. -/
def trafficField (c cls : Nat) : RF :=
  match cls with
  | 0 => DRAM_TRAFFIC_LIVE c
  | 1 => DRAM_TRAFFIC_FRAME c
  | 2 => DRAM_TRAFFIC_NORMAL c
  | _ => DRAM_TRAFFIC_BACKGROUND c

/-- A burst of a class on channel c while `held` LIVE entries are held (R469, R476): DRAM_TRAFFIC counts every 65,536th, and
LIVE_PEAK keeps the most entries. -/
def Dev.dramBurst (m : Dev) (c cls held : Nat) : Dev :=
  let k := c * 4 + cls
  let n := tget (fun _ => 0) m.bursts k + 1
  let m := { m with bursts := tput (fun _ => 0) m.bursts k (n % 65536) }
  let m := if 65536 ≤ n then m.incS (trafficField c cls) else m
  if m.g (DRAM_CH_STATUS_LIVE_PEAK c) < min 16 held then m.p (DRAM_CH_STATUS_LIVE_PEAK c) (min 16 held) else m

/-- A read of a DRAM word with an error: 0 none, 1 correctable, 2 clean or correctable on the reread, 3 still
uncorrectable (R473, R474). -/
def Dev.readError (m : Dev) (a err syn loc kind : Nat) : Dev :=
  match err with
  | 0 => m
  | 1 => m.correctable a syn false
  | 2 => m.correctable a syn true
  | _ => m.freeze (dramChannel a) kind a syn loc

/-! ### Upkeep -/

/-- One more same-bank refresh owed to a bank (R466): issued at once unless requests for the bank are queued; at 4 owed,
one is issued before any further request. -/
def Dev.refresh (m : Dev) (ch bank : Nat) (busy : Bool) : Dev :=
  let k := ch % 8 * 64 + bank % 64
  let n := tget (fun _ => 0) m.refOwed k + 1
  { m with refOwed := tput (fun _ => 0) m.refOwed k (if busy then (if 4 ≤ n then 3 else n) else 0) }

/-- MR4 of a rank is read (R466): bit 1 the doubled rate, bit 0 above the rated range. -/
def Dev.mr4Poll (m : Dev) (ch rank : Nat) (x2 ovr : Bool) : Dev :=
  let k := ch * 2 + rank
  let old := tget (fun _ => 0) m.mr4 k
  let m := { m with mr4 := tput (fun _ => 0) m.mr4 k ((if x2 then 2 else 0) + (if ovr then 1 else 0)) }
  let other := tget (fun _ => 0) m.mr4 (ch * 2 + (1 - rank))
  let m := m.pb (DRAM_CH_STATUS_REFRESH_2X ch) (x2 || decide (2 ≤ other))
  let m := m.pb (DRAM_CH_STATUS_TEMP_HIGH ch) (ovr || other % 2 == 1)
  let m := if x2 && decide (old < 2) then m.event 35 0 else m
  if ovr then (m.event 35 2).report 0x21 4 ch rank else m

/-- The patrol scrub reads the next word (R468); SCRUB_DONE at the end of a pass. A frozen channel answers no read (R474). -/
def Dev.scrub (m : Dev) (err syn loc : Nat) : Dev :=
  let a := m.scrubPos
  if m.g (DRAM_CH_STATUS_STATE (dramChannel a)) = 3 then m
  else
  let m := m.readError a err syn loc 5
  if m.capacity ≤ a + 1 then { m with scrubPos := 0 }.event 35 1 else { m with scrubPos := a + 1 }

/-! ### Meanings -/

/-- DRAM_REFRESH (R466). -/
def execDramRefresh (ch bank : Nat) (busy : Bool) (s : State) : Host.Outcome State Fault Refusal :=
  .next (s.onM (fun m => m.refresh ch bank busy))

/-- MR4_POLL (R466). -/
def execMr4Poll (ch rank : Nat) (x2 ovr : Bool) (s : State) : Host.Outcome State Fault Refusal :=
  .next (s.onM (fun m => m.mr4Poll (ch % 8) (rank % 2) x2 ovr))

/-- ZQ_CALIBRATION (R467): upkeep of the devices, which changes no word and no register. -/
def execZqCalibration (_ : Nat) (s : State) : Host.Outcome State Fault Refusal := .next s

/-- PATROL_SCRUB (R468). -/
def execPatrolScrub (err syn loc : Nat) (s : State) : Host.Outcome State Fault Refusal :=
  .next (s.onM (fun m => m.scrub err syn loc))

/-- DRAM_READ_COMPLETE (R469, R473): a read burst of a class, with the LIVE entries held then, and its error. A frozen channel
returns none (R474). -/
def execDramReadComplete (cls held a err syn loc : Nat) (s : State) : Host.Outcome State Fault Refusal :=
  .next (if s.m.g (DRAM_CH_STATUS_STATE (dramChannel a)) = 3 then s
    else s.onM (fun m => (m.dramBurst (dramChannel a) (cls % 4) held).readError a err syn loc 1))

/-- CE_INTERVAL (R473): the interval ends at the next whole second, and the next one counts afresh. -/
def execCeInterval (s : State) : Host.Outcome State Fault Refusal :=
  .next (s.onM (fun m => let t := m.now / 1000000000 + 1; { m.reach (t * 1000000000) with ceCount := [], ceSec := t }))

/-- CA_PARITY_ALERT (R474): retried once; persisting, an uncorrectable event of KIND 2. -/
def execCaParityAlert (ch a loc : Nat) (persists : Bool) (s : State) : Host.Outcome State Fault Refusal :=
  .next (if persists then s.onM (fun m => m.freeze (ch % 8) 2 a 0 loc) else s)

/-- PHY_LOCK_LOSS (R474): KIND 4. -/
def execPhyLockLoss (ch : Nat) (s : State) : Host.Outcome State Fault Refusal :=
  .next (s.onM (fun m => m.freeze (ch % 8) 4 0 0 0))

end Sys2Proof.Machine
end

