-- ==== Sys2Proof/Machine/Operands.lean ====
section
/-!
DEFINITION. Machine/Operands.lean: the operands of a Dolry instruction: the thread's registers and status bits (R79, R80),
the condition field (R87), sign extension of immediates (R84) and the effective address (R93).
-/

namespace Sys2Proof.Machine

/-! ### Registers of a thread -/

/-- A general register; W0 reads zero (R79). -/
def Thread.rw (x : Thread) (r : BitVec 5) : Word := if r = 0 then 0 else tget (fun _ => 0) x.w r.toNat

/-- Write a general register; a write of W0 is discarded (R79). -/
def Thread.setW (x : Thread) (r : BitVec 5) (v : Word) : Thread :=
  if r = 0 then x else { x with w := tput (fun _ => 0) x.w r.toNat v }

/-- A bit of TSW. -/
def Thread.bit (x : Thread) (i : Nat) : Bool := bits x.tsw i i == 1

/-- Set a bit of TSW. -/
def Thread.setBit (x : Thread) (i : Nat) (b : Bool) : Thread := { x with tsw := putBits x.tsw i i (if b then 1 else 0) }

/-- Set a field of TSW. -/
def Thread.setField (x : Thread) (hi lo v : Nat) : Thread := { x with tsw := putBits x.tsw hi lo v }

/-- TSW.PRIV (R80). -/
def Thread.priv (x : Thread) : Bool := x.bit 47
/-- TSW.CLASS (R80). -/
def Thread.cls (x : Thread) : Nat := bits x.tsw 46 45
/-- TSW.IN_GATE (R80). -/
def Thread.inGate (x : Thread) : Bool := x.bit 44
/-- TSW.IN_TRAP (R80). -/
def Thread.inTrap (x : Thread) : Bool := x.bit 43
/-- TSW.RESUME_PENDING (R80). -/
def Thread.resumePending (x : Thread) : Bool := x.bit 42
/-- TSW.Z (R80). -/
def Thread.z (x : Thread) : Bool := x.bit 41
/-- TSW.N (R80). -/
def Thread.n (x : Thread) : Bool := x.bit 40
/-- TSW.C (R80). -/
def Thread.c (x : Thread) : Bool := x.bit 39
/-- TSW.V (R80). -/
def Thread.v (x : Thread) : Bool := x.bit 38
/-- A predicate: P0 in TSW[34] to P3 in TSW[37] (R80). -/
def Thread.pred (x : Thread) (k : Nat) : Bool := x.bit (34 + k % 4)
/-- TSW.IE (R80). -/
def Thread.ie (x : Thread) : Bool := x.bit 33
/-- TSW.STEP (R80). -/
def Thread.step (x : Thread) : Bool := x.bit 32
/-- TSW.LAST_CAUSE (R80). -/
def Thread.lastCause (x : Thread) : Nat := bits x.tsw 31 26

/-- A firmware scratch word K0–K3. -/
def Thread.kreg (x : Thread) (i : Nat) : Word := tget (fun _ => 0) x.k i
/-- A resume word U0–U3. -/
def Thread.ureg (x : Thread) (i : Nat) : Word := tget (fun _ => 0) x.u i

/-- Does the condition field hold (R87)? -/
def Thread.cond (x : Thread) (c : BitVec 4) : Bool :=
  match c.toNat with
  | 0 => true
  | 1 => x.pred 0
  | 2 => x.pred 1
  | 3 => x.pred 2
  | 4 => x.pred 3
  | 5 => !x.pred 0
  | 6 => !x.pred 1
  | 7 => !x.pred 2
  | 8 => !x.pred 3
  | 9 => x.z
  | 10 => !x.z
  | 11 => x.n != x.v
  | 12 => x.n == x.v
  | 13 => !x.c
  | 14 => x.c
  | _ => x.v

/-! ### Immediates and addresses -/

/-- A 48-bit immediate sign-extended to 72 bits (R84). -/
def immWord (i : BitVec 48) : Word := i.signExtend 72

/-- A 40-bit offset sign-extended to 72 bits (R84). -/
def offWord (o : BitVec 40) : Word := o.signExtend 72

/-- The effective address W[a] + W[b] × 2^scale + offset, modulo 2^72 (R93). -/
def Thread.ea (x : Thread) (a b : BitVec 5) (scale : BitVec 3) (off : BitVec 40) : Nat :=
  (x.rw a + x.rw b * Word.of (2 ^ scale.toNat) + offWord off).toNat

/-- The address of ACAS and ACASV: W[a] + offset (R134). -/
def Thread.eaCas (x : Thread) (a : BitVec 5) (off : BitVec 40) : Nat := (x.rw a + offWord off).toNat

end Sys2Proof.Machine
end

