-- ==== Sys2Proof/Machine/Flags.lean ====
section
/-!
DEFINITION. Machine/Flags.lean: what the word, bit-field and packed-lane operations compute: the result word and the flags
each writes (R89, R119–R125). A flag that an operation does not write is `none`.
-/

namespace Sys2Proof.Machine

/-- The result of an operation: the word, and the flags and predicates it writes. -/
structure Alu where
  r : Word
  z : Option Bool := none
  n : Option Bool := none
  c : Option Bool := none
  v : Option Bool := none
  p0 : Option Bool := none
  p1 : Option Bool := none
  deriving DecidableEq, Repr

/-- Write an optional bit of TSW. -/
def Thread.optBit (x : Thread) (i : Nat) : Option Bool → Thread
  | none => x
  | some b => x.setBit i b

/-- Write the flags and predicates of a result (R80, R89). -/
def Thread.putFlags (x : Thread) (o : Alu) : Thread :=
  (((((x.optBit 41 o.z).optBit 40 o.n).optBit 39 o.c).optBit 38 o.v).optBit 34 o.p0).optBit 35 o.p1

/-- Write a result to W[d], and its flags. -/
def Thread.putAlu (x : Thread) (d : BitVec 5) (o : Alu) : Thread := (x.setW d o.r).putFlags o

/-! ### Flags of a 72-bit result (R89) -/

/-- Is the word zero? -/
def isZ (r : Word) : Option Bool := some (decide (r = 0))

/-- Is bit [71] of the word 1? -/
def isN (r : Word) : Option Bool := some r.msb

/-- No flags written. -/
def noFlags (r : Word) : Alu := { r }

/-- Z only. -/
def zFlags (r : Word) : Alu := { r, z := isZ r }

/-- Z and N. -/
def znFlags (r : Word) : Alu := { r, z := isZ r, n := isN r }

/-- Addition with carry in: C is the carry out of bit [71], V that the signed sum does not fit (R89). -/
def aluAdd (a b : Word) (cin : Bool) : Alu :=
  let k := if cin then 1 else 0
  let r := a + b + Word.of k
  { r, z := isZ r, n := isN r, c := some (decide (2 ^ 72 ≤ a.toNat + b.toNat + k)),
    v := some (decide (r.toInt ≠ a.toInt + b.toInt + k)) }

/-- Subtraction with borrow in: C is that no borrow occurs (R89). -/
def aluSub (a b : Word) (bin : Bool) : Alu :=
  let k := if bin then 1 else 0
  let r := a - b - Word.of k
  { r, z := isZ r, n := isN r, c := some (decide (b.toNat + k ≤ a.toNat)),
    v := some (decide (r.toInt ≠ a.toInt - b.toInt - k)) }

/-! ### Words (R119–R122) -/

/-- Signed minimum and maximum. -/
def sMin (a b : Word) : Word := if a.toInt ≤ b.toInt then a else b
def sMax (a b : Word) : Word := if a.toInt ≤ b.toInt then b else a

/-- Unsigned minimum and maximum. -/
def uMin (a b : Word) : Word := if a.toNat ≤ b.toNat then a else b
def uMax (a b : Word) : Word := if a.toNat ≤ b.toNat then b else a

/-- The shift count W[b][6:0]. -/
def shiftCount (b : Word) : Nat := bits b 6 0

/-- Shifts by a count; of 72 or more, zero or copies of bit [71]. -/
def shlW (a : Word) (s : Nat) : Word := a <<< s
def shrW (a : Word) (s : Nat) : Word := a >>> s
def sarW (a : Word) (s : Nat) : Word := a.sshiftRight s

/-- Rotate left by s mod 72. -/
def rolW (a : Word) (s : Nat) : Word := a.rotateLeft s

/-- Leading zero bits, 0–72. -/
def clzW (a : Word) : Nat := if a = 0 then 72 else 71 - Nat.log2 a.toNat

/-- One bits, 0–72. -/
def popcW (a : Word) : Nat := ((List.range 72).filter (fun i => Nat.testBit a.toNat i)).length

/-- High 72 bits of the unsigned and of the signed 144-bit product. -/
def mulHU (a b : Word) : Word := Word.of (a.toNat * b.toNat / 2 ^ 72)
def mulHS (a b : Word) : Word := BitVec.ofInt 72 ((a.toInt * b.toInt) / (2 ^ 72 : Nat))

/-- The bit field of a word: pos + width − 1 down to pos. -/
def fieldOf (a : Word) (pos width : Nat) : Nat := (a.toNat / 2 ^ pos) % 2 ^ width

/-- A field sign-extended from its top bit. -/
def signField (v width : Nat) : Word := BitVec.ofInt 72 (signedOf width v)

/-- Replace a bit field of a word. -/
def insField (d a : Word) (pos width : Nat) : Word :=
  Word.of (d.toNat - fieldOf d pos width * 2 ^ pos + (a.toNat % 2 ^ width) * 2 ^ pos)

/-! ### Lanes (R11, R123–R125) -/

/-- The lanes of a word: n lanes of L bits, lane 0 lowest. -/
def lanes (n l : Nat) (w : Word) : List Nat := (List.range n).map (fun k => w.toNat / 2 ^ (l * k) % 2 ^ l)

/-- A word from its lanes, lane 0 lowest; each lane is taken modulo 2^L. -/
def packLanes (l : Nat) (xs : List Nat) : Word := Word.of (xs.foldr (fun x acc => acc * 2 ^ l + x % 2 ^ l) 0)

/-- A lane operation on two words: Z when every lane of the result is zero (R89, R123). -/
def laneOp (n l : Nat) (f : Nat → Nat → Nat) (a b : Word) : Alu :=
  zFlags (packLanes l (List.zipWith f (lanes n l a) (lanes n l b)))

/-- The absolute difference of two lanes. -/
def absDiff (x y : Nat) : Nat := if x ≤ y then y - x else x - y

/-- Lane operations of R123; M is 2^L − 1. -/
def lAdds (l x y : Nat) : Nat := min (2 ^ l - 1) (x + y)
def lSub (l x y : Nat) : Nat := (x + 2 ^ l - y) % 2 ^ l
def lAvg (x y : Nat) : Nat := (x + y + 1) / 2
def lMulq (l x y : Nat) : Nat := (x * y + 2 ^ (l - 1)) / 2 ^ l
def lShrr (l t x : Nat) : Nat := if t = 0 then x else if l < t then 0 else (x + 2 ^ (t - 1)) / 2 ^ t
def lShl (l t x : Nat) : Nat := min (2 ^ l - 1) (x * 2 ^ t)

/-- The rounding shift and the saturating shift of every lane of W[a] by W[b][3:0]. -/
def laneShrr (n l : Nat) (a b : Word) : Alu := zFlags (packLanes l ((lanes n l a).map (lShrr l (bits b 3 0))))
def laneShl (n l : Nat) (a b : Word) : Alu := zFlags (packLanes l ((lanes n l a).map (lShl l (bits b 3 0))))

/-- The sum of absolute differences, and the sum of lanes, as scalars. -/
def laneSad (n l : Nat) (a b : Word) : Alu := zFlags (Word.of (List.zipWith absDiff (lanes n l a) (lanes n l b)).sum)
def laneSum (n l : Nat) (a : Word) : Alu := zFlags (Word.of (lanes n l a).sum)

/-- Every lane becomes lane 0. -/
def laneBcast (n l : Nat) (a : Word) : Alu := zFlags (packLanes l (List.replicate n ((lanes n l a).headD 0)))

/-- A lane compare (R124): the mask, P0 for every lane, P1 for at least one. -/
def laneCmp (n l : Nat) (rel : Nat → Nat → Bool) (a b : Word) : Alu :=
  let t := List.zipWith rel (lanes n l a) (lanes n l b)
  let r := Word.of (t.foldr (fun x acc => acc * 2 + (if x then 1 else 0)) 0)
  { r, z := isZ r, p0 := some (t.all id), p1 := some (t.any id) }

/-- The four signed 18-bit lanes (R125). -/
def quads (w : Word) : List Int := (lanes 4 18 w).map (signedOf 18)

/-- A word from signed 18-bit lanes, each in range. -/
def packQuads (xs : List Int) : Word := packLanes 18 (xs.map (satSigned 18))

/-- Lanes saturated to the signed 18-bit range. -/
def quadOp (f : Int → Int → Int) (a b : Word) : Alu := zFlags (packQuads (List.zipWith f (quads a) (quads b)))

/-- Q4SHRR: a rounding arithmetic shift by t := min(17, W[b][4:0]). -/
def quadShrr (a b : Word) : Alu :=
  let t := min 17 (bits b 4 0)
  zFlags (packQuads ((quads a).map (fun x => if t = 0 then x else (x + (2 ^ (t - 1) : Nat)) / (2 ^ t : Nat))))

/-- Q4CLIPU: min(max(x, 0), W[b][11:0]). -/
def quadClip (a b : Word) : Alu :=
  zFlags (packQuads ((quads a).map (fun x => min (max x 0) ((bits b 11 0 : Nat) : Int))))

/-- CNV96: six-pack lanes to nine-pack, each as min(255, lane). -/
def cnv96 (a b : Word) : Alu := zFlags (packLanes 8 ((lanes 6 12 a ++ (lanes 6 12 b).take 3).map (min 255)))

/-- CNV69L and CNV69H: nine-pack lanes 0–5, and lanes 6–8 with zeros, to six-pack. -/
def cnv69l (a : Word) : Alu := zFlags (packLanes 12 ((lanes 9 8 a).take 6))
def cnv69h (a : Word) : Alu := zFlags (packLanes 12 ((lanes 9 8 a).drop 6 ++ [0, 0, 0]))

/-- CNVQ6: quad lanes to six-pack, clamped to 0–4095. -/
def cnvq6 (a b : Word) : Alu :=
  zFlags (packLanes 12 ((quads a ++ (quads b).take 2).map (fun x => (min (max x 0) 4095).toNat)))

end Sys2Proof.Machine
end

