-- ==== Sys2Proof/Machine/Micro.lean ====
section
/-!
DEFINITION. Machine/Micro.lean: the microword that the issue of an instruction reads at its opcode's entry point (R187):
its fields (R188), its check (R189), the faults it can be (R190–R192), and the repair of one that fails its check (R200).
-/

namespace Sys2Proof.Machine

/-- The microword at a micro-address of a clerk's control store (R187). -/
def Dev.uword (m : Dev) (c a : Nat) : Nat := tget (fun _ => 0) m.ucode (c * 8192 + a)

/-- The check of a microword (R189): byte [143:136] is the even parity of the seventeen bytes of [135:0]. -/
def microPasses (w : Nat) : Bool := (List.range 18).foldl (fun x k => x ^^^ (w / 2 ^ (8 * k) % 256)) 0 == 0

/-- Is an ALU code reserved in its LANE mode (R188)? -/
def aluReserved (lane op : Nat) : Bool :=
  match lane with
  | 0 => decide (0x1E < op)
  | 1 | 2 => decide (0x0F < op)
  | 3 | 4 => decide (3 < op)
  | _ => true

/-- Is a microword a microcode fault wherever it stands (R192)? A reserved value in SEQ, COND of a WAIT, ALU, LANE, PROG,
TRAPX or EXT, a reserved selector, or a bit of [61:48]. -/
def microReserved (w : Nat) : Bool :=
  let f := fun hi lo => w / 2 ^ lo % 2 ^ (hi + 1 - lo)
  decide (8 < f 135 132) || (f 135 132 == 6 && decide (0x34 < f 118 113)) || aluReserved (f 85 82) (f 111 106)
    || decide (3 < f 77 74) || f 73 72 == 3 || decide (8 < f 65 62) || decide (0x18 < f 105 101) || decide (0x18 < f 100 96)
    || decide (0x18 < f 95 91) || f 61 48 != 0

/-- Is a microword a microcode fault at an entry point, where the micro-stack is empty (R191, R192)? RET has nothing to
pop there. -/
def microFaulty (w : Nat) : Bool := microReserved w || w / 2 ^ 132 % 16 == 5

/-- Every microword at an entry point, 0000h–03FFh, passes its check and is no fault. -/
def Dev.microSound (m : Dev) : Bool :=
  m.ucode.all (fun e => decide (1024 ≤ e.1 % 8192) || (microPasses e.2 && !microFaulty e.2))

/-- The copy that repairs a microword of clerk c (R200): the first that passes, from the clerk after its own, in ascending
number and wrapping from 31 to 0. -/
def Dev.microCopy (m : Dev) (c a : Nat) : Option Nat :=
  ((List.range 31).map (fun i => m.uword ((c + 1 + i) % 32) a)).find? microPasses

/-- A double trap's record (R105): the thread is ISOLATED, DOLRY_DTRAP is written, and the trap counts under its second
cause. -/
def Dev.dtrapRecord (m : Dev) (t first second pc : Nat) : Dev :=
  let x := m.th t
  let m := m.isolateThread t first second
  let m := m.wr DOLRY_DTRAP_addr (Word.of (2 ^ 71 + at_ 70 62 (bits x.tsw 25 17) + at_ 61 57 (bits x.tsw 16 12)
    + at_ 56 53 (bits x.tsw 11 8) + at_ 52 47 first + at_ 46 41 second + at_ 40 17 pc + at_ 16 15 x.cls))
  m.incS (DOLRY_TRAP_CNT_TRAPS (second % 64))

/-- A clerk fails at a micro-address (R200): FAILED and FAIL_UPC, every thread homed on it ISOLATED, its service context
stopped, and the report. -/
def State.clerkFail (s : State) (c a : Nat) : State :=
  let s := s.onM (fun m => ((m.p (UC_CLERK_FAILED c) 1).p (UC_CLERK_FAIL_UPC c) a).modTh (512 + c) (fun x => { x with st := .stopped, wait := none }))
  let s := (List.range 512).foldl (fun s n =>
    if s.m.clerkOf n = c ∧ (s.m.th n).st ≠ .empty then
      (s.onM (fun m => m.isolateThread n (m.g DOLRY_DTRAP_FIRST_CAUSE) (m.g DOLRY_DTRAP_SECOND_CAUSE))).channelGone n
    else s) s
  s.onM (fun m => m.report 0x1A 3 c a)

/-- The fault of a microword that thread t reads (R192): as a double trap, with SECOND_CAUSE 3Eh; UFAULT and UFAULT_UPC of
its clerk, and the report. -/
def State.microFault (s : State) (t a : Nat) : State :=
  let c := s.m.clerkOf t % 32
  let s := s.onM (fun m => m.dtrapRecord t (m.th t).lastCause 0x3E (m.th t).pc)
  let s := if t < 512 then s.channelGone t else s
  s.onM (fun m => ((m.p (UC_CLERK_UFAULT c) 1).p (UC_CLERK_UFAULT_UPC c) a).report 0x19 3 c a)

/-- A thread reads the microword at a micro-address for execution (R189, R192, R200); `true` says that it executes. A copy
that was written is taken to pass (log entry 49). -/
def State.microRead (s : State) (t a : Nat) : State × Bool :=
  let c := s.m.clerkOf t % 32
  let run := fun (s : State) => if microFaulty (s.m.uword c a) then (s.microFault t a, false) else (s, true)
  if microPasses (s.m.uword c a) then run s
  else match s.m.microCopy c a with
    | some w => run (s.onM (fun m => { m with ucode := tput (fun _ => 0) m.ucode (c * 8192 + a) w }.incS (UC_CLERK_RELOADS c)))
    | none => (s.clerkFail c a, false)

end Sys2Proof.Machine
end

