-- ==== Sys2Proof/Machine/Thread.lean ====
section
/-!
DEFINITION. Machine/Thread.lean: how a thread issues an instruction (R82, R85, R88, R91, R113, R198), taking a trap
(R100–R105, R657), the return from one (R104, R98), the end of a wait (R110, R111), and the expiry of a channel timer
(R179). The instruction itself is the command's (log entry 12).
-/

namespace Sys2Proof.Machine

/-! ### Taking a trap -/

/-- A link word: a return point and TSW[47:0] (R81). -/
def linkWord (pc : Nat) (tsw : Word) : Word := Word.of (at_ 71 48 pc + bits tsw 47 0)

/-- A double trap (R105): recorded, and reported: a channel fault for a thread slot, a firmware fault for a service
context. -/
def Dev.doubleTrap (m : Dev) (t first second pc : Nat) : Dev :=
  let m := m.dtrapRecord t first second pc
  if t < 512 then m.report 0x10 1 t (first % 64 * 64 + second % 64)
  else m.report 0x18 3 (t - 512) (first % 64 * 64 + second % 64)

/-- The handler address of a cause, if its vector entry is valid (R101). -/
def State.vector (s : State) (cause : Nat) : Option Nat :=
  let a := s.m.progAddr (0x400 + cause)
  let e := s.dram a
  if bits e 71 71 = 1 ∧ 0x440 ≤ bits e 23 0 ∧ bits e 23 0 ≤ 0xFFFFF ∧ s.dramPoison a = false then some (bits e 23 0)
  else none

/-- The thread after trap entry (R102): XLINK, PRIV, IN_TRAP, LAST_CAUSE, and the handler. -/
def Thread.enter (x : Thread) (cause ret handler : Nat) : Thread :=
  let y := ((x.setBit 47 true).setBit 43 true).setField 31 26 cause
  { y with st := .ready, wait := none, xlink := linkWord ret x.tsw, pc := handler }

/-- A change that isolates a thread, with what ends when a channel leaves (R348, R601). -/
def State.isolated (s : State) (t : Nat) (f : Dev → Dev) : State :=
  if t < 512 then (s.onM f).channelGone t else s.onM f

/-- A trap of a thread with its return point (R101–R105); `pc` is the instruction that raised it. -/
def State.trapTo (s : State) (t cause ret pc : Nat) : State :=
  let x := s.m.th t
  if x.inTrap then s.isolated t (fun m => m.doubleTrap t x.lastCause cause pc)
  else match s.vector cause with
    | some h => s.onM (fun m => (m.setTh t (x.enter cause ret h)).incS (DOLRY_TRAP_CNT_TRAPS cause))
    | none => s.isolated t (fun m => (m.setTh t (x.setField 31 26 cause)).doubleTrap t cause 0x3F pc)

/-! ### Long instructions and the micro-trap -/

/-- Opcode and func of a long instruction (R149). -/
def LongKind.func : LongKind → Nat
  | .moveDD => 0 | .moveDV => 1 | .moveVD => 2 | .moveVV => 3 | .fillD => 4 | .fillV => 5
  | .sumD => 6 | .sumV => 7 | .compose => 8 | .draink => 9 | .drainc => 10

/-- Low 54 bits of MT0–MT2 and MT3 of a long instruction (R197). -/
def LongOp.temps (l : LongOp) : Nat × Nat × Nat × Nat :=
  match l.kind with
  | .moveDD | .moveDV | .moveVD | .moveVV => (l.src, l.dst, l.count, 0)
  | .fillD | .fillV => (bits l.pattern 53 0, l.dst, l.count, bits l.pattern 71 54)
  | .sumD | .sumV => (l.src, bits l.sum 53 0, l.count, bits l.sum 71 54)
  | .compose => (l.src, l.layer, l.count, 0)
  | .draink => (l.src, 0, 0, 0)
  | .drainc => (l.src, bits l.sum 53 0, 0, 0)

/-- The resume words U0–U3 (R196); the micro-address is fixed by the vendor's image and not published: a free value. -/
def LongOp.resumeWords (l : LongOp) (upc : Nat) : List (Nat × Word) :=
  let m := l.temps
  let u := tput (fun _ => (0 : Word)) [] 0 (Word.of (at_ 71 59 upc + at_ 58 48 l.kind.func + at_ 47 38 0x20 + at_ 35 0 l.done))
  let u := tput (fun _ => (0 : Word)) u 1 (Word.of (at_ 53 0 m.1 + at_ 71 54 m.2.2.2))
  let u := tput (fun _ => (0 : Word)) u 2 (Word.of (at_ 53 0 m.2.1 + at_ 71 54 (m.2.2.2 / 2 ^ 18)))
  tput (fun _ => (0 : Word)) u 3 (Word.of (at_ 53 0 m.2.2.1 + at_ 71 54 (m.2.2.2 / 2 ^ 36)))

/-- The tickets of a DRAINK that have completed or been collected (R155). -/
def Thread.drained (x : Thread) (ws : List Word) : Nat :=
  (ws.filter (fun w => match x.tickets.find? (fun k => k.word == w) with | some k => k.done.isSome | none => true)).length

/-- The channel's commands that have completed CANCELLED since the count `base` (R156). -/
def Dev.cancelledSince (m : Dev) (n base : Nat) : Nat := tget (fun _ => 0) m.cancelCount n - base

/-- A long instruction with the counts that other agents advance brought up to now (R155, R156). -/
def Dev.longNow (m : Dev) (t : Nat) (l : LongOp) : LongOp :=
  match l.kind with
  | .draink => { l with done := (m.th t).drained l.stage }
  | .drainc => { l with sum := Word.of (m.cancelledSince l.src l.base) }
  | _ => l

/-- A micro-trap (R196): the running long instruction is saved and RESUME_PENDING set; with IN_TRAP = 1 none is taken
(R197). -/
def Dev.microTrap (m : Dev) (t : Nat) : Dev :=
  let x := m.th t
  match x.long with
  | none => m
  | some l0 =>
    let l := m.longNow t l0
    if x.inTrap then m
    else
      let y := { x.setBit 42 true with long := none, saved := some l, u := l.resumeWords (m.free.toNat % 8192) }
      (m.setTh t y).freeNext.incW (UC_CLERK_MICROTRAPS (m.clerkOf t % 32))

/-- A COMPOSE lets go of the staging area that it holds (R154); `base` is its thread. -/
def Dev.unstage (m : Dev) (l : LongOp) : Dev :=
  let x := m.layer l.layer
  if l.kind = .compose ∧ x.staging = some l.base then m.setLayer l.layer { x with staging := none } else m

/-- What a long instruction holds is released (R152): marks go with the record, holds on buffers and the staging area
end. -/
def State.releaseLong (s : State) : Option LongOp → State
  | none => s
  | some l => (s.unholdAll l.holds).onM (fun m => m.unstage l)

/-- Drop an interrupted long instruction (R198): its holds end, RESUME_PENDING becomes 0. -/
def State.dropSaved (s : State) (t : Nat) : State :=
  (s.releaseLong (s.m.th t).saved).onM (fun m => m.modTh t (fun x => { x.setBit 42 false with saved := none }))

/-! ### Issue -/

/-- What the body of an instruction answers: it completes at the next address, transfers control, raises a synchronous
trap without effect (R106), raises one whose return point is the next instruction, raises one after what the memory's
check does (R457), or stays (a wait, a long
instruction, a trap already taken). -/
inductive Res where
  | ok (s : State)
  | jump (s : State) (pc : Nat)
  | trap (cause : Nat)
  | trapNext (cause : Nat)
  | trapIn (s : State) (cause : Nat)
  | stay (s : State)

/-- The address after a program address (R86). -/
def nextPc (pc : Nat) : Nat := (pc + 1) % 16777216

/-- An instruction has completed and the thread goes on at `pc'` (R657): STEP is raised with TSW.STEP = 1 after one that
issued and completed at channel privilege, and after GRET. -/
def State.finish (s : State) (t : Nat) (wasChan gret : Bool) (pc pc' : Nat) : State :=
  let s := s.onM (fun m => m.modTh t (fun x => { x with pc := pc' }))
  let x := s.m.th t
  if x.step && ((wasChan && !x.priv) || gret) then s.trapTo t 0x15 pc' pc else s

/-- Does the thread issue (R112, R113)? Its clerk is up, it is READY with no long instruction under way, and it is not
shed (R185). -/
def Dev.issues (m : Dev) (t : Nat) : Bool :=
  decide (t < 544) && m.coreUp && !m.on (UC_CLERK_FAILED (m.clerkOf t % 32)) && (m.th t).st == .ready &&
    (m.th t).long.isNone && !(decide (t < 512) && m.on (CHAN_STATUS_SHED t))

/-- The trap of an instruction fetch, if any (R91, R100). -/
def State.fetchTrap (s : State) (t : Nat) : Option Nat :=
  let x := s.m.th t
  let inWin := if x.priv then decide (0x440 ≤ x.pc) && decide (x.pc ≤ 0xFFFFF)
    else decide (s.m.g (CHAN_WINDOW_WIN_BASE t) ≤ x.pc) && decide (x.pc ≤ s.m.g (CHAN_WINDOW_WIN_LIMIT t))
  if !inWin then some 0x07
  else if s.dramPoison (s.m.progAddr x.pc) then some 0x08 else none

/-- The return to a long instruction (R198): resumed when the instruction fetched is the same, else SEQUENCE. -/
def State.resume (s : State) (t : Nat) (kind : Option LongKind) (l : LongOp) : State :=
  if kind = some l.kind then s.onM (fun m => m.modTh t (fun x => { x with long := some l, saved := none }))
  else
    let pc := (s.m.th t).pc
    (s.dropSaved t).trapTo t 0x0D pc pc

/-- The body runs, and its answer takes effect. -/
def State.runBody (s : State) (t : Nat) (gret : Bool) (body : State → Res) : State :=
  let x := s.m.th t
  match body s with
  | .ok s' => s'.finish t (!x.priv) gret x.pc (nextPc x.pc)
  | .jump s' a => s'.finish t (!x.priv) gret x.pc (a % 16777216)
  | .trap c => s.trapTo t c x.pc x.pc
  | .trapNext c => s.trapTo t c (nextPc x.pc) x.pc
  | .trapIn s' c => s'.trapTo t c x.pc x.pc
  | .stay s' => s'

/-- A thread issues an instruction: the fetch (R91), the return to a long instruction (R198), the microword at the entry point
of its opcode `op` (R187), the decode checks (R85), the condition (R87, R88), the privilege (R99), then the body. `legal`: the operand fields pass R85; `fw`: firmware only;
`kind`: the long instruction it is; `gret`: it is GRET (R657). -/
def State.issue (s : State) (op t : Nat) (c : BitVec 4) (legal fw gret : Bool) (kind : Option LongKind)
    (body : State → Res) : State :=
  if !s.m.issues t then s else
  let x := s.m.th t
  match s.fetchTrap t with
  | some f => s.trapTo t f x.pc x.pc
  | none =>
    match (if x.inTrap then none else x.saved) with
    | some l => s.resume t kind l
    | none =>
      let r := s.microRead t op
      if !r.2 then r.1 else
      let s := r.1
      if !legal then s.trapTo t 0x01 x.pc x.pc
      else if !x.cond c then s.finish t (!x.priv) false x.pc (nextPc x.pc)
      else if fw && !x.priv then s.trapTo t 0x02 x.pc x.pc
      else s.runBody t gret body

/-- An instruction that only changes its thread. -/
def State.issueT (s : State) (op t : Nat) (c : BitVec 4) (legal : Bool) (f : Thread → Thread) : State :=
  s.issue op t c legal false false none (fun s => .ok (s.onM (fun m => m.modTh t f)))

/-- An instruction that writes a result and flags computed from its thread. -/
def State.alu (s : State) (op t : Nat) (c : BitVec 4) (legal : Bool) (d : BitVec 5) (f : Thread → Alu) : State :=
  s.issueT op t c legal (fun x => x.putAlu d (f x))

/-! ### Waits -/

/-- A wait ends with a result code (R110), after its effect. -/
def State.endWait (s : State) (t code : Nat) : State :=
  let x := s.m.th t
  match x.wait with
  | none => s
  | some w =>
    let s := s.onM (fun m => (m.modTh t (fun x =>
      { x.setW (BitVec.ofNat 5 w.d) (Word.of code) with st := .ready, wait := none })).wake (m.clusterOf t))
    s.finish t (!x.priv) false x.pc (nextPc x.pc)

/-! ### Channel timers -/

/-- The next deadline of a periodic timer after the present time (R179): the period added until it lies after it. -/
def reloadNs (deadline period now : Nat) : Nat :=
  deadline + period * (if now < deadline then 1 else (now - deadline) / period + 1)

/-- Timer k of a thread expires (R179): EXPk, the guarded wait, the reload, the pending bit. A service context's timer has
no enable and no period. -/
def State.timerExpire (s : State) (t k : Nat) : State :=
  let dl := timeNs (s.m.timer t k)
  let p := if t < 512 then 1000 * s.m.g (CHAN_TIMER_CTRL_PERIOD t k) else 0
  let s := s.onM (fun m =>
    let m := if t < 512 then m.p (CHAN_TIMER_CTRL_EXP t k) 1 else m
    m.setTimer t k (if p = 0 then 0 else timeWord (reloadNs dl p m.now)))
  let s := match (s.m.th t).wait with
    | some w => if w.guard = some k then s.endWait t 1 else s
    | none => s
  if t < 512 then s.onM (fun m => m.chanPend t (4 + k)) else s

/-- A deadline at or before the present device time expires at once (R129). -/
def State.timerDue (s : State) (t k : Nat) : State :=
  let w := s.m.timer t k
  if w ≠ 0 ∧ timeNs w ≤ s.m.now then s.timerExpire t k else s

/-! ### Returns -/

/-- GRET's change of the thread (R98): flags, predicates and IE from GLINK, PRIV and IN_GATE 0. -/
def Thread.gret (x : Thread) : Thread :=
  let y := x.setField 41 33 (bits x.glink 41 33)
  (y.setBit 47 false).setBit 44 false

/-- TRET's change of the thread (R104): flags, predicates, IE, STEP, PRIV, IN_GATE and RESUME_PENDING from XLINK, IN_TRAP
0. -/
def Thread.tret (x : Thread) : Thread :=
  let y := x.setField 41 32 (bits x.xlink 41 32)
  let y := ((y.setField 47 47 (bits x.xlink 47 47)).setField 44 44 (bits x.xlink 44 44)).setField 42 42 (bits x.xlink 42 42)
  y.setBit 43 false

end Sys2Proof.Machine
end

