-- ==== Sys2Proof/Machine/System.lean ====
section
/-!
DEFINITION. Machine/System.lean: thread status and predicates (R126), system, time and program control (R127–R130), the
jumps (R135) and the gate call (R97, R98). SWAP and KILL stand with the channels.
-/

namespace Sys2Proof.Machine

/-! ### Thread status and predicates (R126) -/

/-- RDTSW (R126). -/
def execRdtsw (t : Nat) (c : BitVec 4) (d : BitVec 5) (s : State) : Host.Outcome State Fault Refusal :=
  .next (s.alu 0x002 t c true d (fun x => noFlags x.tsw))

/-- WRTSW (R126): the fields that R80 marks writable at the present privilege. -/
def execWrtsw (t : Nat) (c : BitVec 4) (a : BitVec 5) (s : State) : Host.Outcome State Fault Refusal :=
  .next (s.issueT 0x002 t c true (fun x =>
    let y := x.setField 41 33 (bits (x.rw a) 41 33)
    if x.priv then y.setField 32 32 (bits (x.rw a) 32 32) else y))

/-- The relation of CMPP, a condition code of R87 taken on the two words (R126). -/
def cmppRel (rel : Nat) (a b : Word) : Bool :=
  match rel with
  | 9 => a == b
  | 10 => a != b
  | 11 => decide (a.toInt < b.toInt)
  | 12 => decide (b.toInt ≤ a.toInt)
  | 13 => decide (a.toNat < b.toNat)
  | _ => decide (b.toNat ≤ a.toNat)

/-- CMPP (R126): func [10:7] the relation 9h–Eh, [6:2] zero, [1:0] the predicate. -/
def execCmpp (t : Nat) (c : BitVec 4) (a b : BitVec 5) (func : BitVec 11) (s : State) : Host.Outcome State Fault Refusal :=
  let rel := func.toNat / 128
  .next (s.issueT 0x003 t c (decide (9 ≤ rel) && decide (rel ≤ 14) && func.toNat % 128 / 4 == 0) (fun x =>
    x.setBit (34 + func.toNat % 4) (cmppRel rel (x.rw a) (x.rw b))))

/-! ### System (R127) -/

/-- NOP (R127). -/
def execNop (t : Nat) (c : BitVec 4) (s : State) : Host.Outcome State Fault Refusal := .next (s.issueT 0x010 t c true id)

/-- FENCE (R127, R108): every store of the model is visible when it is made. -/
def execFence (t : Nat) (c : BitVec 4) (s : State) : Host.Outcome State Fault Refusal :=
  .next (s.issue 0x010 t c true false false none (fun s => .ok s))

/-- BRK (R127): raises BREAK, with the next instruction as its return point (R102). -/
def execBrk (t : Nat) (c : BitVec 4) (s : State) : Host.Outcome State Fault Refusal :=
  .next (s.issue 0x010 t c true false false none (fun _ => .trapNext 0x14))

/-- GRET (R98): SEQUENCE with IN_GATE = 0 or IN_TRAP = 1 (R99). -/
def execGret (t : Nat) (c : BitVec 4) (s : State) : Host.Outcome State Fault Refusal :=
  .next (s.issue 0x010 t c true true true none (fun s =>
    let x := s.m.th t
    if !x.inGate || x.inTrap then .trap 0x0D
    else .jump (s.onM (fun m => m.setTh t x.gret)) (bits x.glink 71 48)))

/-- TRET (R104): SEQUENCE with IN_TRAP = 0 (R99). -/
def execTret (t : Nat) (c : BitVec 4) (s : State) : Host.Outcome State Fault Refusal :=
  .next (s.issue 0x010 t c true true false none (fun s =>
    let x := s.m.th t
    if !x.inTrap then .trap 0x0D
    else .stay (s.onM (fun m => m.setTh t { x.tret with pc := bits x.xlink 71 48 }))))

/-- The link of a jump (R86): PC + 1 in [23:0]; none when d is 0. -/
def Thread.link (x : Thread) (d : BitVec 5) : Thread := x.setW d (Word.of (nextPc x.pc))

/-- JMPR (R127, R135): the target is read before the link is written (log entry 14). -/
def execJmpr (t : Nat) (c : BitVec 4) (d a : BitVec 5) (s : State) : Host.Outcome State Fault Refusal :=
  .next (s.issue 0x010 t c true false false none (fun s =>
    let x := s.m.th t
    .jump (s.onM (fun m => m.setTh t (x.link d))) (bits (x.rw a) 23 0)))

/-- JMP (R135). -/
def execJmp (t : Nat) (c : BitVec 4) (d : BitVec 5) (target : BitVec 24) (s : State) : Host.Outcome State Fault Refusal :=
  .next (s.issue 0x200 t c true false false none (fun s => .jump (s.onM (fun m => m.modTh t (fun x => x.link d))) target.toNat))

/-- A special register (R128). -/
def Thread.special (x : Thread) (b : Nat) : Word :=
  if b = 0 then x.glink else if b = 1 then x.xlink else if b ≤ 5 then x.kreg (b - 2) else x.ureg (b - 6)

/-- MFS (R127, R128): a number above 9 is illegal. -/
def execMfs (t : Nat) (c : BitVec 4) (d b : BitVec 5) (s : State) : Host.Outcome State Fault Refusal :=
  .next (s.issue 0x010 t c (decide (b.toNat ≤ 9)) true false none (fun s =>
    .ok (s.onM (fun m => m.modTh t (fun x => x.setW d (x.special b.toNat))))))

/-- A write of a special register (R128); XLINK keeps the fields that R104 ignores. -/
def Thread.setSpecial (x : Thread) (b : Nat) (v : Word) : Thread :=
  if b = 0 then { x with glink := v }
  else if b = 1 then { x with xlink := putBits (putBits x.xlink 71 48 (bits v 71 48)) 41 32 (bits v 41 32) }
  else { x with k := tput (fun _ => 0) x.k (b - 2) v }

/-- MTS (R127, R128): a number above 5 is illegal. -/
def execMts (t : Nat) (c : BitVec 4) (a b : BitVec 5) (s : State) : Host.Outcome State Fault Refusal :=
  .next (s.issue 0x010 t c (decide (b.toNat ≤ 5)) true false none (fun s =>
    .ok (s.onM (fun m => m.modTh t (fun x => x.setSpecial b.toNat (x.rw a))))))

/-- RDT (R127): b must be 0–3. -/
def execRdt (t : Nat) (c : BitVec 4) (d b : BitVec 5) (s : State) : Host.Outcome State Fault Refusal :=
  .next (s.issue 0x010 t c (decide (b.toNat < 4)) false false none (fun s =>
    .ok (s.onM (fun m => m.modTh t (fun x => x.setW d (m.timer t b.toNat))))))

/-- WRT's body (R129): 0 disarms, an invalid word gives BAD_TIME, a deadline already passed expires at once. -/
def State.wrt (s : State) (t : Nat) (d : BitVec 5) (w : Word) (k : Nat) : State :=
  if w ≠ 0 ∧ timeOk w = false then s.onM (fun m => m.modTh t (fun x => x.setW d 3))
  else (s.onM (fun m => (m.setTimer t k w).modTh t (fun x => x.setW d 0))).timerDue t k

/-- WRT (R127, R129): b must be 0–3. -/
def execWrt (t : Nat) (c : BitVec 4) (d a b : BitVec 5) (s : State) : Host.Outcome State Fault Refusal :=
  .next (s.issue 0x010 t c (decide (b.toNat < 4)) false false none (fun s => .ok (s.wrt t d ((s.m.th t).rw a) b.toNat)))

/-- RDTIME (R127). -/
def execRdtime (t : Nat) (c : BitVec 4) (d : BitVec 5) (s : State) : Host.Outcome State Fault Refusal :=
  .next (s.issue 0x010 t c true false false none (fun s =>
    .ok (s.onM (fun m => m.modTh t (fun x => x.setW d (timeWord m.now))))))

/-- TADD's result (R130): 0 with V for an invalid time or a seconds field past 42 bits. -/
def aluTadd (a b : Word) : Alu :=
  let n := timeNs a + b.toNat
  if timeOk a = true ∧ n / 1000000000 < 2 ^ 42 then { r := timeWord n, v := some false } else { r := 0, v := some true }

/-- TADD (R130). -/
def execTadd (t : Nat) (c : BitVec 4) (d a b : BitVec 5) (s : State) : Host.Outcome State Fault Refusal :=
  .next (s.alu 0x010 t c true d (fun x => aluTadd (x.rw a) (x.rw b)))

/-! ### Gates (R97, R98) -/

/-- A gate-list word read for a gate (R96, R97): zeros where the list is 0 or the word is poisoned. -/
def State.gateBit (s : State) (t g : Nat) : Bool :=
  let l := s.m.g (CHAN_GATES_GATE_LIST t)
  let a := l + g / 64
  if l = 0 ∨ s.dramPoison a = true then false else bits (s.dram a) (g % 64) (g % 64) == 1

/-- The trap of a GATE, or its target (R97). -/
def State.gateCheck (s : State) (t g : Nat) : Nat ⊕ Nat :=
  let x := s.m.th t
  let a := s.m.progAddr g
  let e := if s.dramPoison a then 0 else s.dram a
  if x.priv then .inl 0x06
  else if bits e 71 71 = 0 then .inl 0x04
  else if bits e (70 - x.cls) (70 - x.cls) = 0 then .inl 0x05
  else if !s.gateBit t g then .inl 0x05
  else if bits e 23 0 < 0x440 ∨ 0xFFFFF < bits e 23 0 then .inl 0x04
  else .inr (bits e 23 0)

/-- The thread after a gate call (R98): GLINK, PRIV and IN_GATE. -/
def Thread.gate (x : Thread) : Thread :=
  ({ x with glink := linkWord (nextPc x.pc) x.tsw }.setBit 47 true).setBit 44 true

/-- GATE (R97, R98): imm [47:10] must be zero. -/
def execGate (t : Nat) (c : BitVec 4) (imm : BitVec 48) (s : State) : Host.Outcome State Fault Refusal :=
  .next (s.issue 0x090 t c (decide (imm.toNat < 1024)) false false none (fun s =>
    match s.gateCheck t imm.toNat with
    | .inl f => .trap f
    | .inr target => .jump (s.onM (fun m => m.modTh t Thread.gate)) target))

/-! ### What a gate routine does -/

/-- May the thread's gate routine act: a READY thread of a clerk that is up, at firmware privilege? The gate command is
what the vendor routine of the gate does (log entry 13). -/
def Dev.gateRuns (m : Dev) (t : Nat) : Bool := m.issues t && (m.th t).priv

/-- A gate returns (R229): W1 the status and outcome, Z for DONE. -/
def Dev.gateRet (m : Dev) (t status outcome : Nat) : Dev :=
  m.modTh t (fun x => (x.setW 1 (Word.of (status + 256 * outcome))).setBit 41 (status == 0))

/-- A gate writes a result register (R229). -/
def Dev.gateW (m : Dev) (t r : Nat) (v : Word) : Dev := m.modTh t (fun x => x.setW (BitVec.ofNat 5 r) v)

/-- An input register of a gate. -/
def Dev.gateIn (m : Dev) (t r : Nat) : Word := (m.th t).rw (BitVec.ofNat 5 r)

/-- The owner code a gate acts under (R481, R485). -/
def gateOwner (t : Nat) : Nat := if t < 512 then t else 0x201

/-- POOL_GET, gate 8 (R481). -/
def execPoolGet (t : Nat) (s : State) : Host.Outcome State Fault Refusal :=
  .next (if s.m.gateRuns t then
    let w := s.m.gateIn t 2
    let r := s.poolTake (bits w 3 0) (gateOwner t) (bits w 4 4 == 1)
    r.1.onM (fun m => (m.gateW t 2 r.2).gateRet t (if r.2 = 0 then 6 else 0) 0)
  else s)

/-- A gate that returned or passed a buffer: REFUSED with the reason in W3 (R485). -/
def State.gatePut (r : State × Nat) (t : Nat) : State :=
  r.1.onM (fun m => if r.2 = 0 then m.gateRet t 0 0 else (m.gateW t 3 (Word.of r.2)).gateRet t 8 0)

/-- POOL_PUT, gate 9 (R483). -/
def execPoolPut (t : Nat) (s : State) : Host.Outcome State Fault Refusal :=
  .next (if s.m.gateRuns t then State.gatePut (s.poolPut (s.m.gateIn t 2) (gateOwner t)) t else s)

/-- POOL_PASS, gate 10 (R484). -/
def execPoolPass (t : Nat) (s : State) : Host.Outcome State Fault Refusal :=
  .next (if s.m.gateRuns t then
    State.gatePut (s.poolPass (s.m.gateIn t 2) (gateOwner t) (bits (s.m.gateIn t 3) 9 0)) t
  else s)

/-- FIFO_CLOSE, gate 11 (R490). -/
def execFifoClose (t : Nat) (s : State) : Host.Outcome State Fault Refusal :=
  .next (if s.m.gateRuns t then
    s.onM (fun m =>
      let w := m.gateIn t 2
      let f := bits w 5 0
      if t < 512 ∧ m.chanFifo f t = false then m.gateRet t 8 0
      else if m.on (FIFO_CTRL_PACKET f) then
        let r := m.fifoClose f (bits w 10 8)
        r.1.gateRet t (if r.2 then 0 else 6) 0
      else m.gateRet t 6 0)
  else s)

end Sys2Proof.Machine
end

