-- ==== Sys2Proof/Machine/Memory.lean ====
section
/-!
DEFINITION. Machine/Memory.lean: the loads, stores and atomics on DRAM, vault and program words (R93, R94, R133, R134).
LDR and STR stand with the register space.
-/

namespace Sys2Proof.Machine

/-! ### Checks -/

/-- The extent check on n DRAM words (R93). -/
def Dev.dramExtent (m : Dev) (a n : Nat) : Bool := decide (a + n ≤ m.capacity)

/-- The privilege check on n DRAM words (R94). -/
def State.dramOwned (s : State) (t a n : Nat) : Bool := (s.m.th t).priv || s.owns t a n

/-- The trap of a DRAM access of n words, if any (R93, R94). -/
def State.dramTrap (s : State) (t a n : Nat) : Option Nat :=
  if s.m.dramExtent a n && s.dramOwned t a n then none else some 0x09

/-- The extent check on n vault words (R93). -/
def vaultExtent (a n : Nat) : Bool := decide (a + n ≤ 192 * 32768)

/-- The banks of a vault range. -/
def banksOf (a n : Nat) : List Nat := (List.range ((a + n - 1) / 32768 + 1 - a / 32768)).map (fun i => a / 32768 + i)

/-- The ownership check on n vault words (R94): every bank is the thread's cluster's. -/
def Dev.vaultOwned (m : Dev) (t a n : Nat) : Bool := (banksOf a n).all (fun b => m.bankOpen b (m.clusterOf t))

/-- The trap of a vault access of n words, if any (R93, R94). -/
def Dev.vaultTrap (m : Dev) (t a n : Nat) : Option Nat :=
  if !vaultExtent a n then some 0x0B else if !m.vaultOwned t a n then some 0x0A else none

/-- The master code of a thread's cluster (R27). -/
def Dev.threadMaster (m : Dev) (t : Nat) : Nat := 2 + m.clusterOf t

/-! ### Shared forms -/

/-- A load from DRAM (R133). -/
def State.load (s : State) (t : Nat) (d : BitVec 5) (a : Nat) : Res :=
  match s.dramTrap t a 1 with
  | some f => .trap f
  | none => if s.dramPoison a then .trap 0x0C else .ok (s.onM (fun m => m.modTh t (fun x => x.setW d (s.dram a))))

/-- What a clerk's load of a vault word meets (R133, R457): DATA_CHECK, DATA_POISON, or the word; the check's own effects
come first. -/
def State.vaultLoad (s : State) (a : Nat) (f : State → Word → Res) : Res :=
  let s := s.vaultCheck a
  if 2 ≤ s.vaultErr a then .trapIn s 0x0E else if s.vaultPoison a then .trapIn s 0x0C else f s (s.vault a)

/-- A load from a vault word (R133). -/
def State.loadV (s : State) (t : Nat) (d : BitVec 5) (a : Nat) : Res :=
  match s.m.vaultTrap t a 1 with
  | some f => .trap f
  | none => s.vaultLoad a (fun s v => .ok (s.onM (fun m => m.modTh t (fun x => x.setW d v))))

/-- An atomic on a DRAM word (R134): `f` gives, from the old word, the word to write and the flag Z it writes. -/
def State.atomic (s : State) (t : Nat) (d : BitVec 5) (a : Nat) (f : Word → Option Word × Option Bool) : Res :=
  match s.dramTrap t a 1 with
  | some e => .trap e
  | none =>
    if s.dramPoison a then .trap 0x0C
    else
      let old := s.dram a
      let s := match (f old).1 with
        | some v => s.store (.master (s.m.threadMaster t)) a v false
        | none => s
      .ok (s.onM (fun m => m.modTh t (fun x => (x.setW d old).optBit 41 (f old).2)))

/-- An atomic on a vault word (R134). -/
def State.atomicV (s : State) (t : Nat) (d : BitVec 5) (a : Nat) (f : Word → Option Word × Option Bool) : Res :=
  match s.m.vaultTrap t a 1 with
  | some e => .trap e
  | none => s.vaultLoad a (fun s old =>
      let s := match (f old).1 with
        | some v => s.vaultStore a v false
        | none => s
      .ok (s.onM (fun m => m.modTh t (fun x => (x.setW d old).optBit 41 (f old).2))))

/-- Compare and swap: the new value is written and Z set if the old equals W[d] (R134). -/
def casOp (expect new old : Word) : Option Word × Option Bool :=
  if old = expect then (some new, some true) else (none, some false)

/-! ### Meanings -/

/-- LD (R133). -/
def execLd (t : Nat) (c : BitVec 4) (d a b : BitVec 5) (scale : BitVec 3) (off : BitVec 40) (s : State) :
    Host.Outcome State Fault Refusal :=
  .next (s.issue 0x100 t c true false false none (fun s => s.load t d ((s.m.th t).ea a b scale off)))

/-- ST (R133): stores W[d]. -/
def execSt (t : Nat) (c : BitVec 4) (d a b : BitVec 5) (scale : BitVec 3) (off : BitVec 40) (s : State) :
    Host.Outcome State Fault Refusal :=
  .next (s.issue 0x101 t c true false false none (fun s =>
    let x := s.m.th t
    let ad := x.ea a b scale off
    match s.dramTrap t ad 1 with
    | some f => .trap f
    | none => .ok (s.store (.master (s.m.threadMaster t)) ad (x.rw d) false)))

/-- LDV (R133). -/
def execLdv (t : Nat) (c : BitVec 4) (d a b : BitVec 5) (scale : BitVec 3) (off : BitVec 40) (s : State) :
    Host.Outcome State Fault Refusal :=
  .next (s.issue 0x102 t c true false false none (fun s => s.loadV t d ((s.m.th t).ea a b scale off)))

/-- STV (R133): stores W[d]. -/
def execStv (t : Nat) (c : BitVec 4) (d a b : BitVec 5) (scale : BitVec 3) (off : BitVec 40) (s : State) :
    Host.Outcome State Fault Refusal :=
  .next (s.issue 0x103 t c true false false none (fun s =>
    let x := s.m.th t
    let ad := x.ea a b scale off
    match s.m.vaultTrap t ad 1 with
    | some f => .trap f
    | none => .ok (s.vaultStore ad (x.rw d) false)))

/-- LDP (R133): a program word, bits [71:24] of the address ignored. -/
def execLdp (t : Nat) (c : BitVec 4) (d a b : BitVec 5) (scale : BitVec 3) (off : BitVec 40) (s : State) :
    Host.Outcome State Fault Refusal :=
  .next (s.issue 0x106 t c true true false none (fun s =>
    let ad := s.m.progAddr ((s.m.th t).ea a b scale off)
    if s.dramPoison ad then .trap 0x0C else .ok (s.onM (fun m => m.modTh t (fun x => x.setW d (s.dram ad))))))

/-- AADD (R134): writes old + W[d]. -/
def execAadd (t : Nat) (c : BitVec 4) (d a b : BitVec 5) (scale : BitVec 3) (off : BitVec 40) (s : State) :
    Host.Outcome State Fault Refusal :=
  .next (s.issue 0x108 t c true false false none (fun s =>
    let x := s.m.th t
    s.atomic t d (x.ea a b scale off) (fun old => (some (old + x.rw d), none))))

/-- ASWP (R134): writes W[d]. -/
def execAswp (t : Nat) (c : BitVec 4) (d a b : BitVec 5) (scale : BitVec 3) (off : BitVec 40) (s : State) :
    Host.Outcome State Fault Refusal :=
  .next (s.issue 0x109 t c true false false none (fun s =>
    let x := s.m.th t
    s.atomic t d (x.ea a b scale off) (fun _ => (some (x.rw d), none))))

/-- ACAS (R134): the address is W[a] + offset, field b names the new value, scale must be 0. -/
def execAcas (t : Nat) (c : BitVec 4) (d a b : BitVec 5) (scale : BitVec 3) (off : BitVec 40) (s : State) :
    Host.Outcome State Fault Refusal :=
  .next (s.issue 0x10A t c (scale == 0) false false none (fun s =>
    let x := s.m.th t
    s.atomic t d (x.eaCas a off) (casOp (x.rw d) (x.rw b))))

/-- AADDV (R134). -/
def execAaddv (t : Nat) (c : BitVec 4) (d a b : BitVec 5) (scale : BitVec 3) (off : BitVec 40) (s : State) :
    Host.Outcome State Fault Refusal :=
  .next (s.issue 0x10C t c true false false none (fun s =>
    let x := s.m.th t
    s.atomicV t d (x.ea a b scale off) (fun old => (some (old + x.rw d), none))))

/-- ACASV (R134). -/
def execAcasv (t : Nat) (c : BitVec 4) (d a b : BitVec 5) (scale : BitVec 3) (off : BitVec 40) (s : State) :
    Host.Outcome State Fault Refusal :=
  .next (s.issue 0x10D t c (scale == 0) false false none (fun s =>
    let x := s.m.th t
    s.atomicV t d (x.eaCas a off) (casOp (x.rw d) (x.rw b))))

end Sys2Proof.Machine
end

