-- ==== Sys2Proof/Machine/Queue.lean ====
section
/-!
DEFINITION. Machine/Queue.lean: engine submission (R136–R140, R659) and the QUEUE group: tickets, FIFOs, mailboxes and
bank ownership (R146–R148).
-/

namespace Sys2Proof.Machine

/-! ### Engine queues -/

/-- Depth of a queue and entries held for Live work (R234, R296, R300, R340, R368, R522). -/
def queueDepth : Nat → Nat × Nat
  | 0x00 => (256, 0) | 0x01 => (64, 0) | 0x02 => (128, 0) | 0x03 => (32, 0) | 0x08 => (256, 64) | 0x09 => (128, 32)
  | 0x10 => (64, 16) | 0x18 => (128, 32) | 0x20 => (128, 32) | 0x30 => (256, 64) | 0x38 => (256, 32) | _ => (0, 0)

/-- Is a queue open to a class (R137)? -/
def queueOpen (q cls : Nat) : Bool :=
  smem queueNumbers q && (cls == 3 ||
    (if q = 0x00 ∨ q = 0x02 then cls == 1 || cls == 2 else if q = 0x01 ∨ q = 0x03 then cls == 0 else true))

/-- The class work runs at (R137): a service context's work is Live on queues 01h and 03h and Play elsewhere. -/
def workClass (q cls : Nat) : Nat := if cls = 3 then (if q = 1 ∨ q = 3 then 0 else 1) else cls

/-- Has a queue an entry free for work of a class (R659)? -/
def Dev.queueRoom (m : Dev) (q cls : Nat) : Bool :=
  let d := queueDepth q
  let l := m.queue q
  decide (l.length < d.1) && (cls == 0 || decide ((l.filter (fun e => e.cls != 0)).length < d.1 - d.2))

/-- The ticket word (R139). -/
def ticketWord (q serial : Nat) (tsw : Word) : Word :=
  Word.of (2 ^ 71 + at_ 70 63 q + at_ 62 54 (bits tsw 25 17) + at_ 53 49 (bits tsw 16 12) + at_ 48 45 (bits tsw 11 8)
    + at_ 31 0 serial)

/-- The serial after one (R139). -/
def nextSerial (n : Nat) : Nat := if n = 0xFFFFFFFF then 1 else n + 1

/-- An accepted ENQ (R139, R140): the ticket is issued, Z cleared, the copy of the block queued. -/
def Dev.enq (m : Dev) (t : Nat) (d : BitVec 5) (q flags addr : Nat) (block : List Word) : Dev :=
  let x := m.th t
  let w := ticketWord q x.serial x.tsw
  let y := { x with serial := nextSerial x.serial, tickets := x.tickets ++ [Ticket.mk w none] }
  let m := m.setTh t ((y.setW d w).setBit 41 false)
  let prev := tget (fun _ => 0) m.lastTick (t * 256 + q)
  let m := m.setQueue q (m.queue q ++ [QEntry.mk w t (workClass q x.cls) flags block addr m.qOrder prev])
  { m with qOrder := m.qOrder + 1, lastTick := tput (fun _ => 0) m.lastTick (t * 256 + q) w }

/-- The checks of ENQ after decode, in order (R136). -/
def State.enqBody (s : State) (t : Nat) (d : BitVec 5) (q flags a n : Nat) : Res :=
  let x := s.m.th t
  if !queueOpen q x.cls then .trap 0x10
  else match s.dramTrap t a n with
    | some f => .trap f
    | none =>
      let refuse := fun (code : Nat) => Res.ok (s.onM (fun m => m.setTh t ((x.setW d (Word.of code)).setBit 41 true)))
      if 64 ≤ x.tickets.length then refuse 7
      else if !s.m.queueRoom q (workClass q x.cls) then refuse 5
      else if s.anyPoison a n then .trap 0x0C
      else .ok (s.onM (fun m => m.enq t d q flags a (s.drams a n)))

/-- ENQ (R136, R140): the length must be 1–64 and the unused flags zero. -/
def execEnq (t : Nat) (c : BitVec 4) (d a : BitVec 5) (queue flags : BitVec 8) (len : BitVec 32) (s : State) :
    Host.Outcome State Fault Refusal :=
  .next (s.issue 0x180 t c (decide (1 ≤ len.toNat) && decide (len.toNat ≤ 64) && decide (flags.toNat < 4)) false false none
    (fun s => s.enqBody t d queue.toNat flags.toNat ((s.m.th t).rw a).toNat len.toNat))

/-! ### Tickets -/

/-- The ticket of a word that a thread holds (R143). -/
def Thread.ticket (x : Thread) (w : Word) : Option Ticket :=
  if bits w 71 71 = 0 then none else x.tickets.find? (fun k => k.word == w)

/-- The thread without a collected ticket (R142). -/
def Thread.collect (x : Thread) (w : Word) : Thread := { x with tickets := x.tickets.filter (fun k => k.word != w) }

/-- TSTAT (R146). -/
def execTstat (t : Nat) (c : BitVec 4) (d a b : BitVec 5) (s : State) : Host.Outcome State Fault Refusal :=
  .next (s.issue 0x011 t c true false false none (fun s =>
    let x := s.m.th t
    let w := x.rw a
    match x.ticket w with
    | none => .trap 0x11
    | some k => match k.done with
      | none => .ok (s.onM (fun m => m.setTh t (x.setW d 9)))
      | some v => .ok (s.onM (fun m => m.setTh t (((x.collect w).setW b v).setW d 0)))))

/-! ### FIFOs -/

/-- May a thread pop a FIFO (R143, R146, R488)? Its own channel's, and at firmware privilege its cluster's. -/
def Dev.mayPop (m : Dev) (t f : Nat) : Bool :=
  (decide (t < 512) && m.chanReads f t) ||
    ((m.th t).priv && m.g (FIFO_CTRL_READER_KIND f) == 1 && m.g (FIFO_CTRL_READER f) == m.clusterOf t)

/-- FPUSH (R146, R489). -/
def execFpush (t : Nat) (c : BitVec 4) (d a b : BitVec 5) (s : State) : Host.Outcome State Fault Refusal :=
  .next (s.issue 0x011 t c true false false none (fun s =>
    let x := s.m.th t
    let f := bits (x.rw a) 5 0
    if !x.priv && !s.m.chanFifo f t then .trap 0x12
    else .ok (s.onM (fun m =>
      let r := m.fifoPush f (bits (x.rw a) 10 8) (x.rw b) (!x.priv)
      r.1.modTh t (fun x => x.setW d (if r.2 then 0 else 5))))))

/-- FTRY (R146): the code is written after the word (log entry 14). -/
def execFtry (t : Nat) (c : BitVec 4) (d a b : BitVec 5) (s : State) : Host.Outcome State Fault Refusal :=
  .next (s.issue 0x011 t c true false false none (fun s =>
    let x := s.m.th t
    let f := bits (x.rw a) 5 0
    if !x.priv && !s.m.chanReads f t then .trap 0x12
    else if !s.m.mayPop t f then .ok (s.onM (fun m => m.setTh t (x.setW d 8)))
    else .ok (s.onM (fun m => match m.fifoPop f with
      | (m, some w) => m.modTh t (fun x => (x.setW b w).setW d 0)
      | (m, none) => m.modTh t (fun x => x.setW d 6)))))

/-- FLEN (R146, R488): the readable entries. -/
def execFlen (t : Nat) (c : BitVec 4) (d a : BitVec 5) (s : State) : Host.Outcome State Fault Refusal :=
  .next (s.issue 0x011 t c true false false none (fun s =>
    let x := s.m.th t
    let f := bits (x.rw a) 5 0
    if !x.priv && !s.m.chanFifo f t then .trap 0x12
    else .ok (s.onM (fun m => m.setTh t (x.setW d (Word.of (m.fifo f).ready))))))

/-! ### Mailboxes -/

/-- The side of a mailbox that is bound to a cluster, if one is (R527): `false` A, `true` B. -/
def Dev.clusterSide (m : Dev) (t b : Nat) : Option Bool :=
  if m.sideOpen (m.threadMaster t) b false then some false
  else if m.sideOpen (m.threadMaster t) b true then some true else none

/-- A mailbox instruction: MAILBOX_DENIED on a mailbox not bound to the cluster (R146). -/
def State.mailbox (s : State) (t : Nat) (c : BitVec 4) (a : BitVec 5) (f : Dev → Nat → Bool → Dev) : State :=
  s.issue 0x011 t c true false false none (fun s =>
    let b := bits ((s.m.th t).rw a) 5 0
    match s.m.clusterSide t b with
    | none => .trap 0x13
    | some side => .ok (s.onM (fun m => f m b side)))

/-- MPOST (R146, R529). -/
def execMpost (t : Nat) (c : BitVec 4) (d a b : BitVec 5) (s : State) : Host.Outcome State Fault Refusal :=
  .next (s.mailbox t c a (fun m k side =>
    let r := m.mbxPost k side ((m.th t).rw b)
    r.1.modTh t (fun x => x.setW d (if r.2 then 0 else 5))))

/-- MRECV (R146, R530): the code is written after the word (log entry 14). -/
def execMrecv (t : Nat) (c : BitVec 4) (d a b : BitVec 5) (s : State) : Host.Outcome State Fault Refusal :=
  .next (s.mailbox t c a (fun m k side =>
    match m.mbxTake k side with
    | (m, some w) => m.modTh t (fun x => (x.setW b w).setW d 0)
    | (m, none) => m.modTh t (fun x => x.setW d 6)))

/-- MACK (R146, R531). -/
def execMack (t : Nat) (c : BitVec 4) (d a b : BitVec 5) (s : State) : Host.Outcome State Fault Refusal :=
  .next (s.mailbox t c a (fun m k side =>
    let r := m.mbxAck k side (bits ((m.th t).rw b) 15 0)
    r.1.modTh t (fun x => x.setW d (if r.2 then 0 else 6))))

/-- MSTAT (R146). -/
def execMstat (t : Nat) (c : BitVec 4) (d a : BitVec 5) (s : State) : Host.Outcome State Fault Refusal :=
  .next (s.mailbox t c a (fun m k side => m.modTh t (fun x => x.setW d (m.mbxStatus k side))))

/-! ### Bank ownership (R147, R148) -/

/-- Does a long instruction of a cluster mark the bank (R148)? -/
def Dev.markedBy (m : Dev) (k b : Nat) : Bool := m.threads.any (fun e => m.clusterOf e.1 == k && smem e.2.marks b)

/-- GIVE's outcome after its traps (R148): the status, with the hand-over where it is DONE. -/
def Dev.give (m : Dev) (t b code : Nat) : Dev × Nat :=
  let k := m.clusterOf t
  if !ownerCode code || ((code == 0x700 || code == 0x800) && !(m.th t).priv) then (m, 8)
  else if m.markedBy k b then (m, 7)
  else if code = k then (m, 0)
  else if m.handoverBar b code ≠ 0 then (m, 8)
  else (m.p (VAULT_OWNER_OWNER b) code, 0)

/-- GIVE (R148). -/
def execGive (t : Nat) (c : BitVec 4) (d a b : BitVec 5) (s : State) : Host.Outcome State Fault Refusal :=
  .next (s.issue 0x011 t c true false false none (fun s =>
    let x := s.m.th t
    let bank := bits (x.rw a) 7 0
    if 191 < bank then .trap 0x0B
    else if s.m.g (VAULT_OWNER_OWNER bank) ≠ s.m.clusterOf t then .trap 0x0A
    else .ok (s.onM (fun m =>
      let r := m.give t bank (bits (x.rw b) 11 0)
      r.1.modTh t (fun x => x.setW d (Word.of r.2))))))

/-- OWNER (R146). -/
def execOwner (t : Nat) (c : BitVec 4) (d a : BitVec 5) (s : State) : Host.Outcome State Fault Refusal :=
  .next (s.issue 0x011 t c true false false none (fun s =>
    let x := s.m.th t
    let bank := bits (x.rw a) 7 0
    if 191 < bank then .trap 0x0B
    else .ok (s.onM (fun m => m.setTh t (x.setW d (Word.of (m.g (VAULT_OWNER_OWNER bank))))))))

end Sys2Proof.Machine
end

