-- ==== Sys2Proof/Machine/Waits.lean ====
section
/-!
DEFINITION. Machine/Waits.lean: the WAIT group (R143–R145), the end of a wait (R110, R111), channel timers (R179), and
asynchronous traps (R103, R658).
-/

namespace Sys2Proof.Machine

/-! ### Conditions -/

/-- The threads that wait in FPOP on a FIFO: class, order, thread (R145). -/
def Dev.fpopWaiters (m : Dev) (f : Nat) : List (Nat × Nat × Nat) :=
  m.threads.filterMap (fun e => match e.2.wait with
    | some w => if w.kind = .fpop ∧ bits w.operand 5 0 = f then some (e.2.cls, w.order, e.1) else none
    | none => none)

/-- Does a thread come first among the waiters of a FIFO: a Live one before any other, then the oldest wait (R145)? -/
def Dev.fpopFirst (m : Dev) (f t cls order : Nat) : Bool :=
  (m.fpopWaiters f).all (fun e => e.2.2 == t || (cls == 0 && e.1 != 0) || ((cls == 0) == (e.1 == 0) && decide (order ≤ e.2.1)))

/-- Does the condition of a wait hold (R143, R144, R145)? -/
def Dev.waitHolds (m : Dev) (t : Nat) (w : Wait) : Bool :=
  let x := m.th t
  match w.kind with
  | .waitk => match x.ticket w.operand with | some k => k.done.isSome | none => false
  | .waite => (m.latchOf t &&& bits w.operand 7 0) != 0
  | .waitt => decide (timeNs w.operand ≤ m.now)
  | .fpop =>
    let f := bits w.operand 5 0
    m.mayPop t f && (m.fifo f).ready != 0 && m.fpopFirst f t x.cls w.order

/-- The effect of a wait whose condition holds (R143): collected, taken or popped, W[b] written. -/
def Dev.waitEffect (m : Dev) (t : Nat) (w : Wait) : Dev :=
  let b := BitVec.ofNat 5 w.b
  match w.kind with
  | .waitk => m.modTh t (fun x => match x.ticket w.operand with
    | some k => (x.collect w.operand).setW b (k.done.getD 0)
    | none => x)
  | .waite =>
    let ev := m.latchOf t &&& bits w.operand 7 0
    (m.latchTake t ev).modTh t (fun x => x.setW b (Word.of ev))
  | .waitt => m
  | .fpop => match m.fifoPop (bits w.operand 5 0) with
    | (m, some v) => m.modTh t (fun x => x.setW b v)
    | (m, none) => m

/-! ### Starting a wait -/

/-- Is a guard field legal: none, or T0–T3 (R143)? -/
def guardOk (g : BitVec 3) : Bool := g == 0 || decide (4 ≤ g.toNat)

/-- The guard timer a field names (R143). -/
def guardTimer (g : BitVec 3) : Option Nat := if 4 ≤ g.toNat then some (g.toNat - 4) else none

/-- Has the guard timer's deadline already passed (R143)? -/
def Dev.guardPast (m : Dev) (t : Nat) : Option Nat → Bool
  | none => false
  | some k => m.timer t k != 0 && decide (timeNs (m.timer t k) ≤ m.now)

/-- A wait begins (R111): DONE at once where its condition holds, TIMEOUT where the guard has passed, else WAITING. -/
def State.startWait (s : State) (t : Nat) (w : Wait) : Res :=
  let d := BitVec.ofNat 5 w.d
  if s.m.waitHolds t w then .ok (s.onM (fun m => (m.waitEffect t w).modTh t (fun x => x.setW d 0)))
  else if s.m.guardPast t w.guard then .ok (s.onM (fun m => m.modTh t (fun x => x.setW d 1)))
  else .stay (s.onM (fun m =>
    { m.modTh t (fun x => { x with st := .waiting, wait := some w }) with waitCtr := m.waitCtr + 1 }))

/-- A wait instruction whose operand passes its checks. -/
def State.waitOn (s : State) (t : Nat) (kind : WaitKind) (d b : BitVec 5) (g : BitVec 3) (op : Word) : Res :=
  s.startWait t ⟨kind, d.toNat, b.toNat, guardTimer g, op, s.m.waitCtr⟩

/-! ### Meanings -/

/-- WAITK (R143). -/
def execWaitk (t : Nat) (c : BitVec 4) (d a b : BitVec 5) (guard : BitVec 3) (s : State) :
    Host.Outcome State Fault Refusal :=
  .next (s.issue 0x012 t c (guardOk guard) false false none (fun s =>
    let x := s.m.th t
    match x.ticket (x.rw a) with
    | none => .trap 0x11
    | some _ => s.waitOn t .waitk d b guard (x.rw a)))

/-- WAITE (R143, R144). -/
def execWaite (t : Nat) (c : BitVec 4) (d a b : BitVec 5) (guard : BitVec 3) (s : State) :
    Host.Outcome State Fault Refusal :=
  .next (s.issue 0x012 t c (guardOk guard) false false none (fun s => s.waitOn t .waite d b guard ((s.m.th t).rw a)))

/-- WAITT (R143): BAD_TIME for an invalid time, LATE for one that has passed. -/
def execWaitt (t : Nat) (c : BitVec 4) (d a : BitVec 5) (guard : BitVec 3) (s : State) :
    Host.Outcome State Fault Refusal :=
  .next (s.issue 0x012 t c (guardOk guard) false false none (fun s =>
    let x := s.m.th t
    let w := x.rw a
    if !timeOk w then .ok (s.onM (fun m => m.setTh t (x.setW d 3)))
    else if timeNs w < s.m.now then .ok (s.onM (fun m => m.setTh t (x.setW d 4)))
    else s.waitOn t .waitt d 0 guard w))

/-- FPOP (R143): FIFO_DENIED at channel privilege on a FIFO whose reader is not the channel. -/
def execFpop (t : Nat) (c : BitVec 4) (d a b : BitVec 5) (guard : BitVec 3) (s : State) :
    Host.Outcome State Fault Refusal :=
  .next (s.issue 0x012 t c (guardOk guard) false false none (fun s =>
    let x := s.m.th t
    if !x.priv && !s.m.chanReads (bits (x.rw a) 5 0) t then .trap 0x12
    else s.waitOn t .fpop d b guard (x.rw a)))

/-- The condition of a thread's wait is met (R111): DONE with its effect. A WAITT's event brings its deadline. -/
def State.waitMet (s : State) (t : Nat) : State :=
  match (s.m.th t).wait with
  | none => s
  | some w =>
    let s := if w.kind = .waitt then s.onM (fun m => m.reach (timeNs w.operand)) else s
    if s.m.waitHolds t w then (s.onM (fun m => m.waitEffect t w)).endWait t 0 else s

/-- WAIT_CONDITION_MET (R111). -/
def execWaitConditionMet (t : Nat) (s : State) : Host.Outcome State Fault Refusal :=
  .next (if s.m.coreUp && decide (t < 544) then s.waitMet t else s)

/-- TIMER_EXPIRY (R179): device time reaches the nonzero deadline of timer k. -/
def execTimerExpiry (t k : Nat) (s : State) : Host.Outcome State Fault Refusal :=
  let w := s.m.timer t (k % 4)
  .next (if w ≠ 0 ∧ t < 544 then (s.onM (fun m => m.reach (timeNs w))).timerExpire t (k % 4) else s)

/-! ### Asynchronous traps -/

/-- The asynchronous causes present at a channel's thread, lowest first (R100, R180, R540). -/
def Dev.asyncCause (m : Dev) (n : Nat) : Option Nat :=
  if m.intChannel n then some 0x20
  else match (List.range 4).find? (fun k => m.on (CHAN_TIMER_CTRL_EXP n k) && m.on (CHAN_TIMER_CTRL_TRAP_EN n k)) with
    | some k => some (0x21 + k)
    | none => if (m.th n).stopReq then some 0x25 else none

/-- May an asynchronous trap be taken (R103): READY or WAITING, PRIV = 0, IE = 1, IN_TRAP = 0? -/
def Thread.asyncOpen (x : Thread) : Bool :=
  (x.st == .ready || x.st == .waiting) && !x.priv && x.ie && !x.inTrap

/-- Does an exchange that takes effect at a wait come first (R176)? -/
def Dev.swapFirst (m : Dev) (n : Nat) : Bool := (m.th n).st == .waiting && m.on (CHAN_STATUS_SWAP_PENDING n)

/-- The vendor handler of DEBUG_STOP stops the thread (R658): STOPPED, the request gone, the STOP command DONE. -/
def Dev.stopTaken (m : Dev) (n : Nat) : Dev :=
  let m := m.modTh n (fun x => { x with st := .stopped, stopReq := false })
  if m.g (CHAN_CMD_CMD n) = 4 ∧ m.on (CHAN_STATUS_CMD_BUSY n) = true then
    (m.p (CHAN_STATUS_CMD_BUSY n) 0).p (CHAN_STATUS_CMD_RESULT n) 0
  else m

/-- A pending asynchronous cause is taken (R102, R103, R195): the long instruction is saved, and the return point is the
instruction the thread stands at. DEBUG_STOP is cleared at its source when it is taken (R658). -/
def State.asyncTrap (s : State) (n : Nat) : State :=
  let x := s.m.th n
  match s.m.asyncCause n with
  | none => s
  | some c =>
    if x.asyncOpen && !s.m.swapFirst n then
      let s := s.onM (fun m => m.microTrap n)
      let s := s.trapTo n c x.pc x.pc
      if c = 0x25 then
        if (s.m.th n).st = .ready then s.onM (fun m => m.stopTaken n)
        else s.onM (fun m => m.modTh n (fun x => { x with stopReq := false }))
      else s
    else s

/-- ASYNC_TRAP (R103). -/
def execAsyncTrap (t : Nat) (s : State) : Host.Outcome State Fault Refusal :=
  .next (if s.m.coreUp && decide (t < 512) then s.asyncTrap t else s)

end Sys2Proof.Machine
end

