-- ==== Sys2Proof/Machine/Admission.lean ====
section
/-!
DEFINITION. Machine/Admission.lean: demand and admission (R166–R170), the Live guarantee (R163, R164) and shedding
(R184–R186).
-/

namespace Sys2Proof.Machine

/-! ### Demand (R166) -/

/-- What is held for a channel: its class and clerk, and words 4–6 of its record. -/
structure Demand where
  n : Nat
  cls : Nat
  clerk : Nat
  w4 : Word
  w5 : Word
  w6 : Word
  deriving DecidableEq, Repr

/-- The demand on a resource, by its ADMIT_RESOURCE code. -/
def Demand.on (d : Demand) : Nat → Nat
  | 0 => bits d.w4 71 56 | 1 => bits d.w4 55 40 | 2 => bits d.w4 39 24 | 3 => bits d.w4 23 12 | 4 => bits d.w4 11 0
  | 5 => bits d.w5 71 62 | 6 => bits d.w5 61 48 | 7 => bits d.w5 47 32 | 8 => bits d.w5 31 16 | _ => bits d.w5 15 0

/-- Does a channel's CHAIN or LAMP demand fall on a link or port? -/
def Demand.names (d : Demand) (res k : Nat) : Bool := if res = 8 then bits d.w6 (64 + k) (64 + k) == 1 else bits d.w6 k k == 1

/-- The pending exchange of a channel (R175). -/
def Dev.swapOf (m : Dev) (n : Nat) : Option Swap := tget (fun _ => none) m.swaps n

/-- The demand a channel holds from its load on (R170). -/
def Dev.heldDemand (m : Dev) (n : Nat) : List Demand :=
  if m.on (CHAN_STATUS_ADMITTED n) then
    [⟨n, m.g (CHAN_CTRL_CLASS n), m.g (CHAN_CTRL_HOME_CLERK n), m.rd (CHAN_DEMAND0_addr n), m.rd (CHAN_DEMAND1_addr n), m.rd (CHAN_DEMAND2_addr n)⟩]
  else []

/-- The new demand a pending exchange holds (R177). -/
def Dev.newDemand (m : Dev) (n : Nat) : List Demand :=
  match m.swapOf n with
  | some w => if w.newDemand then
      [⟨n, m.g (CHAN_CTRL_CLASS n), m.g (CHAN_CTRL_HOME_CLERK n), nthWord w.ws 4, nthWord w.ws 5, nthWord w.ws 6⟩] else []
  | none => []

/-- Every demand held, but for the old demand of one channel (R177); none is left out for 512. -/
def Dev.demands (m : Dev) (skip : Nat) : List Demand :=
  (List.range 512).flatMap (fun n => (if n = skip then [] else m.heldDemand n) ++ m.newDemand n)

/-- The sum of the demand on a resource: over the clerk for CLERK, over a link or port for CHAIN and LAMP. -/
def sumOn (l : List Demand) (res clerk k : Nat) : Nat :=
  ((l.filter (fun d => if res = 5 then d.clerk == clerk else if 8 ≤ res then d.names res k else true)).map (·.on res)).sum

/-- The DRAM rate in units of 0.1 GB/s (R463). -/
def Dev.dramRate (m : Dev) : Nat := match m.g DRAM_CONFIG_RATE with | 0 => 3456 | 1 => 4032 | _ => 4608

/-- The Live reserve of a lamp port and its MAC rate, in Mbit/s (R416, R417). -/
def portReserve (rate : Nat) : Nat := if rate = 0 then 2500 else if rate = 1 then 625 else 250
def portMac (rate : Nat) : Nat := if rate = 0 then 10000 else if rate = 1 then 2500 else 1000

/-- The Live reserve of a resource (R167, R463). -/
def Dev.reserve (m : Dev) (res k : Nat) : Nat :=
  match res with
  | 0 => 2812 | 1 => 3375 | 2 => 2109 | 3 => 703 | 4 => 1406 | 5 => 180 | 6 => m.dramRate / 4 | 7 => 1440 | 8 => 50000
  | _ => portReserve (m.g (PORT_CTRL_RATE k))

/-- The capacity that all demand together is held to at ADMIT_PACE, times 1024 (R49, R169). -/
def Dev.capacityOf (m : Dev) (res pace k : Nat) : Nat :=
  match res with
  | 0 => 16000 * pace | 1 => 24000 * pace | 2 => 12000 * pace | 3 => 4000 * pace | 4 => 8000 * pace | 5 => 1024 * pace
  | 6 => m.dramRate * 1024 | 7 => 8192 * pace | 8 => 200000 * 1024 | _ => portMac (m.g (PORT_CTRL_RATE k)) * 1024

/-- The links or ports a demand names; one place for every other resource. -/
def Demand.places (d : Demand) (res : Nat) : List Nat :=
  if res = 8 then (List.range 8).filter (fun k => d.names 8 k)
  else if res = 9 then (List.range 64).filter (fun k => d.names 9 k) else [0]

/-- ADMIT_PACE, held to 720–1536. -/
def Dev.admitPace (m : Dev) : Nat := max 720 (min 1536 (m.g LOAD_CTRL_ADMIT_PACE))

/-- Does a demand fit on a resource beside what is held (R168 check 5, R169)? -/
def Dev.fits (m : Dev) (l : List Demand) (d : Demand) (res : Nat) : Bool :=
  if d.cls = 0 then
    (d.places res).all (fun k => decide (sumOn (l.filter (·.cls == 0)) res d.clerk k + d.on res ≤ m.reserve res k))
  else
    let l := if res = 1 then l.filter (·.cls != 0) else l
    (d.places res).all (fun k => decide ((sumOn l res d.clerk k + d.on res) * 1024
      ≤ m.capacityOf res m.admitPace k))

/-- ADMIT_REASON and ADMIT_RESOURCE of a demand (R168, R169); reason 0 admits. -/
def Dev.admitCheck (m : Dev) (d : Demand) (skip : Nat) : Nat × Nat :=
  let l := m.demands skip
  let live := l.filter (·.cls == 0)
  let ovr := (List.range 10).find? (fun r => !m.fits l d r)
  if d.cls = 0 then
    if m.g PACE_NOW_PACE_INDEX < 720 then (5, 0)
    else if 64 ≤ ((live.map (·.n)).eraseDups).length then (1, 0)
    else if 2 ≤ (((live.filter (·.clerk == d.clerk)).map (·.n)).eraseDups).length then (2, 0)
    else match ovr with | some r => (3, r) | none => (0, 0)
  else match ovr with | some r => (4, r) | none => (0, 0)

/-! ### The Live guarantee -/

/-- Is the configuration compact (R563)? A device whose fabric is not enabled is its pane's only one. -/
def Dev.compact (m : Dev) : Bool := !m.on FAB_CTRL_ENABLE || m.on FAB_STATUS_COMPACT

/-- The identities of the members of a channel's regional group; none without one (R359). -/
def Dev.groupMembers (m : Dev) (n : Nat) : List Nat :=
  match (m.dec n).bind (·.region) with | some g => g.members | none => []

/-- Are a channel's own conditions of R563 met: its members in this pane, at most 16 hops between any two with every link UP? -/
def Dev.compactFor (m : Dev) (n : Nat) : Bool :=
  let l := m.groupMembers n
  l.all (fun a => paneOf a == paneOf m.ident && (let ds := m.distances true a
    l.all (fun b => match ds.find? (fun e => e.1 == b) with | some e => decide (e.2 ≤ 16) | none => false)))

/-- Does a Live channel own a layer outside every LIVE region (R402)? -/
def Dev.strayLayer (m : Dev) (n : Nat) : Bool :=
  (List.range 256).any (fun l => m.cOn (LAYER_CTRL_ASSIGNED l) && m.cg (LAYER_CTRL_CHANNEL l) == n &&
    m.cg (COMP_REGION_MODE (m.cg (LAYER_CTRL_REGION l))) != 2)

/-- The first condition of R163 that is false: none, the first row (`some 0`), or a suspension reason. -/
def Dev.liveFalseReason (m : Dev) (n : Nat) : Option Nat :=
  let st := (m.th n).st
  if !(m.on (CHAN_STATUS_ADMITTED n) && m.g (CHAN_CTRL_CLASS n) == 0 && (st == .ready || st == .waiting)) then some 0
  else if m.g PACE_NOW_PACE_INDEX < 720 then some 1
  else if !m.compact || !m.compactFor n then some 2
  else if smem m.reroute n then some 3
  else if tget (fun _ => 0) m.liveOver n != 0 || tget (fun _ => 0) m.meterOver n != 0 then some 4
  else if m.strayLayer n then some 5 else none

/-- The guarantee is withdrawn or its reason changes (R164). -/
def Dev.suspend (m : Dev) (n reason : Nat) : Dev :=
  let news := m.on (CHAN_STATUS_LIVE_GUARANTEE n) || (m.g (CHAN_STATUS_SUSPEND_REASON n) != reason)
  let m := (m.p (CHAN_STATUS_LIVE_GUARANTEE n) 0).p (CHAN_STATUS_SUSPEND_REASON n) reason
  if news then (m.event 33 2).report 0x11 1 n reason else m

/-- When a condition other than the first was last false, plus 1; 0 for never (R164). -/
def Dev.lastBad (m : Dev) (n : Nat) : Nat := max (tget (fun _ => 0) m.liveBad n) m.paceBad

/-- LIVE_GUARANTEE and SUSPEND_REASON follow the conditions of R163 (R164). -/
def Dev.liveCheck (m : Dev) (n : Nat) : Dev :=
  match m.liveFalseReason n with
  | some 0 => m.suspend n 0
  | some r =>
    { m.suspend n r with liveBad := tput (fun _ => 0) m.liveBad n (m.now + 1), liveFalse := sinsert m.liveFalse n }
  | none =>
    let m := if smem m.liveFalse n then
      { m with liveBad := tput (fun _ => 0) m.liveBad n (m.now + 1), liveFalse := sremove m.liveFalse n } else m
    if m.lastBad n = 0 ∨ m.lastBad n + 1000000 ≤ m.now + 1 then
      (m.p (CHAN_STATUS_LIVE_GUARANTEE n) 1).p (CHAN_STATUS_SUSPEND_REASON n) 0
    else m

/-- Follow the conditions on every Live channel that is admitted. -/
def Dev.liveAll (m : Dev) : Dev :=
  let m := if m.g PACE_NOW_PACE_INDEX < 720 then { m with paceBad := m.now + 1 } else m
  m.each 512 (fun n m => if m.on (CHAN_STATUS_ADMITTED n) && m.g (CHAN_CTRL_CLASS n) == 0 then m.liveCheck n else m)

/-- The record of a channel's past is dropped when its program goes. -/
def Dev.liveForget (m : Dev) (n : Nat) : Dev :=
  { m with liveBad := tput (fun _ => 0) m.liveBad n 0, liveFalse := sremove m.liveFalse n, liveOver := tput (fun _ => 0) m.liveOver n 0, meterOver := tput (fun _ => 0) m.meterOver n 0, reroute := sremove m.reroute n }

/-! ### Shedding -/

/-- Set or clear the shed mark of a channel (R184, R186). A restored channel's cluster serves its thread again, and a
restored Play or Bulk channel discards its input until its next random-access point. A shed regional channel sends AWAY
(R374). -/
def Dev.setShed (m : Dev) (n : Nat) (b : Bool) : Dev :=
  let m := (m.pb (CHAN_STATUS_SHED n) b).pb ⟨SHED_MAP_addr (n / 64), n % 64, n % 64⟩ b
  if b then { m.sendAway n with shedStack := n :: m.shedStack }
  else { m.wake (m.clusterOf n) with shedStack := m.shedStack.filter (· != n), resync := sinsert m.resync n }

/-- The channels of a clerk that hold demand. -/
def Dev.loadedAt (m : Dev) (c : Nat) : List Nat :=
  (List.range 512).filter (fun n => m.on (CHAN_STATUS_ADMITTED n) && m.g (CHAN_CTRL_HOME_CLERK n) == c)

/-- Does channel a come before b in shedding (R184): Bulk first, then the highest rank, then the highest number? -/
def Dev.shedBefore (m : Dev) (a b : Nat) : Bool :=
  let ka := (m.g (CHAN_CTRL_CLASS a), m.g (CHAN_CTRL_SHED_RANK a), a)
  let kb := (m.g (CHAN_CTRL_CLASS b), m.g (CHAN_CTRL_SHED_RANK b), b)
  decide (kb.1 < ka.1) || (ka.1 == kb.1 && (decide (kb.2.1 < ka.2.1) || (ka.2.1 == kb.2.1 && decide (kb.2.2 < ka.2.2))))

/-- Shed one channel of a clerk (R184). -/
def Dev.shedOne (m : Dev) (c : Nat) : Dev :=
  let l := (m.loadedAt c).filter (fun n => m.g (CHAN_CTRL_CLASS n) != 0 && !m.on (CHAN_STATUS_SHED n))
  match l with
  | [] => m.event 33 0
  | a :: r => (m.setShed (r.foldl (fun x y => if m.shedBefore y x then y else x) a) true).event 33 3

/-- The end of a clerk's 10 ms load window (R184, R186). -/
def Dev.loadWindow (m : Dev) (c load live : Nat) : Dev :=
  let m := (m.p (CLERK_LOAD_LOAD c) load).p (CLERK_LOAD_LIVE_LOAD c) live
  let high := decide (m.g LOAD_CTRL_LOAD_HIGH < load)
  let low := decide (load ≤ m.g LOAD_CTRL_LOAD_LOW)
  let hi := if high then tget (fun _ => 0) m.loadHi c + 1 else 0
  let lo := if low then tget (fun _ => 0) m.loadLo c + 1 else 0
  let m := { m with loadHi := tput (fun _ => 0) m.loadHi c hi, loadLo := tput (fun _ => 0) m.loadLo c lo }
  if high && decide (m.g LOAD_CTRL_HIGH_WINDOWS ≤ hi) && m.on LOAD_CTRL_SHED_ENABLE then m.shedOne c
  else if low && decide (m.g LOAD_CTRL_LOW_WINDOWS ≤ lo) then
    match m.shedStack.find? (fun n => m.g (CHAN_CTRL_HOME_CLERK n) == c) with
    | some n => m.setShed n false
    | none => m
  else m

end Sys2Proof.Machine
end

