-- ==== Sys2Proof/Machine/Alu.lean ====
section
/-!
DEFINITION. Machine/Alu.lean: the word instructions: ALU (R119), MULDIV (R120, R121) and the immediates (R122).
-/

namespace Sys2Proof.Machine

/-! ### ALU (R119) -/

/-- ADD (R119) -/
def execAdd (t : Nat) (c : BitVec 4) (d a b : BitVec 5) (s : State) : Host.Outcome State Fault Refusal :=
  .next (s.alu 0x000 t c true d (fun x => aluAdd (x.rw a) (x.rw b) false))

/-- ADC: with C (R119) -/
def execAdc (t : Nat) (c : BitVec 4) (d a b : BitVec 5) (s : State) : Host.Outcome State Fault Refusal :=
  .next (s.alu 0x000 t c true d (fun x => aluAdd (x.rw a) (x.rw b) x.c))

/-- SUB (R119) -/
def execSub (t : Nat) (c : BitVec 4) (d a b : BitVec 5) (s : State) : Host.Outcome State Fault Refusal :=
  .next (s.alu 0x000 t c true d (fun x => aluSub (x.rw a) (x.rw b) false))

/-- SBC: minus 1 − C (R119) -/
def execSbc (t : Nat) (c : BitVec 4) (d a b : BitVec 5) (s : State) : Host.Outcome State Fault Refusal :=
  .next (s.alu 0x000 t c true d (fun x => aluSub (x.rw a) (x.rw b) (!x.c)))

/-- CMP: flags of W[a] − W[b] (R119) -/
def execCmp (t : Nat) (c : BitVec 4) (a b : BitVec 5) (s : State) : Host.Outcome State Fault Refusal :=
  .next (s.issueT 0x000 t c true (fun x => x.putFlags (aluSub (x.rw a) (x.rw b) false)))

/-- AND (R119) -/
def execAnd (t : Nat) (c : BitVec 4) (d a b : BitVec 5) (s : State) : Host.Outcome State Fault Refusal :=
  .next (s.alu 0x000 t c true d (fun x => znFlags ((x.rw a) &&& (x.rw b))))

/-- OR (R119) -/
def execOr (t : Nat) (c : BitVec 4) (d a b : BitVec 5) (s : State) : Host.Outcome State Fault Refusal :=
  .next (s.alu 0x000 t c true d (fun x => znFlags ((x.rw a) ||| (x.rw b))))

/-- XOR (R119) -/
def execXor (t : Nat) (c : BitVec 4) (d a b : BitVec 5) (s : State) : Host.Outcome State Fault Refusal :=
  .next (s.alu 0x000 t c true d (fun x => znFlags ((x.rw a) ^^^ (x.rw b))))

/-- ANDN (R119) -/
def execAndn (t : Nat) (c : BitVec 4) (d a b : BitVec 5) (s : State) : Host.Outcome State Fault Refusal :=
  .next (s.alu 0x000 t c true d (fun x => znFlags ((x.rw a) &&& ~~~(x.rw b))))

/-- TST: flags of W[a] AND W[b] (R119) -/
def execTst (t : Nat) (c : BitVec 4) (a b : BitVec 5) (s : State) : Host.Outcome State Fault Refusal :=
  .next (s.issueT 0x000 t c true (fun x => x.putFlags (znFlags ((x.rw a) &&& (x.rw b)))))

/-- NOT (R119) -/
def execNot (t : Nat) (c : BitVec 4) (d a : BitVec 5) (s : State) : Host.Outcome State Fault Refusal :=
  .next (s.alu 0x000 t c true d (fun x => znFlags (~~~(x.rw a))))

/-- NEG: 0 − W[a] (R119) -/
def execNeg (t : Nat) (c : BitVec 4) (d a : BitVec 5) (s : State) : Host.Outcome State Fault Refusal :=
  .next (s.alu 0x000 t c true d (fun x => aluSub 0 (x.rw a) false))

/-- MIN (R119) -/
def execMin (t : Nat) (c : BitVec 4) (d a b : BitVec 5) (s : State) : Host.Outcome State Fault Refusal :=
  .next (s.alu 0x000 t c true d (fun x => noFlags (sMin (x.rw a) (x.rw b))))

/-- MAX (R119) -/
def execMax (t : Nat) (c : BitVec 4) (d a b : BitVec 5) (s : State) : Host.Outcome State Fault Refusal :=
  .next (s.alu 0x000 t c true d (fun x => noFlags (sMax (x.rw a) (x.rw b))))

/-- MINU (R119) -/
def execMinu (t : Nat) (c : BitVec 4) (d a b : BitVec 5) (s : State) : Host.Outcome State Fault Refusal :=
  .next (s.alu 0x000 t c true d (fun x => noFlags (uMin (x.rw a) (x.rw b))))

/-- MAXU (R119) -/
def execMaxu (t : Nat) (c : BitVec 4) (d a b : BitVec 5) (s : State) : Host.Outcome State Fault Refusal :=
  .next (s.alu 0x000 t c true d (fun x => noFlags (uMax (x.rw a) (x.rw b))))

/-- SHL (R119) -/
def execShl (t : Nat) (c : BitVec 4) (d a b : BitVec 5) (s : State) : Host.Outcome State Fault Refusal :=
  .next (s.alu 0x000 t c true d (fun x => znFlags (shlW (x.rw a) (shiftCount (x.rw b)))))

/-- SHR (R119) -/
def execShr (t : Nat) (c : BitVec 4) (d a b : BitVec 5) (s : State) : Host.Outcome State Fault Refusal :=
  .next (s.alu 0x000 t c true d (fun x => znFlags (shrW (x.rw a) (shiftCount (x.rw b)))))

/-- SAR (R119) -/
def execSar (t : Nat) (c : BitVec 4) (d a b : BitVec 5) (s : State) : Host.Outcome State Fault Refusal :=
  .next (s.alu 0x000 t c true d (fun x => znFlags (sarW (x.rw a) (shiftCount (x.rw b)))))

/-- ROL (R119) -/
def execRol (t : Nat) (c : BitVec 4) (d a b : BitVec 5) (s : State) : Host.Outcome State Fault Refusal :=
  .next (s.alu 0x000 t c true d (fun x => znFlags (rolW (x.rw a) (shiftCount (x.rw b)))))

/-- CLZ (R119) -/
def execClz (t : Nat) (c : BitVec 4) (d a : BitVec 5) (s : State) : Host.Outcome State Fault Refusal :=
  .next (s.alu 0x000 t c true d (fun x => zFlags (Word.of (clzW (x.rw a)))))

/-- POPC (R119) -/
def execPopc (t : Nat) (c : BitVec 4) (d a : BitVec 5) (s : State) : Host.Outcome State Fault Refusal :=
  .next (s.alu 0x000 t c true d (fun x => zFlags (Word.of (popcW (x.rw a)))))

/-- MOV (R119) -/
def execMov (t : Nat) (c : BitVec 4) (d a : BitVec 5) (s : State) : Host.Outcome State Fault Refusal :=
  .next (s.alu 0x000 t c true d (fun x => noFlags (x.rw a)))

/-! ### MULDIV (R120, R121) -/

/-- MUL: low 72 bits (R120) -/
def execMul (t : Nat) (c : BitVec 4) (d a b : BitVec 5) (s : State) : Host.Outcome State Fault Refusal :=
  .next (s.alu 0x001 t c true d (fun x => znFlags ((x.rw a) * (x.rw b))))

/-- MULHU: high 72 bits, unsigned (R120) -/
def execMulhu (t : Nat) (c : BitVec 4) (d a b : BitVec 5) (s : State) : Host.Outcome State Fault Refusal :=
  .next (s.alu 0x001 t c true d (fun x => noFlags (mulHU (x.rw a) (x.rw b))))

/-- MULHS: high 72 bits, signed (R120) -/
def execMulhs (t : Nat) (c : BitVec 4) (d a b : BitVec 5) (s : State) : Host.Outcome State Fault Refusal :=
  .next (s.alu 0x001 t c true d (fun x => noFlags (mulHS (x.rw a) (x.rw b))))

/-- A divide (R121): DIVIDE_ZERO on a zero divisor, else the result. -/
def State.divide (s : State) (t : Nat) (c : BitVec 4) (d a b : BitVec 5) (f : Word → Word → Alu) : State :=
  s.issue 0x001 t c true false false none (fun s =>
    let x := s.m.th t
    if x.rw b = 0 then .trap 0x0F else .ok (s.onM (fun m => m.setTh t (x.putAlu d (f (x.rw a) (x.rw b))))))

/-- DIVS's result: truncated toward zero; V is 1 only for −2^71 ÷ −1, which writes −2^71 (R121). -/
def aluDivs (a b : Word) : Alu := { r := a.sdiv b, v := some (decide (a = Word.of (2 ^ 71) ∧ b = -1)) }

/-- DIVU: truncated (R120, R121) -/
def execDivu (t : Nat) (c : BitVec 4) (d a b : BitVec 5) (s : State) : Host.Outcome State Fault Refusal :=
  .next (s.divide t c d a b (fun a b => noFlags (a / b)))

/-- DIVS (R120, R121) -/
def execDivs (t : Nat) (c : BitVec 4) (d a b : BitVec 5) (s : State) : Host.Outcome State Fault Refusal :=
  .next (s.divide t c d a b aluDivs)

/-- REMU (R120, R121) -/
def execRemu (t : Nat) (c : BitVec 4) (d a b : BitVec 5) (s : State) : Host.Outcome State Fault Refusal :=
  .next (s.divide t c d a b (fun a b => noFlags (a % b)))

/-- REMS: the sign of W[a] (R120, R121) -/
def execRems (t : Nat) (c : BitVec 4) (d a b : BitVec 5) (s : State) : Host.Outcome State Fault Refusal :=
  .next (s.divide t c d a b (fun a b => noFlags (a.srem b)))

/-! ### Immediates (R122) -/

/-- ADDI (R122) -/
def execAddi (t : Nat) (c : BitVec 4) (d a : BitVec 5) (imm : BitVec 48) (s : State) : Host.Outcome State Fault Refusal :=
  .next (s.alu 0x080 t c true d (fun x => aluAdd (x.rw a) (immWord imm) false))

/-- CMPI: flags of W[a] − imm (R122) -/
def execCmpi (t : Nat) (c : BitVec 4) (a : BitVec 5) (imm : BitVec 48) (s : State) : Host.Outcome State Fault Refusal :=
  .next (s.issueT 0x081 t c true (fun x => x.putFlags (aluSub (x.rw a) (immWord imm) false)))

/-- ANDI (R122) -/
def execAndi (t : Nat) (c : BitVec 4) (d a : BitVec 5) (imm : BitVec 48) (s : State) : Host.Outcome State Fault Refusal :=
  .next (s.alu 0x082 t c true d (fun x => znFlags ((x.rw a) &&& immWord imm)))

/-- ORI (R122) -/
def execOri (t : Nat) (c : BitVec 4) (d a : BitVec 5) (imm : BitVec 48) (s : State) : Host.Outcome State Fault Refusal :=
  .next (s.alu 0x083 t c true d (fun x => znFlags ((x.rw a) ||| immWord imm)))

/-- XORI (R122) -/
def execXori (t : Nat) (c : BitVec 4) (d a : BitVec 5) (imm : BitVec 48) (s : State) : Host.Outcome State Fault Refusal :=
  .next (s.alu 0x084 t c true d (fun x => znFlags ((x.rw a) ^^^ immWord imm)))

/-- LDI (R122) -/
def execLdi (t : Nat) (c : BitVec 4) (d : BitVec 5) (imm : BitVec 48) (s : State) : Host.Outcome State Fault Refusal :=
  .next (s.alu 0x085 t c true d (fun _ => noFlags (immWord imm)))

/-- LDHI: W[d][71:48] := imm [23:0]; imm [47:24] must be zero (R122) -/
def execLdhi (t : Nat) (c : BitVec 4) (d : BitVec 5) (imm : BitVec 48) (s : State) : Host.Outcome State Fault Refusal :=
  .next (s.alu 0x086 t c (decide (imm.toNat < 2 ^ 24)) d (fun x => noFlags (putBits (x.rw d) 71 48 imm.toNat)))

/-- Is the shift immediate legal: s of 0–71, every other bit zero (R122)? -/
def shiftImm (imm : BitVec 48) : Bool := decide (imm.toNat < 72)

/-- pos and width of a bit-field immediate (R122). -/
def fieldPos (imm : BitVec 48) : Nat := imm.toNat % 128
def fieldWidth (imm : BitVec 48) : Nat := imm.toNat / 128 % 128

/-- Is the bit-field immediate legal: width 1–72, pos + width at most 72, imm [47:14] zero (R122)? -/
def fieldImm (imm : BitVec 48) : Bool :=
  decide (imm.toNat < 2 ^ 14) && decide (1 ≤ fieldWidth imm) && decide (fieldWidth imm ≤ 72)
    && decide (fieldPos imm + fieldWidth imm ≤ 72)

/-- SHLI (R122) -/
def execShli (t : Nat) (c : BitVec 4) (d a : BitVec 5) (imm : BitVec 48) (s : State) : Host.Outcome State Fault Refusal :=
  .next (s.alu 0x087 t c (shiftImm imm) d (fun x => znFlags (shlW (x.rw a) imm.toNat)))

/-- SHRI (R122) -/
def execShri (t : Nat) (c : BitVec 4) (d a : BitVec 5) (imm : BitVec 48) (s : State) : Host.Outcome State Fault Refusal :=
  .next (s.alu 0x088 t c (shiftImm imm) d (fun x => znFlags (shrW (x.rw a) imm.toNat)))

/-- SARI (R122) -/
def execSari (t : Nat) (c : BitVec 4) (d a : BitVec 5) (imm : BitVec 48) (s : State) : Host.Outcome State Fault Refusal :=
  .next (s.alu 0x089 t c (shiftImm imm) d (fun x => znFlags (sarW (x.rw a) imm.toNat)))

/-- EXTU (R122) -/
def execExtu (t : Nat) (c : BitVec 4) (d a : BitVec 5) (imm : BitVec 48) (s : State) : Host.Outcome State Fault Refusal :=
  .next (s.alu 0x08A t c (fieldImm imm) d (fun x => noFlags (Word.of (fieldOf (x.rw a) (fieldPos imm) (fieldWidth imm)))))

/-- EXTS (R122) -/
def execExts (t : Nat) (c : BitVec 4) (d a : BitVec 5) (imm : BitVec 48) (s : State) : Host.Outcome State Fault Refusal :=
  .next (s.alu 0x08B t c (fieldImm imm) d (fun x => noFlags (signField (fieldOf (x.rw a) (fieldPos imm) (fieldWidth imm)) (fieldWidth imm))))

/-- INS (R122) -/
def execIns (t : Nat) (c : BitVec 4) (d a : BitVec 5) (imm : BitVec 48) (s : State) : Host.Outcome State Fault Refusal :=
  .next (s.alu 0x08C t c (fieldImm imm) d (fun x => noFlags (insField (x.rw d) (x.rw a) (fieldPos imm) (fieldWidth imm))))

end Sys2Proof.Machine
end

