-- ==== Sys2Proof/Machine/Channels.lean ====
section
/-!
DEFINITION. Machine/Channels.lean: homes and classes (R157, R160), loading and commands (R171–R173), program exchange
(R131, R175–R178), KILL (R132), the schedule table (R181–R183) and the windows of R161 and R184, with their commands.
-/

namespace Sys2Proof.Machine

/-! ### Records -/

/-- Does a record pass R172? -/
def recordOk (ws : List Word) (capacity : Nat) : Bool :=
  let w0 := nthWord ws 0
  let w1 := nthWord ws 1
  let w2 := nthWord ws 2
  bits w0 71 64 == 1 && decide (bits w0 63 60 ≤ 1) && bits w0 56 32 == 0 && bits w2 71 36 == 0 &&
    decide (0x100000 ≤ bits w1 71 48) && decide (bits w1 71 48 ≤ bits w1 23 0) && decide (bits w1 23 0 ≤ bits w1 47 24) &&
    decide (bits w2 35 0 + 15 < capacity) && (bits w0 63 60 == 0 || timeOk (nthWord ws 3)) &&
    nthWord ws 7 == (ws.take 7).foldl (· + ·) 0

/-- A record at a DRAM address that passes R172. One that lies past the installed words, or with a poisoned word, fails
(log entry 15). -/
def State.record (s : State) (a : Nat) : Option (List Word) :=
  let ws := s.drams a 8
  if decide (a + 8 ≤ s.m.capacity) && !s.anyPoison a 8 && recordOk ws s.m.capacity then some ws else none

/-- ADMIT_REASON and ADMIT_RESOURCE are written; a refusal sets ADMIT_REFUSED (R170). -/
def Dev.admitResult (m : Dev) (n : Nat) (r : Nat × Nat) : Dev :=
  let m := (m.p (CHAN_STATUS_ADMIT_REASON n) r.1).p (CHAN_STATUS_ADMIT_RESOURCE n) r.2
  if r.1 = 0 then m else m.event 33 1

/-- The demand of a record for a channel. -/
def Dev.recordDemand (m : Dev) (n : Nat) (ws : List Word) : Demand :=
  ⟨n, m.g (CHAN_CTRL_CLASS n), m.g (CHAN_CTRL_HOME_CLERK n), nthWord ws 4, nthWord ws 5, nthWord ws 6⟩

/-- Demand is held for a channel (R170). -/
def Dev.holdDemand (m : Dev) (n : Nat) (ws : List Word) : Dev :=
  (((m.wr (CHAN_DEMAND0_addr n) (nthWord ws 4)).wr (CHAN_DEMAND1_addr n) (nthWord ws 5)).wr
    (CHAN_DEMAND2_addr n) (nthWord ws 6)).p (CHAN_STATUS_ADMITTED n) 1

/-- The window, the image and, unless kept, the gate list are installed (R96, R171). -/
def Dev.install (m : Dev) (n : Nat) (ws : List Word) (gates : Bool) : Dev :=
  let m := (m.wr (CHAN_WINDOW_addr n) (nthWord ws 1)).p (CHAN_STATUS_IMAGE_ID n) (bits (nthWord ws 0) 31 0)
  if gates then m.p (CHAN_GATES_GATE_LIST n) (bits (nthWord ws 2) 35 0) else m

/-- The initial TSW of a channel's thread (R82). -/
def Dev.initTsw (m : Dev) (n : Nat) : Word :=
  Word.of (at_ 46 45 (m.g (CHAN_CTRL_CLASS n)) + at_ 25 17 n + at_ 16 12 (m.g (CHAN_CTRL_HOME_CLERK n))
    + at_ 11 8 (m.g (CHAN_CTRL_HOME_SLOT n)))

/-- LOAD (R173): the status, with the program installed on DONE. -/
def State.load_ (s : State) (mst n rec : Nat) : State × Nat :=
  let m := s.m
  let cls := m.g (CHAN_CTRL_CLASS n)
  if (m.th n).st ≠ .empty then (s, 7)
  else if !m.on (CHAN_CTRL_HOME_VALID n) || cls == 3 || m.on DMA_GLOBAL_SERVICE
    || (mst == 0 && cls == 0 && m.on HOST_ABI_KW40_MODE) then (s, 8)
  else match s.record rec with
    | none => (s.onM (fun m => m.admitResult n (6, 0)), 8)
    | some ws =>
      let r := m.admitCheck (m.recordDemand n ws) 512
      if r.1 ≠ 0 then (s.onM (fun m => m.admitResult n r), 8)
      else (s.onM (fun m =>
        let m := ((m.admitResult n r).holdDemand n ws).install n ws true
        let m := m.setTh n { st := .ready, tsw := (m.initTsw n), pc := (bits (nthWord ws 1) 23 0) }
        (if cls = 0 then (m.liveForget n).liveCheck n else m).wake (m.clusterOf n)), 0)

/-! ### Program exchange -/

/-- Store the pending exchange of a channel. -/
def Dev.setSwap (m : Dev) (n : Nat) (w : Option Swap) : Dev :=
  { m.pb (CHAN_STATUS_SWAP_PENDING n) w.isSome with swaps := tput (fun _ => none) m.swaps n w }

/-- A request for an exchange (R131, R173, R178, R182): the status, and on DONE the exchange pending. `sched`: the entry's
WHEN, which forces MODE 1h. -/
def State.swapReq (s : State) (host byCmd : Bool) (n rec : Nat) (sched : Option Nat) : State × Nat :=
  let m := s.m
  let st := (m.th n).st
  if st = .empty ∨ st = .isolated then (s, 8)
  else if (m.swapOf n).isSome then (s, 7)
  else if host && m.g (CHAN_CTRL_CLASS n) == 0 && m.on HOST_ABI_KW40_MODE then (s, 8)
  else match s.record rec with
    | none => (s.onM (fun m => m.admitResult n (6, 0)), 8)
    | some ws =>
      let keep := bits (nthWord ws 0) 57 57 == 1
      let r := if keep then (0, 0) else m.admitCheck (m.recordDemand n ws) n
      let m := if keep then m else m.admitResult n r
      if r.1 ≠ 0 then ({ s with m := m }, 8)
      else
        let mode := if sched.isSome then 1 else bits (nthWord ws 0) 63 60
        let at_ := match sched with
          | some w => w
          | none => if mode = 1 then timeNs (nthWord ws 3) else m.now + 1000000 * max 1 (m.g LOAD_CTRL_SWAP_LIMIT)
        ({ s with m := m.setSwap n (some ⟨ws, mode, at_, byCmd, false, !keep⟩) }, 0)

/-- Where the pending exchange takes effect now: HOW of R175, or none. It never does while PRIV = 1, but a STOPPED thread
stands at the point saved in XLINK (R176, R658). -/
def Dev.swapHow (m : Dev) (n : Nat) (w : Swap) : Option Nat :=
  let x := m.th n
  if x.st = .stopped then some 3
  else if x.st ≠ .ready ∧ x.st ≠ .waiting then none
  else if x.priv then none
  else if w.mode = 1 then (if w.at_ns ≤ m.now then some 1 else none)
  else if x.st = .waiting then some 0
  else if w.forced then some 2 else none

/-- The thread after an exchange (R177). -/
def Thread.exchanged (x : Thread) (keepRegs : Bool) (entry : Nat) (stopped : Bool) : Thread :=
  let y := if keepRegs then x else { x.setField 41 34 0 with w := [] }
  let y := ((((y.setBit 47 false).setBit 44 false).setBit 43 false).setBit 42 false).setBit 33 false
  { y.setField 31 26 0 with st := (if stopped then .stopped else .ready), k := [], glink := 0, xlink := 0, u := [], wait := none, long := none, saved := none, pc := entry }

/-- The exchange takes effect (R176, R177). -/
def State.exchange (s : State) (n : Nat) (w : Swap) (how : Nat) : State :=
  let s := s.onM (fun m => if (m.th n).long.isSome then m.microTrap n else m)
  let x := s.m.th n
  let x := match x.wait with | some k => x.setW (BitVec.ofNat 5 k.d) 2 | none => x
  let prog := match x.saved, x.long with | some l, _ => l.done | none, some l => l.done | none, none => 0
  let oldPc := if how = 3 && x.inTrap then bits x.xlink 71 48 else x.pc
  let s := (s.releaseLong x.saved).releaseLong x.long
  let w0 := nthWord w.ws 0
  s.onM (fun m =>
    let m := m.wr (CHAN_SWAP_STATUS_addr n) (Word.of (at_ 63 40 oldPc + at_ 39 36 how + at_ 35 0 prog))
    let m := (m.setSwap n none).install n w.ws (bits w0 58 58 == 0)
    let m := m.setTh n (x.exchanged (bits w0 59 59 == 1) (bits (nthWord w.ws 1) 23 0) (how == 3))
    let m := if w.newDemand then m.holdDemand n w.ws else m
    let m := if w.byCmd then m.p (CHAN_STATUS_CMD_RESULT n) 0 else m
    m.wake (m.clusterOf n))

/-- The pending exchange takes effect if this is a point where it does (R175). -/
def State.swapPoint (s : State) (n : Nat) : State :=
  match s.m.swapOf n with
  | none => s
  | some w => match s.m.swapHow n w with
    | some how => s.exchange n w how
    | none => s

/-- A pending exchange is discarded (R178). -/
def Dev.dropSwap (m : Dev) (n : Nat) : Dev :=
  if (m.swapOf n).isSome then (m.setSwap n none).p (CHAN_SWAP_STATUS_RESULT n) 2 else m

/-! ### Ending a thread -/

/-- What goes when a channel becomes EMPTY: its pending exchange, demand, shed mark, codec contexts and past (R132, R170,
R178, R229). -/
def Dev.emptied (m : Dev) (n : Nat) : Dev :=
  let m := (m.dropSwap n).dropContexts n
  let m := (((m.wr (CHAN_DEMAND0_addr n) 0).wr (CHAN_DEMAND1_addr n) 0).wr (CHAN_DEMAND2_addr n) 0).p (CHAN_STATUS_ADMITTED n) 0
  let m := if m.on (CHAN_STATUS_SHED n) then
    { (m.p (CHAN_STATUS_SHED n) 0).p ⟨SHED_MAP_addr (n / 64), n % 64, n % 64⟩ 0 with shedStack := m.shedStack.filter (· != n) } else m
  let live := m.g (CHAN_CTRL_CLASS n) == 0 && (m.on (CHAN_STATUS_LIVE_GUARANTEE n) || m.g (CHAN_STATUS_SUSPEND_REASON n) != 0)
  (if live then m.suspend n 0 else m).liveForget n

/-- The thread is killed (R132): holds released, EMPTY, and the KILLED completion with the progress. -/
def State.killThread (s : State) (n : Nat) : State :=
  let s := s.onM (fun m => if (m.th n).long.isSome then m.microTrap n else m)
  let x := s.m.th n
  let rp := x.resumePending
  let prog := match x.saved with | some l => if rp then l.done else 0 | none => 0
  let s := (s.releaseLong x.saved).releaseLong x.long
  s.onM (fun m => ((m.setTh n {}).emptied n).cqPost n 4 0 0 [Word.of prog, Word.of (if rp then 1 else 0)])

/-- The admin entry being served ends with a status (R508, R510): HEAD moves on, and its completion is posted. -/
def Dev.adminEnd (m : Dev) (code : Nat) : Dev :=
  match tget (fun _ => []) m.entries 512 with
  | e :: r =>
    let m := { m with entries := tput (fun _ => []) m.entries 512 r }.incW (rEntries 512)
    let m := m.p (rSqHead 512) (ringNext (m.g (rSqSize 512)) (m.g (rSqHead 512)))
    m.cqPost 512 0x10 (bits (nthWord e.ws 0) 55 24) code [Word.of code]
  | [] => m

/-- Is the command under way on a channel the one of the admin entry being served (R510)? -/
def Dev.adminServes (m : Dev) (n : Nat) : Bool :=
  match tget (fun _ => []) m.entries 512 with
  | e :: _ => e.checked && bits (nthWord e.ws 1) 67 59 == n
  | [] => false

/-- A command of a channel ends (R173); one given through the admin ring posts its completion (R510). -/
def Dev.cmdEnd (m : Dev) (n code : Nat) : Dev :=
  let m := (m.p (CHAN_STATUS_CMD_BUSY n) 0).p (CHAN_STATUS_CMD_RESULT n) code
  if m.adminServes n then m.adminEnd code else m

/-- Does any queue hold or run work of the thread? -/
def Dev.engineBusy (m : Dev) (n : Nat) : Bool := queueNumbers.any (fun q => m.queueBusy q n)

/-- A KILL command that waits for its cancelled engine work ends once no work is left (R173). -/
def State.killPoll (s : State) (n : Nat) : State :=
  if decide (n < 512) && s.m.on (CHAN_STATUS_CMD_BUSY n) && s.m.g (CHAN_CMD_CMD n) == 3 && !s.m.engineBusy n then
    if (s.m.th n).st = .empty then s.onM (fun m => m.cmdEnd n 6) else (s.killThread n).onM (fun m => m.cmdEnd n 0)
  else s

/-! ### Commands (R173) -/

/-- STOP: DEBUG_STOP is requested, and the command ends when it is taken or after 1 ms. -/
def Dev.stopCmd (m : Dev) (n : Nat) : Dev :=
  let st := (m.th n).st
  if st = .ready ∨ st = .waiting then
    { m.modTh n (fun x => { x with stopReq := true }) with stopAt := tput (fun _ => 0) m.stopAt n (m.now + 1000000) }
  else m.cmdEnd n 8

/-- RESUME (R173, R658): the return of the handler, or a requested stop withdrawn. -/
def Dev.resumeCmd (m : Dev) (n : Nat) : Dev :=
  let x := m.th n
  if x.st = .stopped then
    let y := if x.inTrap then { x.tret with pc := bits x.xlink 71 48 } else x
    let m := ((m.setTh n { y with st := .ready }).wake (m.clusterOf n)).cmdEnd n 0
    if m.g (CHAN_CTRL_CLASS n) = 0 then m.liveCheck n else m
  else if x.stopReq then (m.setTh n { x with stopReq := false }).cmdEnd n 0
  else m.cmdEnd n 8

/-- CLEAR (R173, R612). -/
def State.clearCmd (s : State) (n : Nat) : State :=
  let x := s.m.th n
  if x.st = .isolated then
    ((s.releaseLong x.saved).releaseLong x.long).onM (fun m =>
      { ((m.setTh n {}).emptied n).cmdEnd n 0 with ringOff := sremove m.ringOff n }) |>.channelGone n
  else s.onM (fun m => m.cmdEnd n 8)

/-- UNSHED (R186). -/
def Dev.unshedCmd (m : Dev) (n : Nat) : Dev :=
  if m.on (CHAN_STATUS_SHED n) then (m.setShed n false).cmdEnd n 0 else m.cmdEnd n 8

/-- KILL: engine work is cancelled as DRAINC does, then the thread is killed. -/
def State.killCmd (s : State) (n : Nat) : State := (s.onM (fun m => m.cancelAll n)).killPoll n

/-- A command written to CHAN_CMD, or given through the admin ring (R173). -/
def State.chanCmd (s : State) (mst n cmd rec : Nat) : State :=
  if cmd = 0 then s
  else if s.m.on (CHAN_STATUS_CMD_BUSY n) then s.onM (fun m => m.p (CHAN_STATUS_CMD_DROP n) 1)
  else if 8 ≤ cmd then s.onM (fun m => m.p (CHAN_STATUS_CMD_RESULT n) 8)
  else
    let s := s.onM (fun m => (((m.p (CHAN_STATUS_CMD_DROP n) 0).p (CHAN_STATUS_CMD_BUSY n) 1).p (CHAN_CMD_CMD n) cmd).wake (m.clusterOf n))
    match cmd with
    | 1 => let r := s.load_ mst n rec; r.1.onM (fun m => m.cmdEnd n r.2)
    | 2 => let r := s.swapReq (mst == 0) true n rec none; r.1.onM (fun m => m.cmdEnd n r.2)
    | 3 => s.killCmd n
    | 4 => s.onM (fun m => m.stopCmd n)
    | 5 => s.onM (fun m => m.resumeCmd n)
    | 6 => s.clearCmd n
    | _ => s.onM (fun m => m.unshedCmd n)

/-- A write of CHAN_CMD by a master. -/
def State.chanCmdWrite (s : State) (mst n cmd rec : Nat) : State :=
  s.ifWrite mst (CHAN_CMD_addr (n % 512)) (fun s => s.chanCmd mst (n % 512) cmd rec)

/-- A write of CHAN_CTRL (R157, R160). -/
def Dev.chanCtrl (m : Dev) (n : Nat) (v : Word) : Dev :=
  if (m.th n).st ≠ .empty then m.p (CHAN_CTRL_SHED_RANK n) (bits v 59 56)
  else if bits v 69 69 = 1 ∧ (List.range 512).any (fun k => k != n && m.on (CHAN_CTRL_HOME_VALID k) &&
      m.g (CHAN_CTRL_HOME_CLERK k) == bits v 68 64 && m.g (CHAN_CTRL_HOME_SLOT k) == bits v 63 60) = true then
    m.p (CHAN_STATUS_MAP_CONFLICT n) 1
  else (m.wr (CHAN_CTRL_addr n) (Word.of (bits v 71 56 * 2 ^ 56))).p (CHAN_STATUS_MAP_CONFLICT n) 0

/-! ### The schedule table -/

/-- Entries in use (R182). -/
def Dev.schedEntries (m : Dev) : Nat := min 4096 (m.g SCHED_CTRL_ENTRIES)

/-- A write of SCHED_CTRL (R183). -/
def Dev.schedCtrl (m : Dev) (v : Word) : Dev :=
  let m := m.p SCHED_CTRL_LATE_LIMIT (bits v 21 6)
  if m.on SCHED_CTRL_ENABLE then m.p SCHED_CTRL_ENABLE (bits v 22 22)
  else
    let m := (m.p SCHED_CTRL_TABLE_BASE (bits v 71 36)).p SCHED_CTRL_ENTRIES (bits v 35 23)
    if bits v 22 22 = 1 then ((m.p SCHED_CTRL_ENABLE 1).p SCHED_STATUS_NEXT_INDEX 0).p SCHED_STATUS_EXHAUSTED 0 else m

/-- The next entry to act on, from NEXT_INDEX on: valid, with RESULT 00h (R182). -/
def State.schedNext (s : State) : Option Nat :=
  let base := s.m.g SCHED_CTRL_TABLE_BASE
  let i := s.m.g SCHED_STATUS_NEXT_INDEX
  ((List.range (s.m.schedEntries - i)).map (i + ·)).find? (fun k =>
    let w := s.dram (base + 2 * k + 1)
    bits w 71 71 == 1 && bits w 7 0 == 0)

/-- Act on an entry (R182): its outcome. -/
def State.schedAct (s : State) (w0 w1 : Word) : State × Nat :=
  let n := bits w1 67 59
  let a := bits w1 58 23
  let act := bits w1 70 68
  if !timeOk w0 || !(act == 1 || act == 2) then (s, 8)
  else if timeNs w0 + 1000000 * s.m.g SCHED_CTRL_LATE_LIMIT < s.m.now then
    (s.onM (fun m => m.incW SCHED_STATUS_LATE_COUNT), 4)
  else
    let r := if act = 1 then s.swapReq false false n a (some (timeNs w0))
      else (s.onM (fun m => m.p (CHAN_GATES_GATE_LIST n) a), 0)
    if r.2 = 0 then (r.1.onM (fun m => (m.latch n 6).wake (m.clusterOf n)), 0) else r

/-- The next schedule entry is due (R182); none is once every entry has been passed. -/
def State.schedDue (s : State) : State :=
  if !s.m.on SCHED_CTRL_ENABLE || s.m.on SCHED_STATUS_EXHAUSTED then s
  else match s.schedNext with
    | none => s.onM (fun m => m.p SCHED_STATUS_EXHAUSTED 1)
    | some i =>
      let a := s.m.g SCHED_CTRL_TABLE_BASE + 2 * i
      let w0 := s.dram a
      let w1 := s.dram (a + 1)
      let s := if timeOk w0 then s.onM (fun m => m.reach (timeNs w0)) else s
      let r := s.schedAct w0 w1
      let s := r.1.store .device (a + 1) (putBits w1 7 0 r.2) false
      s.onM (fun m => (m.p SCHED_STATUS_NEXT_INDEX (i + 1)).pb SCHED_STATUS_EXHAUSTED (decide (m.schedEntries ≤ i + 1)))

/-! ### Meanings -/

/-- SWAP (R131): a status in W[d]. -/
def execSwap (t : Nat) (c : BitVec 4) (d a b : BitVec 5) (s : State) : Host.Outcome State Fault Refusal :=
  .next (s.issue 0x010 t c true true false none (fun s =>
    let x := s.m.th t
    let r := s.swapReq false false (bits (x.rw a) 8 0) (bits (x.rw b) 35 0) none
    .ok (r.1.onM (fun m => m.modTh t (fun x => x.setW d (Word.of r.2))))))

/-- KILL's status (R132), with the thread killed on DONE. -/
def State.killInstr (s : State) (t n : Nat) : State × Nat :=
  if (s.m.th n).st = .empty then (s, 6)
  else if n = t then (s, 8)
  else if (s.m.th n).tickets.any (fun k => k.done.isNone) then (s, 7)
  else (s.killThread n, 0)

/-- KILL (R132). -/
def execKill (t : Nat) (c : BitVec 4) (d a : BitVec 5) (s : State) : Host.Outcome State Fault Refusal :=
  .next (s.issue 0x010 t c true true false none (fun s =>
    let r := s.killInstr t (bits ((s.m.th t).rw a) 8 0)
    .ok (r.1.onM (fun m => m.modTh t (fun x => x.setW d (Word.of r.2))))))

/-- CHAN_CTRL_WRITE (R157). -/
def execChanCtrlWrite (mst n : Nat) (v : Word) (s : State) : Host.Outcome State Fault Refusal :=
  .next (s.onM (fun m => m.ifWrite mst (CHAN_CTRL_addr (n % 512)) (fun m => m.chanCtrl (n % 512) v)))

/-- CMD_LOAD (R173). -/
def execCmdLoad (mst n record : Nat) (s : State) : Host.Outcome State Fault Refusal := .next (s.chanCmdWrite mst n 1 record)

/-- CMD_SWAP (R173). -/
def execCmdSwap (mst n record : Nat) (s : State) : Host.Outcome State Fault Refusal := .next (s.chanCmdWrite mst n 2 record)

/-- CMD_KILL (R173). -/
def execCmdKill (mst n : Nat) (s : State) : Host.Outcome State Fault Refusal := .next (s.chanCmdWrite mst n 3 0)

/-- CMD_STOP (R173). -/
def execCmdStop (mst n : Nat) (s : State) : Host.Outcome State Fault Refusal := .next (s.chanCmdWrite mst n 4 0)

/-- STOP_TIMEOUT (R173): 1 ms after a STOP was accepted it ends with PENDING, if the stop is still requested. -/
def execStopTimeout (n : Nat) (s : State) : Host.Outcome State Fault Refusal :=
  .next (s.onM (fun m =>
    if m.on (CHAN_STATUS_CMD_BUSY n) && m.g (CHAN_CMD_CMD n) == 4 && decide (n < 512) then
      (m.reach (tget (fun _ => 0) m.stopAt n)).cmdEnd n (if (m.th n).stopReq then 9 else 8)
    else m))

/-- CMD_RESUME (R173, R658). -/
def execCmdResume (mst n : Nat) (s : State) : Host.Outcome State Fault Refusal := .next (s.chanCmdWrite mst n 5 0)

/-- CMD_CLEAR (R173). -/
def execCmdClear (mst n : Nat) (s : State) : Host.Outcome State Fault Refusal := .next (s.chanCmdWrite mst n 6 0)

/-- CMD_UNSHED (R186). -/
def execCmdUnshed (mst n : Nat) (s : State) : Host.Outcome State Fault Refusal := .next (s.chanCmdWrite mst n 7 0)

/-- CMD_RESERVED (R173): codes 8h–Fh. -/
def execCmdReserved (mst n cmd : Nat) (s : State) : Host.Outcome State Fault Refusal :=
  .next (s.chanCmdWrite mst n (8 + cmd % 8) 0)

/-- EXCHANGE_EFFECT (R177). -/
def execExchangeEffect (n : Nat) (s : State) : Host.Outcome State Fault Refusal :=
  .next (if s.m.coreUp && decide (n < 512) then s.swapPoint n else s)

/-- SWAP_LIMIT_EXPIRY (R175): a MODE 0h exchange is forced at the next boundary or progress point. -/
def execSwapLimitExpiry (n : Nat) (s : State) : Host.Outcome State Fault Refusal :=
  .next (match s.m.swapOf n with
    | some w => if w.mode = 0 then
        (s.onM (fun m => (m.reach w.at_ns).setSwap n (some { w with forced := true }))).swapPoint n else s
    | none => s)

/-- EFFECT_TIME_REACHED (R175): device time reaches EFFECT_TIME of a MODE 1h exchange. -/
def execEffectTimeReached (n : Nat) (s : State) : Host.Outcome State Fault Refusal :=
  .next (match s.m.swapOf n with
    | some w => if w.mode = 1 then (s.onM (fun m => m.reach w.at_ns)).swapPoint n else s
    | none => s)

/-- The nominal issue time of a 1 ms window that a CLERK demand allows: 1.25 × the share, in ns × 4096 (R161). -/
def clerkAllow (clerk : Nat) : Nat := 5 * clerk * 1000000

/-- LIVE_ISSUE_WINDOW (R161): a 1 ms window of a channel's thread ends with `used` nominal nanoseconds of issue. -/
def execLiveIssueWindow (n used : Nat) (s : State) : Host.Outcome State Fault Refusal :=
  .next (s.onM (fun m =>
    if 512 ≤ n then m else
    let m := m.addWrap (CHAN_USAGE_ISSUE_NS n) used
    if m.on (CHAN_STATUS_ADMITTED n) && m.g (CHAN_CTRL_CLASS n) == 0 then
      let ovr := decide (clerkAllow (bits (m.rd (CHAN_DEMAND1_addr n)) 71 62) < used * 4096)
      let m := if ovr then m.incW (CHAN_COUNTS_LIVE_OVERRUNS n) else m
      let old := tget (fun _ => 0) m.liveOver n
      { m with liveOver := tput (fun _ => 0) m.liveOver n (if ovr then 2 else old - 1) }.liveCheck n
    else m))

/-- LIVE_GUARANTEE_RESTORE (R164): every condition has held for 1 ms. -/
def execLiveGuaranteeRestore (n : Nat) (s : State) : Host.Outcome State Fault Refusal :=
  .next (s.onM (fun m =>
    if decide (n < 512) && (m.liveFalseReason n).isNone then
      let m := m.liveCheck n
      (m.reach (m.lastBad n - 1 + 1000000)).liveCheck n
    else m))

/-- SCHED_ENABLE (R183): a write of SCHED_CTRL. -/
def execSchedEnable (mst : Nat) (v : Word) (s : State) : Host.Outcome State Fault Refusal :=
  .next (s.onM (fun m => m.ifWrite mst SCHED_CTRL_addr (fun m => m.schedCtrl v)))

/-- SCHED_ENTRY_DUE (R182). -/
def execSchedEntryDue (s : State) : Host.Outcome State Fault Refusal := .next (if s.m.coreUp then s.schedDue else s)

/-- LOAD_WINDOW (R184). -/
def execLoadWindow (c load live : Nat) (s : State) : Host.Outcome State Fault Refusal :=
  .next (s.onM (fun m => if m.coreUp && decide (c < 32) then m.loadWindow c load live else m))

end Sys2Proof.Machine
end

