-- ==== Sys2Proof/Machine/Picture.lean ====
section
/-!
DEFINITION. Machine/Picture.lean: the arithmetic of pictures: samples in planes (R11, R222, R223), the filter kernels
(R343), where a lamp samples a layer (R394–R396), linear light (R403–R405), blending (R407), the calibration matrix (R409)
and the lamp mapper (R410–R412). Positions are fractions and every rounding is the one the rule names.
-/

namespace Sys2Proof.Machine

/-- n ÷ d rounded half up. -/
def rdiv (n : Int) (d : Nat) : Int := (2 * n + d) / (2 * d : Nat)

/-- A number limited to 0 … hi. -/
def clampN (x : Int) (hi : Nat) : Nat := min x.toNat hi

/-! ### Samples -/

/-- The sample at (x, y) of a plane; none in a poisoned word (R407). -/
def State.sample (s : State) (base pitch packing depth x y : Nat) : Option Nat :=
  let a := base + y * pitch + x / lanesOf packing
  if s.dramPoison a then none
  else some ((s.dram a).toNat / 2 ^ (laneBits packing * (x % lanesOf packing)) % 2 ^ depth)

/-- The base of plane k (0 Y, 1 Cb, 2 Cr) of a picture (R223). -/
def Pic.plane (p : Pic) (k : Nat) : Nat :=
  if k = 0 then p.luma
  else p.luma + p.pitchY * p.slotRows + (k - 1) * p.pitchC * p.slotRowsC

/-- The row pitch of a plane. -/
def Pic.pitch (p : Pic) (k : Nat) : Nat := if k = 0 then p.pitchY else p.pitchC

/-! ### Filters (R343) -/

/-- Keys cubic with a = −0.5 at t = n ÷ 64, in units of 1 ÷ (2 × 64³). -/
def keys (n : Int) : Int :=
  let a := (n.natAbs : Int)
  if a < 64 then 3 * a ^ 3 - 320 * a ^ 2 + 524288 else if a < 128 then 320 * a ^ 2 - a ^ 3 - 32768 * a + 1048576 else 0

/-- Mitchell–Netravali with B = C = 1/3 at t = n ÷ 64, in units of 1 ÷ (18 × 64³). -/
def mitchell (n : Int) : Int :=
  let a := (n.natAbs : Int)
  if a < 64 then 21 * a ^ 3 - 2304 * a ^ 2 + 4194304
  else if a < 128 then 2304 * a ^ 2 - 7 * a ^ 3 - 245760 * a + 8388608 else 0

/-- The linear kernel at t = n ÷ 64, in units of 1 ÷ 64. -/
def tent (n : Int) : Int := if n.natAbs < 64 then 64 - (n.natAbs : Int) else 0

/-- Kernel values turned into taps of sum 256: each rounded half up, then the largest adjusted, the first of equals. -/
def tapsOf (ks : List Int) : List Int :=
  let sum := ks.sum
  let ts := ks.map (fun h => if 0 < sum then rdiv (256 * h) sum.toNat else 0)
  let top := ts.foldl max (ts.headD 0)
  let at_top := ts.findIdx (· == top)
  ts.modify at_top (· + (256 - ts.sum))

/-- The kernel samples of T taps at a phase: tap k at k − T/2 + 1 − phase/64. -/
def kernelAt (h : Int → Int) (t phase : Nat) : List Int :=
  (List.range t).map (fun (k : Nat) => h (64 * ((k : Int) - (t / 2 : Nat) + 1) - phase))

/-- The taps of the AFFINE column of R343 (R396): 0 Keys, 1 Mitchell, 2 bilinear. -/
def affineTaps (filter phase : Nat) : List Int :=
  if filter = 0 then tapsOf (kernelAt keys 4 phase)
  else if filter = 1 then tapsOf (kernelAt mitchell 4 phase) else tapsOf (kernelAt tent 2 phase)

/-- A position in 1/64 as the lowest sample of the support and the phase. -/
def posSplit (u : Int) : Int × Nat := (u / 64, (u % 64).toNat)

/-- Multiply samples by taps and add; none when a sample is missing. -/
def tapSum : List Int → List (Option Nat) → Option Int
  | [], _ => some 0
  | _, [] => some 0
  | t :: ts, x :: xs =>
    match x, tapSum ts xs with
    | some v, some r => some (t * v + r)
    | _, _ => none

/-- Add weighted rows; none when one is missing. -/
def rowSum : List Int → List (Option Int) → Option Int
  | [], _ => some 0
  | _, [] => some 0
  | t :: ts, x :: xs =>
    match x, rowSum ts xs with
    | some v, some r => some (t * v + r)
    | _, _ => none

/-- The nearest sample of a position in 1/64, a tie taking the lower coordinate (R343). -/
def nearest (u : Int) : Int := (u + 31) / 64

/-- The filtered value at (u, v) in 1/64, rounded half up and clipped to the depth (R396, R403). `get` reads a sample,
coordinates outside the source taking its nearest. -/
def filtered (get : Int → Int → Option Nat) (filter depth : Nat) (u v : Int) : Option Nat :=
  if filter = 3 then get (nearest u) (nearest v)
  else
    let (i, pu) := posSplit u
    let (j, pv) := posSplit v
    let tx := affineTaps filter pu
    let ty := affineTaps filter pv
    let t := tx.length
    let off : Int := 1 - (t / 2 : Nat)
    let rows := (List.range t).map (fun (r : Nat) =>
      tapSum tx ((List.range t).map (fun (c : Nat) => get (i + c + off) (j + r + off))))
    (rowSum ty rows).map (fun x => clampN (rdiv x 65536) (2 ^ depth - 1))

/-- The last row of the support of a vertical position (R402). -/
def supportRow (filter : Nat) (v : Int) : Int :=
  if filter = 3 then nearest v else if filter = 2 then v / 64 + 1 else v / 64 + 2

/-! ### Placement (R394, R395) -/

/-- A layer record's block fields (R390). -/
def LayerRec.xform (r : LayerRec) : Nat := bits r.place0 51 50
def LayerRec.filter (r : LayerRec) : Nat := bits r.place0 45 44
def LayerRec.blend (r : LayerRec) : Nat := bits r.place0 43 41
def LayerRec.alpha (r : LayerRec) : Nat := bits r.place0 40 32
def LayerRec.dest (r : LayerRec) : Nat × Nat × Nat × Nat :=
  let w := nthWord r.ws 4
  (bits w 71 56, bits w 55 40, bits w 39 24, bits w 23 8)
def LayerRec.keyLevel (r : LayerRec) : Nat := bits (nthWord r.ws 4) 7 0
def LayerRec.fill (r : LayerRec) : Nat × Nat × Nat :=
  let w := nthWord r.ws 1
  (bits w 35 24, bits w 23 12, bits w 11 0)
def LayerRec.due (r : LayerRec) : Word := nthWord r.ws 3

/-- The source rectangle in samples of the shown rectangle; SW or SH = 0 means all of it (R390). -/
def LayerRec.srcRect (r : LayerRec) (p : Pic) : Nat × Nat × Nat × Nat :=
  let w := nthWord r.ws 5
  if bits w 39 24 = 0 ∨ bits w 23 8 = 0 then (0, 0, p.w, p.h) else (bits w 71 56, bits w 55 40, bits w 39 24, bits w 23 8)

/-- c minus a fraction. -/
def fracFrom (c : Int) (f : Int × Nat) : Int × Nat := (c * f.2 - f.1, f.2)

/-- A fraction in 1/64, rounded half up. -/
def to64 (f : Int × Nat) : Int := rdiv (64 * f.1) f.2

/-- The AXIS position (R394): rotated coordinates, then ROT, then the mirrors. -/
def axisPos (rot : Nat) (mh mv : Bool) (dx dy dw dh sw sh x y : Nat) : Int × Int :=
  let turned := rot == 1 || rot == 3
  let rw : Int := if turned then sh else sw
  let rh : Int := if turned then sw else sh
  let p : Int × Nat := ((2 * ((x : Int) - dx) + 1) * rw - dw, 2 * dw)
  let q : Int × Nat := ((2 * ((y : Int) - dy) + 1) * rh - dh, 2 * dh)
  let m := if rot = 0 then p else if rot = 1 then q else if rot = 2 then fracFrom ((sw : Int) - 1) p else fracFrom ((sw : Int) - 1) q
  let n := if rot = 0 then q else if rot = 1 then fracFrom ((sh : Int) - 1) p else if rot = 2 then fracFrom ((sh : Int) - 1) q else p
  (to64 (if mh then fracFrom ((sw : Int) - 1) m else m), to64 (if mv then fracFrom ((sh : Int) - 1) n else n))

/-- The AFFINE position from doubled offsets a2 = 2a and b2 = 2b (R395): Q3.14 coefficients, Q15.20 offsets. -/
def affinePos (coef offs : Word) (a2 b2 : Int) : Int × Int :=
  let k := fun (i : Nat) => signedOf 18 (bits coef (18 * i + 17) (18 * i))
  let u := (k 0 * a2 + k 1 * b2) * 32 + signedOf 36 (bits offs 71 36)
  let v := (k 2 * a2 + k 3 * b2) * 32 + signedOf 36 (bits offs 35 0)
  (to64 (u, 1048576), to64 (v, 1048576))

/-- Bilinear interpolation of four values by the fractions na ÷ da and nb ÷ db, in 1/64 of units of 2^-18. -/
def bilinear (v00 v10 v01 v11 na nb : Int) (da db : Nat) : Int :=
  to64 ((da - na) * (db - nb) * v00 + na * (db - nb) * v10 + (da - na) * nb * v01 + na * nb * v11, da * db * 262144)

/-- The MESH position (R395). -/
def meshPos (r : LayerRec) (dx dy dw dh x y : Nat) : Int × Int :=
  let mx := bits r.place0 31 26 + 1
  let my := bits r.place0 25 20 + 1
  let na2 := (2 * (x - dx) + 1) * (mx - 1)
  let nb2 := (2 * (y - dy) + 1) * (my - 1)
  let i := min (na2 / (2 * dw)) (mx - 2)
  let j := min (nb2 / (2 * dh)) (my - 2)
  let na : Int := (na2 : Int) - 2 * dw * i
  let nb : Int := (nb2 : Int) - 2 * dh * j
  let vert := fun (hi lo c d : Nat) => signedOf 36 (bits (nthWord r.ws (8 + d * mx + c)) hi lo)
  let f := fun (hi lo : Nat) =>
    bilinear (vert hi lo i j) (vert hi lo (i + 1) j) (vert hi lo i (j + 1)) (vert hi lo (i + 1) (j + 1)) na nb (2 * dw) (2 * dh)
  (f 71 36, f 35 0)

/-- Where a lamp at canvas (x, y) inside the destination samples the source rectangle of size sw × sh, in 1/64. -/
def LayerRec.pos (r : LayerRec) (sw sh x y : Nat) : Int × Int :=
  let (dx, dy, dw, dh) := r.dest
  if r.xform = 1 then affinePos (nthWord r.ws 6) (nthWord r.ws 7) (2 * ((x : Int) - dx) + 1) (2 * ((y : Int) - dy) + 1)
  else if r.xform = 2 then meshPos r dx dy dw dh x y
  else axisPos (bits r.place0 49 48) (bits r.place0 47 47 == 1) (bits r.place0 46 46 == 1) dx dy dw dh sw sh x y

/-- Does the destination rectangle hold a canvas position (R396)? -/
def LayerRec.inDest (r : LayerRec) (x y : Nat) : Bool :=
  let (dx, dy, dw, dh) := r.dest
  decide (dx ≤ x) && decide (x < dx + dw) && decide (dy ≤ y) && decide (y < dy + dh)

/-- −0.5 ≤ u < n − 0.5 in 1/64 (R396). -/
def inSource (u : Int) (n : Nat) : Bool := decide (-32 ≤ u) && decide (u < 64 * (n : Int) - 32)

/-! ### Reading a picture -/

/-- A coordinate limited to lo … hi. -/
def clampI (x lo hi : Int) : Nat := (max lo (min x hi)).toNat

/-- The three filtered components at a position of the rectangle (sx, sy, sw, sh) of a picture's shown rectangle. Chroma is
sampled at the chroma position with the siting of R345; a picture without chroma has it at mid scale. -/
def State.components (s : State) (p : Pic) (rect : Nat × Nat × Nat × Nat) (filter : Nat) (u v : Int) :
    Option (Nat × Nat × Nat) :=
  let (sx, sy, sw, sh) := rect
  let x0 := p.x0 + sx
  let y0 := p.y0 + sy
  let ua := u + 64 * (x0 : Int)
  let va := v + 64 * (y0 : Int)
  let get := fun (k : Nat) (xl xh yl yh : Int) (x y : Int) =>
    s.sample (p.plane k) (p.pitch k) p.packing p.depth (clampI x xl xh) (clampI y yl yh)
  let (cw, ch) := chromaSub p.chroma
  let uc := if cw = 2 then (ua + 1) / 2 else ua
  let vc := if ch = 2 then (va - 32 + 1) / 2 else va
  let xe : Int := x0 + sw - 1
  let ye : Int := y0 + sh - 1
  let lum := filtered (get 0 x0 xe y0 ye) filter p.depth ua va
  if p.chroma = 0 then lum.map (fun y => (y, 2 ^ (p.depth - 1), 2 ^ (p.depth - 1)))
  else
    let chroma := fun (k : Nat) => filtered (get k (x0 / cw : Nat) (xe / cw) (y0 / ch : Nat) (ye / ch)) filter p.depth uc vc
    match lum, chroma 1, chroma 2 with
    | some y, some cb, some cr => some (y, cb, cr)
    | _, _, _ => none

/-! ### Linear light (R403–R405) -/

/-- A fraction of 0 … 1 as UQ0.12, clipped and rounded half up. -/
def uq12 (n : Int) (d : Nat) : Nat := clampN (rdiv (4096 * n) d) 4095

/-- The Q1.14 coefficients of H.273 from YCbCr: Cr to red, Cb and Cr to green, Cb to blue (R345). -/
def yccCoef (matrix : Nat) : Int × Int × Int × Int :=
  if matrix = 1 then (25802, -3069, -7670, 30402)
  else if matrix = 9 then (24160, -2696, -9361, 30825) else (22970, -5638, -11700, 29032)

/-- Luma of a code as a fraction, by the range (R345). -/
def lumaFrac (full : Bool) (depth y : Nat) : Int × Nat :=
  if full then (y, 2 ^ depth - 1) else ((y : Int) - (16 * 2 ^ (depth - 8) : Nat), 219 * 2 ^ (depth - 8))

/-- Chroma of a code as a fraction, by the range (R345). -/
def chromaFrac (full : Bool) (depth c : Nat) : Int × Nat :=
  if full then ((c : Int) - (2 ^ (depth - 1) : Nat), 2 ^ depth - 1) else ((c : Int) - (128 * 2 ^ (depth - 8) : Nat), 224 * 2 ^ (depth - 8))

/-- y + Σ k·c ÷ 16384 as UQ0.12. -/
def mixFrac (y cb cr : Int × Nat) (kb kr : Int) : Nat :=
  uq12 (y.1 * (cb.2 * 16384 : Nat) + (kb * cb.1 + kr * cr.1) * y.2) (y.2 * cb.2 * 16384)

/-- Steps 1 and 2 of R403: R′G′B′ as UQ0.12. MATRIX 0 holds G, B and R in place of Y, Cb and Cr. -/
def toRgb (p : Pic) (c : Nat × Nat × Nat) : Nat × Nat × Nat :=
  let (y, cb, cr) := c
  let lf := fun (v : Nat) => let f := lumaFrac p.full p.depth v; uq12 f.1 f.2
  if p.matrix = 0 then (lf cr, lf y, lf cb)
  else if p.matrix = 1 ∨ p.matrix = 5 ∨ p.matrix = 6 ∨ p.matrix = 9 then
    let (kr, gb, gr, kb) := yccCoef p.matrix
    let fy := lumaFrac p.full p.depth y
    let fb := chromaFrac p.full p.depth cb
    let fr := chromaFrac p.full p.depth cr
    (mixFrac fy fb fr 0 kr, mixFrac fy fb fr gb gr, mixFrac fy fb fr kb 0)
  else Config.openMatrix p.matrix y cb cr

/-- The largest r below 2^(n) with `ok`, going bit by bit from the top. -/
def bitSearch (ok : Nat → Bool) : Nat → Nat → Nat
  | 0, r => r
  | n + 1, r => bitSearch ok n (if ok (r + 2 ^ n) then r + 2 ^ n else r)

/-- min(2^18 − 1, round(65,536 × SDR × (k ÷ 4095)^2.4 ÷ PEAK)) exactly: r is the greatest number with
(2r − 1)^5 × PEAK^5 × 4095^12 ≤ (2^17 × SDR)^5 × k^12. -/
def bt1886 (sdr peak k : Nat) : Nat :=
  bitSearch (fun r => decide ((2 * r - 1) ^ 5 * peak ^ 5 * 4095 ^ 12 ≤ (131072 * sdr) ^ 5 * k ^ 12)) 18 0

/-- Entry k of the linearisation table of a TRANSFER code (R403, R404). -/
def linear (transfer sdr peak k : Nat) : Nat :=
  if transfer = 8 then min 262143 (clampN (rdiv (65536 * sdr * k : Nat) (4095 * peak)) 262143)
  else if transfer = 16 then Config.pqLinear peak k
  else if transfer = 18 then Config.hlgLinear k
  else bt1886 sdr peak k

/-- The primaries that act: 1 and 9, any other as 1 (R405). -/
def primActs (p : Nat) : Nat := if p = 9 then 9 else 1

/-- BT.709 to BT.2020 and back, Q1.14, from the chromaticities of H.273 and D65 (R405). -/
def primMatrix (src wall : Nat) : List Int :=
  if src = 1 ∧ wall = 9 then [10279, 5395, 710, 1132, 15066, 186, 269, 1442, 14673]
  else if src = 9 ∧ wall = 1 then [27205, -9628, -1194, -2041, 18561, -137, -297, -1648, 18329]
  else [16384, 0, 0, 0, 16384, 0, 0, 0, 16384]

/-- A row of the primaries matrix on a colour (R405). -/
def primRow (k : List Int) (i : Nat) (c : Nat × Nat × Nat) : Nat :=
  clampN (rdiv (k.getD (3 * i) 0 * c.1 + k.getD (3 * i + 1) 0 * c.2.1 + k.getD (3 * i + 2) 0 * c.2.2) 16384) 262143

/-- The colour settings in force: peak, SDR white and the wall's primaries (COLOUR_CTRL). -/
structure Wall where
  peak : Nat
  sdr : Nat
  prim : Nat
  deriving DecidableEq, Repr

/-- Samples to linear light, UQ2.16 (R403–R405). -/
def toLinear (w : Wall) (p : Pic) (c : Nat × Nat × Nat) : Nat × Nat × Nat :=
  let (r, g, b) := toRgb p c
  let f := linear p.transfer w.sdr w.peak
  let (r, g, b) := (f r, f g, f b)
  let (r, g, b) := if p.transfer = 18 then
      let ys := clampN (rdiv (2627 * r + 6780 * g + 593 * b : Nat) 10000) 262143
      let o := fun (x : Nat) => min 262143 (Config.hlgOotf w.peak ys x)
      (o r, o g, o b)
    else (r, g, b)
  if primActs p.primaries = primActs w.prim then (r, g, b)
  else
    let k := primMatrix (primActs p.primaries) (primActs w.prim)
    (primRow k 0 (r, g, b), primRow k 1 (r, g, b), primRow k 2 (r, g, b))

/-! ### Blending (R407) -/

/-- One component blended. -/
def blend1 (mode alpha s c : Nat) : Nat :=
  if mode = 0 then s
  else if mode = 2 then min 262143 (s + c)
  else if mode = 3 then (s * c + 32768) / 65536
  else (s * alpha + c * (256 - alpha) + 128) / 256

/-- A colour blended over another. -/
def blend3 (mode alpha : Nat) (s c : Nat × Nat × Nat) : Nat × Nat × Nat :=
  (blend1 mode alpha s.1 c.1, blend1 mode alpha s.2.1 c.2.1, blend1 mode alpha s.2.2 c.2.2)

/-- Fill as linear light: 16 × FILL (R407). -/
def fillLight (f : Nat × Nat × Nat) : Nat × Nat × Nat := (16 * f.1, 16 * f.2.1, 16 * f.2.2)

/-- The luma that KEY compares, rounded to 8 bits (R266, R407): the green component of an RGB source. -/
def keyLuma (p : Pic) (c : Nat × Nat × Nat) : Nat :=
  min 255 ((c.1 + (if p.depth ≤ 8 then 0 else 2 ^ (p.depth - 9))) / 2 ^ (p.depth - 8))

/-! ### The lamp mapper (R408–R412) -/

/-- The signed offset (i, j) of a calibration word: lane 3i + j of the nine-pack (R408). -/
def calOff (w : Word) (i j : Nat) : Int := signedOf 8 (bits w (8 * (3 * i + j) + 7) (8 * (3 * i + j)))

/-- 512 × δ plus an offset. -/
def calMat (w : Word) (i j : Nat) : Int := (if i = j then 512 else 0) + calOff w i j

/-- An entry of USER × FACTORY before clamping (R409). -/
def effRaw (user factory : Word) (i j : Nat) : Int :=
  let e := calMat user i 0 * calMat factory 0 j + calMat user i 1 * calMat factory 1 j + calMat user i 2 * calMat factory 2 j
  (e + 256) / 512 - (if i = j then 512 else 0)

/-- The pairs (i, j) in lane order. -/
def calIdx : List (Nat × Nat) := [(0, 0), (0, 1), (0, 2), (1, 0), (1, 1), (1, 2), (2, 0), (2, 1), (2, 2)]

/-- The effective word (R409). -/
def effective (user factory : Word) : Word := packLanes 8 (calIdx.map (fun p => satSigned 8 (effRaw user factory p.1 p.2)))

/-- Did any entry need its clamp (R409)? -/
def effClamped (user factory : Word) : Bool :=
  calIdx.any (fun p => let e := effRaw user factory p.1 p.2; decide (e < -128) || decide (127 < e))

/-- The point P[k] of an output transfer function (R410): BT1886 exactly, r the greatest number with
(2r − 1)^12 × 1024^5 ≤ 2^252 × k^5. -/
def outPoint (tf peak k : Nat) : Nat :=
  if tf = 1 then bitSearch (fun r => decide ((2 * r - 1) ^ 12 * 1024 ^ 5 ≤ 2 ^ 252 * k ^ 5)) 21 0
  else if tf = 2 then Config.outPq peak k else Config.outHlg k

/-- Step 3 of R410: the 20-bit code of a corrected value o. -/
def outCode (tf peak o : Nat) : Nat :=
  if tf = 0 then 16 * o
  else
    let k := o / 64
    let a : Int := outPoint tf peak k
    let b : Int := outPoint tf peak (k + 1)
    clampN (a + ((b - a) * (o % 64 : Nat) + 32) / 64) 1048575

/-- The threshold matrix of R411. -/
def ditherAt (x y : Nat) : Nat :=
  ([[0, 8, 2, 10], [12, 4, 14, 6], [3, 11, 1, 9], [15, 7, 13, 5]].getD (y % 4) []).getD (x % 4) 0

/-- The offsets of DITHER by the refresh count (R411). -/
def ditherShift (dither refresh : Nat) : Nat × Nat :=
  if dither ≤ 1 then (0, 0) else [(0, 0), (2, 2), (2, 0), (0, 2)].getD (refresh % 4) (0, 0)

/-- The output code of R411; code 0 stays 0. -/
def ditherCode (obits dither refresh x y v : Nat) : Nat :=
  let s := 20 - obits
  let o := ditherShift dither refresh
  let add := if dither = 0 then 2 ^ (s - 1) else ditherAt (x + o.1) (y + o.2) * 2 ^ s / 16
  if v = 0 then 0 else min (2 ^ obits - 1) ((v + add) / 2 ^ s)

/-- The output settings in force (COLOUR_CTRL): OUT_BITS outside 10–16 acts as 16, GAIN above 8000h as 8000h, WALL_PEAK
below 1 as 1. -/
structure OutSet where
  gain : Nat
  tf : Nat
  peak : Nat
  obits : Nat
  dither : Nat
  deriving DecidableEq, Repr

/-- The 48-bit drive value of a lamp (R410–R412) from its composited value and its EFFECTIVE word. -/
def driveValue (k : OutSet) (eff : Word) (refresh x y : Nat) (c : Nat × Nat × Nat) : Nat :=
  let g := fun (v : Nat) => (v * k.gain + 16384) / 32768
  let o := fun (i : Nat) => clampN ((calMat eff i 0 * g c.1 + calMat eff i 1 * g c.2.1 + calMat eff i 2 * g c.2.2 + 256) / 512) 65535
  let code := fun (i : Nat) => ditherCode k.obits k.dither refresh x y (outCode k.tf k.peak (o i)) * 2 ^ (16 - k.obits)
  code 0 * 2 ^ 32 + code 1 * 2 ^ 16 + code 2

end Sys2Proof.Machine
end

