-- ==== Sys2Proof/Machine/Composition.lean ====
section
/-!
DEFINITION. Machine/Composition.lean: the lamp map and its check (R382–R386), regions (R387), the recorded configuration
(R388), what COMPOSE checks and commits (R390–R393, R397), the latch (R398–R402), drawing a lamp (R389, R396, R403–R407),
and the calibration updater (R409, R413).
-/

namespace Sys2Proof.Machine

/-! ### The lamp map -/

/-- A panel descriptor (R383). -/
structure Panel where
  x : Nat
  y : Nat
  w : Nat
  h : Nat
  scan : Nat
  serp : Bool
  port : Nat
  card : Nat
  first : Nat
  deriving DecidableEq, Repr

/-- The vault address of panel p of a map (R383). -/
def Dev.panelAddr (m : Dev) (map p : Nat) : Nat := m.g (LAMP_MAP_FIRST_BANK map) * 32768 + 2 * p

/-- A panel of a map. -/
def State.panel (s : State) (map p : Nat) : Panel :=
  let a := s.vault (s.m.panelAddr map p)
  let b := s.vault (s.m.panelAddr map p + 1)
  ⟨bits a 71 56, bits a 55 40, bits a 39 30, bits a 29 20, bits a 19 17, bits a 16 16 == 1, bits a 15 10, bits a 9 0, bits b 71 47⟩

/-- The number of lamps of a panel. -/
def Panel.lamps (p : Panel) : Nat := p.w * p.h

/-- The canvas position of lamp k of a panel (R384). -/
def Panel.pos (p : Panel) (k : Nat) : Nat × Nat :=
  let rows := p.scan < 4
  let len := if rows then p.w else p.h
  let line := k / len
  let place := k % len
  let right := p.scan % 2 == 1
  let bottom := p.scan / 2 % 2 == 1
  let rev := p.serp && line % 2 == 1
  if rows then
    let c := if right != rev then p.w - 1 - place else place
    (p.x + c, p.y + (if bottom then p.h - 1 - line else line))
  else
    let r := if bottom != rev then p.h - 1 - place else place
    (p.x + (if right then p.w - 1 - line else line), p.y + r)

/-- The check of one panel on its own (R385). -/
def State.panelOk (s : State) (map p : Nat) : Bool :=
  let q := s.panel map p
  bits (s.vault (s.m.panelAddr map p + 1)) 46 0 == 0 && decide (1 ≤ q.w) && decide (1 ≤ q.h) &&
    decide (q.x + q.w ≤ 65536) && decide (q.y + q.h ≤ 65536) && decide (q.first + q.lamps ≤ s.m.g LAMP_RECORDS_LAMPS)

/-- Are the lamp ranges of panel p and of every earlier one disjoint (R385)? -/
def State.panelApart (s : State) (map p : Nat) : Bool :=
  let q := s.panel map p
  (List.range p).all (fun j => let r := s.panel map j; !overlaps q.first q.lamps r.first r.lamps)

/-- The check of a map (R385): none if it passes, the first failing panel, or FFFFh for the map as a whole. -/
def State.mapFail (s : State) (map : Nat) : Option Nat :=
  let n := s.m.g (LAMP_MAP_PANELS map)
  let banks := s.m.g (LAMP_MAP_BANKS map)
  let first := s.m.g (LAMP_MAP_FIRST_BANK map)
  if 16384 * banks < n ∨ 4 < banks ∨ (List.range banks).any (fun b => !s.m.bankOpen (first + b) 0x600) = true then some 0xFFFF
  else (List.range n).find? (fun p => !s.panelOk map p || !s.panelApart map p)

/-- The panels of the active map, in descriptor order (R386). -/
def State.panels (s : State) : List Panel :=
  let map := s.m.g COMP_STATUS_ACTIVE_MAP
  (List.range (s.m.g (LAMP_MAP_PANELS map))).map (s.panel map)

/-! ### Configuration (R387, R388) -/

/-- Is an address one of the registers whose writes are recorded (R388)? -/
def configReg (a : Nat) : Bool :=
  a == COMP_CTRL_addr || a == COLOUR_CTRL_addr || (decide (0x060040 ≤ a) && decide (a < 0x060080)) ||
    (decide (0x061000 ≤ a) && decide (a < 0x062000) && a % 16 == 0)

/-- The recorded writes join the set that the next refresh start applies; selecting a map begins its check (R385, R388). -/
def Dev.releaseConfig (m : Dev) : Dev :=
  let sel := m.cfgRec.find? (fun e => e.1 == COMP_CTRL_addr)
  let m := { m with cfgSet := m.cfgRec.foldl (fun t e => tins (terase t e.1) e.1 e.2) m.cfgSet, cfgRec := [] }
  match sel with
  | some e =>
    let map := bits e.2 69 69
    if map = m.g COMP_STATUS_ACTIVE_MAP then { m with mapCheck := none, mapReady := none }
    else { m with mapCheck := some map, mapReady := none }
  | none => m

/-- A write of a configuration register (R388): recorded, and released unless HOLD_CONFIG = 1. COMP_CTRL's ENABLE and
HOLD_CONFIG act at once. -/
def Dev.configWrite (m : Dev) (a : Nat) (v : Word) : Dev :=
  let old := m.rd a
  let m := m.commit a v
  let keep := a != COMP_CTRL_addr || bits old 69 69 != bits (m.rd a) 69 69
  let m := if keep then { m with cfgRec := tins (terase m.cfgRec a) a (m.rd a) } else m
  if m.on COMP_CTRL_HOLD_CONFIG then m else m.releaseConfig

/-- Do two valid regions overlap? -/
def regionsMeet (a b : Word) : Bool :=
  decide (bits a 71 56 < bits b 71 56 + bits b 39 24) && decide (bits b 71 56 < bits a 71 56 + bits a 39 24) &&
    decide (bits a 55 40 < bits b 55 40 + bits b 23 8) && decide (bits b 55 40 < bits a 55 40 + bits a 23 8)

/-- Does a region word break a rule of its own (R387): mode 3, or past the canvas? -/
def regionWordBad (w : Word) : Bool :=
  bits w 5 5 == 1 && (bits w 7 6 == 3 || decide (65536 < bits w 71 56 + bits w 39 24) || decide (65536 < bits w 55 40 + bits w 23 8))

/-- Would a table of applied registers hold a region configuration that is refused (R387)? -/
def regionsBad (t : List (Nat × Word)) : Bool :=
  let w := fun (r : Nat) => tget regReset t (COMP_REGION_addr r)
  (List.range 64).any (fun r => regionWordBad (w r) ||
    (List.range r).any (fun q => bits (w r) 5 5 == 1 && bits (w q) 5 5 == 1 && regionsMeet (w r) (w q)))

/-- A layer's record of a region change: the staging area and the pending records go when ASSIGNED or CHANNEL changes in
force (R415); answers the holds released. -/
def Dev.layerBound (m : Dev) (l : Nat) (old new : Word) : Dev × List Nat :=
  if bits old 71 62 = bits new 71 62 then (m, [])
  else
    let x := m.layer l
    (m.setLayer l { x with staging := none, pending := [] }, x.pending.flatMap (·.holds))

/-- Apply the released set at a refresh start (R387, R388, R415). A colour change comes 1 ms later (R403). -/
def State.applyConfig (s : State) (start : Nat) : State :=
  let m := s.m
  let m := match m.colourDue with
    | some (t, w) => if t ≤ start then { m with colourDue := none, applied := tput regReset m.applied COLOUR_CTRL_addr w } else m
    | none => m
  if m.mapCheck.isSome then { s with m := m }
  else
    let set := m.cfgSet
    let put := fun (t : List (Nat × Word)) (e : Nat × Word) => tput regReset t e.1 e.2
    let isRegion := fun (e : Nat × Word) => decide (0x060040 ≤ e.1) && decide (e.1 < 0x060080)
    let regs := set.filter isRegion
    let bad := regionsBad (regs.foldl put m.applied)
    let m := if regs.isEmpty then m else m.pb COMP_STATUS_REGION_ERROR bad
    let m := if bad then m else { m with applied := regs.foldl put m.applied }
    let layers := set.filter (fun e => decide (0x061000 ≤ e.1))
    let r := layers.foldl (fun (p : Dev × List Nat) e =>
      let q := p.1.layerBound ((e.1 - 0x061000) / 16) (p.1.cfgWord e.1) e.2
      ({ q.1 with applied := put q.1.applied e }, p.2 ++ q.2)) (m, [])
    let m := match set.find? (fun e => e.1 == COLOUR_CTRL_addr) with
      | some e => { r.1 with colourDue := some (start + 1000000, e.2) }
      | none => r.1
    let m := match m.mapReady with
      | some k => { m.p COMP_STATUS_ACTIVE_MAP k with mapReady := none }
      | none => m
    State.unholdAll { s with m := { m with cfgSet := [] } } r.2

/-! ### COMPOSE (R390–R393) -/

/-- The picture that a descriptor names (R393), for a layer of a channel. A regional descriptor is one of a channel whose
decoder context is regional (R380). -/
def State.picOf (s : State) (n a : Nat) : Pic :=
  let w := s.dram a
  let w1 := s.dram (a + 1)
  let w2 := s.dram (a + 2)
  let w3 := s.dram (a + 3)
  let w5 := s.dram (a + 5)
  let w6 := s.dram (a + 6)
  let captured := bits w 39 36 == 15
  let reg := !captured && s.m.isRegional n
  let height := bits w2 55 40
  let sub := (chromaSub (bits w 35 32)).2
  let lay := if captured then (height, ceilDiv height sub) else match s.m.dec n with
    | some c => (c.layH, c.layHC)
    | none => (height, ceilDiv height sub)
  ⟨bits w 35 32, bits w 31 28, bits w 27 24, bits w1 71 36, bits w1 35 24, bits w1 23 12, lay.1, lay.2,
    if reg then bits w5 39 28 else bits w2 39 30, if reg then bits w5 27 18 else bits w2 19 10,
    if reg then bits w6 71 56 else bits w2 71 56 - bits w2 39 30 - bits w2 29 20,
    if reg then bits w6 55 40 else height - bits w2 19 10 - bits w2 9 0,
    bits w3 71 64, bits w3 63 56, bits w3 55 48, bits w3 47 47 == 1,
    if reg then s.m.picIdent n (bits w 71 40) (bits w6 39 8) (bits w5 17 17 == 1) else none⟩

/-- The planes of a picture. -/
def Pic.planes (p : Pic) : List Nat := if p.chroma = 0 then [0] else [0, 1, 2]

/-- The words of a plane. -/
def Pic.planeWords (p : Pic) (k : Nat) : Nat :=
  if k = 0 then p.pitchY * p.slotRows else p.pitchC * p.slotRowsC

/-- Are the descriptor and every plane inside the channel's pool buffers (R392)? -/
def State.picOwned (s : State) (n a : Nat) (p : Pic) : Bool :=
  s.owns n a (if s.m.isRegional n then 7 else 5) && p.planes.all (fun k => s.owns n (p.plane k) (p.planeWords k))

/-- Is the format of a descriptor one of R222 and R231? -/
def Pic.formatOk (p : Pic) : Bool :=
  decide (p.chroma ≤ 3) && decide (8 ≤ p.depth) && decide (p.depth ≤ 10) && (p.packing == 0 || (p.packing == 1 && p.depth == 8))

/-- The newest earlier record of a layer (R391). -/
def Layer.newest (l : Layer) : Option LayerRec := match l.pending.getLast? with | some r => some r | none => l.shown

/-- The length that a block's word 0 asks (R391). -/
def composeLen (w0 : Word) : Nat :=
  if bits w0 63 60 = 0 then (if bits w0 51 50 = 2 then 8 + (bits w0 31 26 + 1) * (bits w0 25 20 + 1) else 8)
  else if bits w0 63 60 = 1 then 4 else 2

/-- Are the placement fields of a PLACE block sound (R392)? -/
def placeOk (ws : List Word) : Bool :=
  let w0 := ws.getD 0 0
  let w4 := ws.getD 4 0
  let x := bits w0 51 50
  decide (x ≤ 2) && decide (bits w0 43 41 ≤ 4) && bits w0 19 0 == 0 && bits (ws.getD 5 0) 7 0 == 0 &&
    (x == 1 || (ws.getD 6 0 == 0 && ws.getD 7 0 == 0)) && decide (bits w0 40 32 ≤ 256) && (x == 0 || bits w0 49 46 == 0) &&
    (x != 2 || (decide (1 ≤ bits w0 31 26) && decide (1 ≤ bits w0 25 20) &&
      decide ((bits w0 31 26 + 1) * (bits w0 25 20 + 1) ≤ 4088))) &&
    decide (bits w4 39 24 ≠ 0) && decide (bits w4 23 8 ≠ 0) && decide (bits w4 71 56 + bits w4 39 24 ≤ 65536) &&
    decide (bits w4 55 40 + bits w4 23 8 ≤ 65536)

/-- The record that a staged block becomes: a SOURCE record keeps the placement of the newest earlier one (R391). In a Live region
a picture in the progress table is shown as its rows come (R338, R402). -/
def State.blockRec (s : State) (n l : Nat) (ws : List Word) : LayerRec :=
  let w0 := ws.getD 0 0
  let op := bits w0 63 60
  let old := (s.m.layer l).newest
  let kept := if op = 1 then (match old with | some r => ws ++ r.ws.drop 4 | none => ws) else ws
  let place0 := if op = 1 then (match old with | some r => r.place0 | none => w0) else w0
  let a := bits (ws.getD 1 0) 71 36
  let pic := if op = 2 ∨ a = 0 then none else some (s.picOf n a)
  let live := s.m.cg (COMP_REGION_MODE (s.m.cg (LAYER_CTRL_REGION l))) == 2
  let writing := live && (match pic with | some p => (s.m.linesOf p.luma).isSome | none => false)
  let done : Option Nat := if op = 2 ∨ ws.getD 2 0 = 0 then (if writing then none else some 0) else
    match (s.m.th (s.m.ticketThread (ws.getD 2 0))).tickets.find? (fun k => k.word == ws.getD 2 0) with
    | some k => k.done.map (fun c => bits c 71 64)
    | none => some 0
  ⟨op, kept, place0, pic, s.m.g FAB_EPOCH_OPEN, done, 0, match pic with | some p => [p.luma] | none => []⟩

/-- Does the source rectangle lie within the shown rectangle (R392)? -/
def LayerRec.rectOk (r : LayerRec) : Bool :=
  match r.pic with
  | none => true
  | some p => let q := r.srcRect p; decide (q.1 + q.2.2.1 ≤ p.w) && decide (q.2.1 + q.2.2.2 ≤ p.h)

/-- Is a staged block refused (R392)? `fw`: COMPOSE runs at firmware privilege; n: the layer's channel. -/
def State.composeBad (s : State) (fw : Bool) (l : Nat) (ws : List Word) : Bool :=
  let w0 := ws.getD 0 0
  let op := bits w0 63 60
  let n := s.m.cg (LAYER_CTRL_CHANNEL l)
  let r := s.blockRec n l ws
  let tick := ws.getD 2 0
  bits w0 71 64 != 1 || decide (2 < op) || (fw && !s.m.cOn (LAYER_CTRL_ASSIGNED l)) || ws.length != composeLen w0 ||
    (if op = 0 then !placeOk ws else bits w0 51 0 != 0) || (op == 2 && ws.getD 1 0 != 0) ||
    (op != 2 && (
      (match r.pic with
        | some p => (!fw && !s.picOwned n (bits (ws.getD 1 0) 71 36) p) || !p.formatOk
        | none => false) ||
      !r.rectOk || (tick != 0 && (bits tick 71 71 != 1 || bits tick 62 54 != n)) || !timeOk (ws.getD 3 0))) ||
    (op == 1 && (match (s.m.layer l).newest with | some q => q.op == 2 | none => true))

/-! ### Putting a record in its place (R397, R400, R402) -/

/-- A layer drops records unseen: counted in SUPERSEDED, their holds end (R398, R400). -/
def State.supersede (s : State) (l : Nat) (gone : List LayerRec) : State :=
  (s.onM (fun m => m.addWrap (LAYER_STATUS_SUPERSEDED l) gone.length)).unholdAll (gone.flatMap (·.holds))

/-- Latch a record into a layer (R397), with the events of R144. -/
def State.latchLayer (s : State) (l : Nat) (r : LayerRec) (epoch : Bool) : State :=
  let q := (s.m.layer l).latch r
  let s := s.onM (fun m =>
    let m := m.setLayer l q.1
    let n := m.cg (LAYER_CTRL_CHANNEL l)
    let m := (m.latch n 5).wake (m.clusterOf n)
    m.onlyIf epoch (fun m => m.latch n 4))
  s.unholdAll q.2

/-- The region mode of a layer in force. -/
def Dev.layerMode (m : Dev) (l : Nat) : Nat := m.cg (COMP_REGION_MODE (m.cg (LAYER_CTRL_REGION l)))

/-- Is a layer one of a Live channel in a LIVE region (R402)? -/
def Dev.liveLayer (m : Dev) (l : Nat) : Bool := m.layerMode l == 2 && m.g (CHAN_CTRL_CLASS (m.cg (LAYER_CTRL_CHANNEL l))) == 0

/-- Does a record take effect for Live updates as soon as COMPOSE completes: a SOURCE of a Live layer that has been placed
(R402)? -/
def Dev.atOnce (m : Dev) (l : Nat) (r : LayerRec) : Bool :=
  m.liveLayer l && r.op == 1 && (m.layer l).pending.all (·.op == 1) && (m.layer l).shown.isSome

/-- A COMPOSE that completed with DONE commits its record (R397): a SOURCE record of a Live layer takes effect at once, a
record of the same epoch replaces one in an EPOCH region, any other joins the pending set. -/
def State.commitRec (s : State) (l : Nat) (r : LayerRec) : State :=
  let s := s.holdAll r.holds
  let x := s.m.layer l
  if s.m.atOnce l r then
    let s := s.onM (fun m => m.setLayer l { x with pending := [] })
    (s.supersede l x.pending).latchLayer l r false
  else if s.m.layerMode l = 1 then
    let gone := x.pending.filter (fun p => p.tag == r.tag)
    let s := s.onM (fun m => m.setLayer l { x with pending := x.pending.filter (fun p => p.tag != r.tag) ++ [r] })
    s.supersede l gone
  else s.onM (fun m => m.setLayer l { x with pending := x.pending ++ [r] })

/-- Take the last pending record that may be latched; the earlier ones that may are discarded, the rest stay. -/
def State.takePending (s : State) (l : Nat) (may : LayerRec → Bool) (epoch : Bool) : State :=
  let x := s.m.layer l
  let ok := x.pending.filter may
  match ok.getLast? with
  | none => s
  | some r =>
    let s := s.onM (fun m => m.setLayer l { x with pending := x.pending.filter (fun p => !may p) })
    (s.supersede l ok.dropLast).latchLayer l r epoch

/-- Is a record due at a refresh start (R398)? -/
def LayerRec.dueAt (r : LayerRec) (start : Nat) : Bool := r.due == 0 || decide (timeNs r.due ≤ start)

/-- May a commit put a record in force (R400, R572)? A regional record only where the commit names its picture. -/
def CommitRec.admits (c : CommitRec) (r : LayerRec) : Bool :=
  decide (r.tag ≤ c.epoch) && (match r.pic.bind (·.ident) with
    | none => true
    | some (g, key, hint, _) => c.groups.any (fun w => bits w 71 56 == g && bits w 55 24 == key && bits w 23 8 == hint))

/-- A layer takes a commit (R400): the newest pending record it admits, the older ones of its epochs discarded. -/
def State.takeCommit (s : State) (l : Nat) (c : CommitRec) : State :=
  let x := s.m.layer l
  let after := (x.pending.reverse.takeWhile (fun r => !c.admits r)).reverse
  match (x.pending.take (x.pending.length - after.length)).reverse with
  | [] => s
  | r :: older =>
    let s := s.onM (fun m => m.setLayer l { x with pending := older.reverse.filter (fun p => decide (c.epoch < p.tag)) ++ after })
    (s.supersede l (older.reverse.filter (fun p => decide (p.tag ≤ c.epoch)))).latchLayer l r true

/-- A Live layer is composed at a refresh start from the rows complete then (R402). -/
def Dev.seeRows (m : Dev) (l : Nat) : Dev :=
  match (m.layer l).shown with
  | some r => if r.rows < m.recRows r then m.setLayer l { m.layer l with shown := some { r with rows := m.recRows r } } else m
  | none => m

/-- The latch of one layer at a refresh start (R398, R400–R402), with the commits that are due. -/
def State.latchOne (s : State) (start : Nat) (due : List CommitRec) (l : Nat) : State :=
  let s := if s.m.layerMode l = 1 ∧ s.m.on COMP_STATUS_LOCAL_ONLY = false then due.foldl (fun s c => s.takeCommit l c) s
    else if s.m.layerMode l = 1 then s.takePending l (fun _ => true) true
    else if s.m.liveLayer l then (s.takePending l (fun _ => true) false).onM (fun m => m.seeRows l)
    else s.takePending l (fun r => r.dueAt start) false
  let q := (s.m.layer l).settle
  (s.onM (fun m => if (m.layer l).src.isSome then m.setLayer l q.1 else m)).unholdAll q.2

/-- A layer of a Play or Bulk channel whose record's ticket has not completed counts a repeat (R399, R39). -/
def Dev.countRepeat (m : Dev) (start l : Nat) : Dev :=
  let n := m.cg (LAYER_CTRL_CHANNEL l)
  match (m.layer l).shown with
  | some r =>
    if m.g (CHAN_CTRL_CLASS n) ≠ 0 ∧ r.done.isNone = true ∧ r.due ≠ 0 ∧ timeNs r.due ≤ start then m.incW (CHAN_COUNTS_REPEATS n) else m
  | none => m

/-- The registers of the commits latched (R571): LAST_COMMITTED with its T, COMMITS, LATE_APPLIES. -/
def Dev.commitsLatched (m : Dev) (due : List CommitRec) : Dev :=
  due.foldl (fun (m : Dev) c =>
    let m := (m.p FAB_COMMITTED_LAST_COMMITTED c.epoch).wr FAB_COMMIT_TIME_addr (timeWord c.at_ns)
    (m.incW FAB_EPOCH_COUNTS_COMMITS).onlyIf c.late (fun m => m.incW FAB_EPOCH_COUNTS_LATE_APPLIES)) m

/-- Every layer latches at a refresh start (R35, R398–R402, R571), and repeats are counted. -/
def State.latchLayers (s : State) (start : Nat) : State :=
  let due := s.m.fab.commits.filter (fun c => decide (c.at_ns ≤ start))
  let s := (s.m.layers.map (·.1)).foldl (fun s l => s.latchOne start due l) s
  s.onM (fun m =>
    let m := { m with fab.commits := m.fab.commits.filter (fun c => decide (start < c.at_ns)) }.commitsLatched due
    (m.layers.map (·.1)).foldl (fun m l => m.countRepeat start l) m)

/-! ### Drawing -/

/-- The colour settings in force (COLOUR_CTRL). -/
def Dev.wall (m : Dev) : Wall := ⟨max 1 (m.cg COLOUR_CTRL_WALL_PEAK), m.cg COLOUR_CTRL_SDR_WHITE, m.cg COLOUR_CTRL_WALL_PRIMARIES⟩

/-- The output settings in force (COLOUR_CTRL). -/
def Dev.outSet (m : Dev) : OutSet :=
  let b := m.cg COLOUR_CTRL_OUT_BITS
  ⟨min 0x8000 (m.cg COLOUR_CTRL_GAIN), m.cg COLOUR_CTRL_OUT_TF, max 1 (m.cg COLOUR_CTRL_WALL_PEAK),
    if 10 ≤ b ∧ b ≤ 16 then b else 16, m.cg COLOUR_CTRL_DITHER⟩

/-- The valid region in force that holds a canvas position (R387). -/
def Dev.regionAt (m : Dev) (x y : Nat) : Option Nat :=
  (List.range 64).find? (fun r => m.cOn (COMP_REGION_VALID r) && inRange x (m.cg (COMP_REGION_X r)) (m.cg (COMP_REGION_W r)) &&
    inRange y (m.cg (COMP_REGION_Y r)) (m.cg (COMP_REGION_H r)))

/-- The rectangle of a record limited to the picture it reads. -/
def LayerRec.rectIn (r : LayerRec) (p : Pic) : Nat × Nat × Nat × Nat :=
  let q := r.srcRect p
  (q.1, q.2.1, min q.2.2.1 (p.w - q.1), min q.2.2.2 (p.h - q.2.1))

/-- The last source row, in the shown rectangle, that a lamp's filter support needs (R402). -/
def LayerRec.needsRow (r : LayerRec) (p : Pic) (x y : Nat) : Nat :=
  let q := r.rectIn p
  let uv := r.pos q.2.2.1 q.2.2.2 x y
  clampI (supportRow r.filter uv.2 + q.2.1) 0 ((p.h : Int) - 1)

/-- The picture that a layer shows at a lamp: the record's own once its ticket has completed (R399), or in a Live layer where
the rows the lamp needs are complete (R402), else the earlier source's. -/
def Dev.lampPic (m : Dev) (l : Nat) (r : LayerRec) (x y : Nat) : Option Pic :=
  if r.ready then r.pic
  else
    let old := match (m.layer l).src with | some q => q.pic | none => none
    match r.pic with
    | some p => if m.liveLayer l && decide (r.needsRow p x y < r.rows) then some p else old
    | none => old

/-- A layer's sample at a lamp with its key luma: none where it does not cover the lamp (R396). -/
def State.layerSample (s : State) (l : Nat) (r : LayerRec) (x y : Nat) : Option ((Nat × Nat × Nat) × Option Nat) :=
  if !r.inDest x y then none
  else match s.m.lampPic l r x y with
    | none => some (fillLight r.fill, none)
    | some p =>
      let q := r.rectIn p
      let uv := r.pos q.2.2.1 q.2.2.2 x y
      if !inSource uv.1 q.2.2.1 || !inSource uv.2 q.2.2.2 then none
      else match s.components p q r.filter uv.1 uv.2 with
        | none => some (fillLight r.fill, none)
        | some c => some (toLinear s.m.wall p c, some (keyLuma p c))

/-- A layer drawn over the present value (R407). -/
def State.drawLayer (s : State) (x y : Nat) (c : Nat × Nat × Nat) (l : Nat) : Nat × Nat × Nat :=
  match (s.m.layer l).shown with
  | none => c
  | some r =>
    if r.op = 2 then c
    else match s.layerSample l r x y with
      | none => c
      | some (v, key) =>
        if r.blend = 4 ∧ (match key with | some k => decide (k < r.keyLevel) | none => false) = true then c
        else blend3 r.blend r.alpha v c

/-- The composited value of a canvas position (R389, R407); none outside every valid region. -/
def State.light (s : State) (x y : Nat) : Option (Nat × Nat × Nat) :=
  match s.m.regionAt x y with
  | none => none
  | some r => some (((List.range 256).filter (fun l => s.m.cOn (LAYER_CTRL_ENABLE l) && s.m.cg (LAYER_CTRL_REGION l) == r)).foldl
      (fun c l => s.drawLayer x y c l) (0, 0, 0))

/-- The drive value of a lamp at a canvas position (R387, R410–R412). -/
def State.lampDrive (s : State) (lamp x y : Nat) : Nat :=
  match s.light x y with
  | none => 0
  | some c => driveValue s.m.outSet (s.dram (s.m.g LAMP_RECORDS_LAMP_BASE + 4 * lamp + 2)) (s.m.g COMP_STATUS_REFRESH_COUNT) x y c

/-- The drive values of a panel's lamps from k on, put in a table by lamp index. -/
def State.drawLamps (s : State) (p : Panel) (ks : List Nat) (t : List (Nat × Nat)) : List (Nat × Nat) :=
  ks.foldl (fun t k => let q := p.pos k; tput (fun _ => 0) t (p.first + k) (s.lampDrive (p.first + k) q.1 q.2)) t

/-- A refresh is composed: every lamp of the active map (R386, R427). -/
def State.composeAll (s : State) : State :=
  let t := s.panels.foldl (fun t p => s.drawLamps p (List.range p.lamps) t) []
  s.onM (fun m => { m with lampVal := t })

/-! ### The calibration updater (R409, R413) -/

/-- The address of a lamp's record. -/
def Dev.lampRec (m : Dev) (i : Nat) : Nat := m.g LAMP_RECORDS_LAMP_BASE + 4 * i

/-- The updater writes a lamp's FACTORY or USER word and its EFFECTIVE word as one unit (R413). -/
def State.calLamp (s : State) (i : Nat) (factory user : Option Word) : State :=
  let a := s.m.lampRec i
  let f := factory.getD (s.dram a)
  let u := user.getD (s.dram (a + 1))
  let s := match factory with | some v => s.store .updater a v false | none => s
  let s := match user with | some v => s.store .updater (a + 1) v false | none => s
  let s := s.store .updater (a + 2) (effective u f) false
  s.onM (fun m => m.onlyIf (effClamped u f) (fun m => m.incS CAL_STATUS_SATURATED))

/-- One list entry over its lamps, in ascending order (R413). -/
def State.calRange (s : State) (op : Nat) (user : Word) (lamp : Nat) : Nat → State
  | 0 => s
  | n + 1 =>
    let u := if op = 0 then some user else if op = 1 then some 0 else none
    (s.calLamp lamp none u).calRange op user (lamp + 1) n

/-- May a list entry be carried out (R413)? -/
def State.calEntryOk (s : State) (a : Nat) : Bool :=
  let w := s.dram a
  decide (bits w 21 20 ≤ 2) && bits w 19 0 == 0 && (bits w 21 20 == 0 || s.dram (a + 1) == 0) &&
    decide (bits w 71 47 + bits w 46 22 + 1 ≤ s.m.g LAMP_RECORDS_LAMPS)

/-- The entries of a list in order, stopping before a bad one (R413). -/
def State.calList (s : State) (a : Nat) : Nat → State
  | 0 => s
  | n + 1 =>
    if s.calEntryOk a then
      let w := s.dram a
      let s := s.calRange (bits w 21 20) (s.dram (a + 1)) (bits w 71 47) (bits w 46 22 + 1)
      (s.onM (fun m => m.addWrap CAL_STATUS_ENTRIES_DONE 1)).calList (a + 2) n
    else s.onM (fun m => m.p CAL_STATUS_LIST_ERROR 1)

/-- A write of CAL_CMD (R413). -/
def Dev.calCmd (m : Dev) (v : Word) : Dev :=
  if bits v 35 12 = 0 then m
  else if m.on CAL_STATUS_BUSY then m.p CAL_STATUS_CMD_DROP 1
  else
    let m := ((m.p CAL_STATUS_BUSY 1).p CAL_STATUS_CMD_DROP 0).p CAL_STATUS_LIST_ERROR 0
    { m.p CAL_STATUS_ENTRIES_DONE 0 with calRun := some (bits v 71 36, bits v 35 12) }

/-! ### Meanings -/

/-- CONFIG_WRITE (R388): a write of COMP_REGION, LAYER_CTRL, COLOUR_CTRL or COMP_CTRL; another address changes nothing. -/
def execConfigWrite (mst a : Nat) (v : Word) (s : State) : Host.Outcome State Fault Refusal :=
  .next (s.onM (fun m => if configReg a && assigned a then m.ifWrite mst a (fun m => m.configWrite a v) else m))

/-- HOLD_CONFIG_CLEAR (R388): COMP_CTRL written with HOLD_CONFIG 0; with 1 in v nothing is cleared. -/
def execHoldConfigClear (mst : Nat) (v : Word) (s : State) : Host.Outcome State Fault Refusal :=
  .next (s.onM (fun m => m.ifWrite mst COMP_CTRL_addr (fun m => m.configWrite COMP_CTRL_addr (putBits v 70 70 0))))

/-- The check of a selected map ends (R385). -/
def State.mapChecked (s : State) : State :=
  match s.m.mapCheck with
  | none => s
  | some k => match s.mapFail k with
    | none => s.onM (fun m => { m.p COMP_STATUS_MAP_ERROR 0 with mapCheck := none, mapReady := some k })
    | some p => s.onM (fun m => { (m.p COMP_STATUS_MAP_ERROR 1).p COMP_STATUS_ERR_PANEL p with mapCheck := none })

/-- MAP_CHECK_DONE (R385). -/
def execMapCheckDone (s : State) : Host.Outcome State Fault Refusal := .next s.mapChecked

/-- CAL_CMD (R413). -/
def execCalCmd (mst : Nat) (v : Word) (s : State) : Host.Outcome State Fault Refusal :=
  .next (s.onM (fun m => m.ifWrite mst CAL_CMD_addr (fun m => m.calCmd v)))

/-- The updater works its list through and ends it (R413). -/
def State.calEnd (s : State) : State :=
  match s.m.calRun with
  | none => s
  | some (a, n) => (s.calList a n).onM (fun m => { m.p CAL_STATUS_BUSY 0 with calRun := none })

/-- CAL_LIST_DONE (R413). -/
def execCalListDone (s : State) : Host.Outcome State Fault Refusal := .next s.calEnd

end Sys2Proof.Machine
end

