-- ==== Sys2Proof/Machine/LiveRows.lean ====
section
/-!
DEFINITION. Machine/LiveRows.lean: receiver cards and lamp ports as data, and the Live update frames that the rows of a Live
picture bring (R38, R402, R428).
-/

namespace Sys2Proof.Machine

/-! ### Cards -/

/-- A receiver card by port and number. -/
def Dev.card (m : Dev) (p c : Nat) : Card := tget (fun _ => ({} : Card)) m.cards (p * 1024 + c)

/-- A lamp port. -/
def Dev.lport (m : Dev) (p : Nat) : LPort := tget (fun _ => ({} : LPort)) m.lports p

/-- Store a lamp port. -/
def Dev.setLport (m : Dev) (p : Nat) (x : LPort) : Dev := { m with lports := tput (fun _ => ({} : LPort)) m.lports p x }

/-- Change a lamp port. -/
def Dev.modLport (m : Dev) (p : Nat) (f : LPort → LPort) : Dev := m.setLport p (f (m.lport p))

/-- Is a lamp port UP (R416)? -/
def Dev.portUp (m : Dev) (p : Nat) : Bool := m.g (PORT_STATUS_STATE p) == 2

/-- Does a panel's card take DATA and LIVE: READY, or not known (R423)? -/
def Dev.cardTakes (m : Dev) (q : Panel) : Bool := decide ((m.card q.port q.card).st ≤ 1)

/-- Runs of up to 240 consecutive numbers of a rising list, as first and count (R420). -/
def runsOf : List Nat → List (Nat × Nat)
  | [] => []
  | k :: r =>
    match runsOf r with
    | (a, n) :: t => if a = k + 1 ∧ n < 240 then (k, n + 1) :: t else (k, 1) :: (a, n) :: t
    | [] => [(k, 1)]

/-! ### Live rows (R38, R402) -/

/-- The lamps of a panel, by index in it, that a Live layer's new rows complete. -/
def State.rowLamps (s : State) (l : Nat) (r : LayerRec) (pic : Pic) (old new : Nat) (q : Panel) : List Nat :=
  (List.range q.lamps).filter (fun k =>
    let xy := q.pos k
    s.m.regionAt xy.1 xy.2 == some (s.m.cg (LAYER_CTRL_REGION l)) && r.inDest xy.1 xy.2 &&
      (let n := r.needsRow pic xy.1 xy.2; decide (old ≤ n) && decide (n < new)))

/-- A Live layer's shown picture has `rows` rows complete: the lamps they complete are composed and go out in LIVE frames
(R38, R402, R428). -/
def State.liveLayerRows (s : State) (l rows : Nat) : State :=
  match (s.m.layer l).shown with
  | none => s
  | some r =>
    match r.pic with
    | none => s
    | some pic =>
      let old := r.rows
      if rows ≤ old then s
      else
        let s := s.onM (fun m => m.setLayer l { m.layer l with shown := some { r with rows := rows } })
        if s.m.liveLayer l && s.m.cOn (LAYER_CTRL_ENABLE l) && s.m.on COMP_CTRL_ENABLE then
          s.panels.foldl (fun s q =>
            let ks := s.rowLamps l r pic old rows q
            let t := s.drawLamps q ks s.m.lampVal
            let seq := s.m.g COMP_STATUS_REFRESH_COUNT
            s.onM (fun m =>
              let m := { m with lampVal := t }
              if m.portUp q.port && m.cardTakes q then
                m.modLport q.port (fun x => { x with live := x.live ++ (runsOf ks).map (fun e => ⟨q.card, q.first + e.1, e.1, e.2, seq⟩) })
              else m)) s
        else s

/-- Rows of the picture in a slot are complete (R338, R402): every layer that shows that picture. -/
def State.pictureRows (s : State) (luma rows : Nat) : State :=
  (s.m.layers.map (·.1)).foldl (fun s l =>
    match (s.m.layer l).shown with
    | some r => if (match r.pic with | some p => p.luma == luma | none => false) && r.done.isNone then
        s.liveLayerRows l (rows - (match r.pic with | some p => p.y0 | none => 0)) else s
    | none => s) s

/-- The rows that are complete when a SOURCE record of a Live layer takes effect update their lamps at once (R402; log entry
169). -/
def State.liveNow (s : State) (l : Nat) : State :=
  match (s.m.layer l).shown with
  | some r => s.liveLayerRows l (s.m.recRows r)
  | none => s

end Sys2Proof.Machine
end

