-- ==== Sys2Proof/Machine/Long.lean ====
section
/-!
DEFINITION. Machine/Long.lean: the LONG group (R149–R156): its starts, its progress steps, and the return from a micro-trap
through `State.issue`. The commands LONG_PROGRESS_STEP and MICROWORD_WAIT_END move a running one on.
-/

namespace Sys2Proof.Machine

/-! ### Starting -/

/-- A long instruction at its start, with nothing done. -/
def LongOp.fresh (kind : LongKind) (d : BitVec 5) (dst src count : Nat) : LongOp :=
  ⟨kind, d.toNat, dst, src, count, 0, 0, 0, [], [], [], 0, [], 0⟩

/-- The pool buffers that a DRAM range touches, by their first words (R152). -/
def Dev.bufsIn (m : Dev) (a n : Nat) : List Nat :=
  (List.range 16).flatMap (fun p =>
    let base := m.g (POOL_CFG_A_BASE p)
    let size := m.poolSize p
    if m.on (POOL_CFG_A_ENABLE p) && size != 0 && decide (base < a + n) then
      let lo := if a ≤ base then 0 else (a - base) / size
      let hi := min (m.poolCount p) ((a + n - base + size - 1) / size)
      (List.range (hi - lo)).map (fun i => base + (lo + i) * size)
    else [])

/-- Take the holds still to take, in order, until a buffer whose HOLDS is 4,095 makes the instruction wait (R152, R483). -/
def State.takeHolds (s : State) (l : LongOp) : List Nat → State × LongOp
  | [] => (s, { l with todo := [] })
  | a :: r => if s.holdFull a then (s, { l with todo := a :: r }) else (s.hold a).takeHolds { l with holds := l.holds ++ [a] } r

/-- The instruction starts (R152): its marks and holds, then it runs. -/
def State.beginLong (s : State) (t : Nat) (l : LongOp) (bufs : List Nat) : State :=
  let r := s.takeHolds l bufs
  r.1.onM (fun m => m.modTh t (fun x => { x with long := some r.2 }))

/-- The instruction completes at the next address, its destination written where it names one (R150, R152). -/
def State.endLong (s : State) (t : Nat) (l : LongOp) (result : Option Word) : State :=
  let s := s.releaseLong (some l)
  let s := s.onM (fun m => m.modTh t (fun x =>
    let y := match result with | some v => x.setW (BitVec.ofNat 5 l.d) v | none => x
    let y := if y.inTrap then y else y.setBit 42 false
    { y with long := none }))
  let x := s.m.th t
  s.finish t (!x.priv) false x.pc (nextPc x.pc)

/-- A MOVE (R149, R151): `sv`, `dv` say which side is a vault. -/
def State.moveBody (s : State) (t : Nat) (kind : LongKind) (sv dv : Bool) (d a b : BitVec 5) : Res :=
  let x := s.m.th t
  let src := (x.rw a).toNat
  let dst := (x.rw d).toNat
  let n := bits (x.rw b) 35 0
  if n = 0 then .ok s
  else
    let ext := fun (v : Bool) (p : Nat) => if v then (if vaultExtent p n then none else some 0x0B) else if s.m.dramExtent p n then none else some 0x09
    let own := fun (v : Bool) (p : Nat) => if v then (if s.m.vaultOwned t p n then none else some 0x0A) else if s.dramOwned t p n then none else some 0x09
    match (((ext sv src).orElse (fun _ => ext dv dst)).orElse (fun _ => own sv src)).orElse (fun _ => own dv dst) with
    | some c => .trap c
    | none =>
      let banks := (if sv then banksOf src n else []) ++ (if dv then banksOf dst n else [])
      let bufs := (if sv then [] else s.m.bufsIn src n) ++ (if dv then [] else s.m.bufsIn dst n)
      .stay (s.beginLong t { LongOp.fresh kind d dst src n with banks := banks } bufs)

/-- A FILL (R149). -/
def State.fillBody (s : State) (t : Nat) (v : Bool) (d a b : BitVec 5) : Res :=
  let x := s.m.th t
  let dst := (x.rw d).toNat
  let n := bits (x.rw b) 35 0
  if n = 0 then .ok s
  else match (if v then s.m.vaultTrap t dst n else s.dramTrap t dst n) with
    | some c => .trap c
    | none =>
      let l := { LongOp.fresh (if v then .fillV else .fillD) d dst 0 n with pattern := x.rw a, banks := (if v then banksOf dst n else []) }
      .stay (s.beginLong t l (if v then [] else s.m.bufsIn dst n))

/-- A SUM (R149): of no words it is 0. -/
def State.sumBody (s : State) (t : Nat) (v : Bool) (d a b : BitVec 5) : Res :=
  let x := s.m.th t
  let src := (x.rw a).toNat
  let n := bits (x.rw b) 35 0
  if n = 0 then .ok (s.onM (fun m => m.setTh t (x.setW d 0)))
  else match (if v then s.m.vaultTrap t src n else s.dramTrap t src n) with
    | some c => .trap c
    | none =>
      let l := { LongOp.fresh (if v then .sumV else .sumD) d 0 src n with banks := (if v then banksOf src n else []) }
      .stay (s.beginLong t l (if v then [] else s.m.bufsIn src n))

/-- Would a record of an op make a fourth pending one (R397)? -/
def Dev.pendingFull (m : Dev) (l op : Nat) : Bool :=
  let x := m.layer l
  decide (3 ≤ x.pending.length) &&
    !(m.liveLayer l && op == 1 && x.pending.all (·.op == 1) && x.shown.isSome) &&
    !(m.layerMode l == 1 && x.pending.any (fun r => r.tag == m.g FAB_EPOCH_OPEN))

/-- COMPOSE's start (R154, R397). A length field of 0 stands for 4,096 words. DEDUCED (log entry 16): [11:0] holds
lengths 2–4,096. -/
def State.composeBody (s : State) (t : Nat) (d a b : BitVec 5) : Res :=
  let x := s.m.th t
  let src := (x.rw a).toNat
  let len := if bits (x.rw b) 11 0 = 0 then 4096 else bits (x.rw b) 11 0
  match s.dramTrap t src len with
  | some c => .trap c
  | none =>
    if s.dramPoison src then .trap 0x0C
    else
      let w0 := s.dram src
      let l := bits w0 59 52
      if !x.priv && !(s.m.cOn (LAYER_CTRL_ASSIGNED l) && s.m.cg (LAYER_CTRL_CHANNEL l) == t) then .trap 0x03
      else if (s.m.layer l).staging.isSome || s.m.pendingFull l (bits w0 63 60) then .ok (s.onM (fun m => m.setTh t (x.setW d 7)))
      else
        let s' := s.onM (fun m => m.setLayer l { m.layer l with staging := some t })
        .stay (s'.beginLong t { LongOp.fresh .compose d 0 src len with layer := l, base := t } (s'.m.bufsIn src len))

/-- DRAINK's start (R155). -/
def State.drainkBody (s : State) (t : Nat) (d a : BitVec 5) : Res :=
  let x := s.m.th t
  let q := bits (x.rw a) 7 0
  if q ≠ 0xFF ∧ smem queueNumbers q = false then .trap 0x10
  else
    let ws := (x.tickets.filter (fun k => k.done.isNone && (q == 0xFF || bits k.word 70 63 == q))).map (·.word)
    if ws.isEmpty then .ok (s.onM (fun m => m.setTh t (x.setW d 0)))
    else .stay (s.beginLong t { LongOp.fresh .draink d 0 q ws.length with stage := ws } [])

/-- DRAINC's start (R156). -/
def State.draincBody (s : State) (t : Nat) (d a : BitVec 5) : Res :=
  let n := bits ((s.m.th t).rw a) 8 0
  .stay (s.beginLong t { LongOp.fresh .drainc d 0 n queueNumbers.length with base := tget (fun _ => 0) s.m.cancelCount n } [])

/-! ### Progress -/

/-- The load error on the source word that a long instruction reads next (R153, R457): its trap cause, or 0. -/
def State.longError (s : State) (l : LongOp) : Nat :=
  let a := l.src + l.done
  match l.kind with
  | .moveDD | .moveDV | .sumD | .compose => if s.dramPoison a then 0x0C else 0
  | .moveVD | .moveVV | .sumV => if 2 ≤ s.vaultErr a then 0x0E else if s.vaultPoison a then 0x0C else 0
  | .fillD | .fillV | .draink | .drainc => 0

/-- The check of the source word that a long instruction reads next, where it is a vault word (R457). -/
def State.longCheck (s : State) (l : LongOp) : State :=
  match l.kind with
  | .moveVD | .moveVV | .sumV => s.vaultCheck (l.src + l.done)
  | .moveDD | .moveDV | .sumD | .compose | .fillD | .fillV | .draink | .drainc => s

/-- One word of a MOVE, FILL, SUM or COMPOSE (R153). -/
def State.longWord (s : State) (t : Nat) (l : LongOp) : State × LongOp :=
  let w : Writer := .master (s.m.threadMaster t)
  let l' := { l with done := l.done + 1 }
  let sa := l.src + l.done
  let da := l.dst + l.done
  match l.kind with
  | .moveDD => (s.store w da (s.dram sa) false, l')
  | .moveDV => (s.vaultStore da (s.dram sa) false, l')
  | .moveVD => (s.store w da (s.vault sa) false, l')
  | .moveVV => (s.vaultStore da (s.vault sa) false, l')
  | .fillD => (s.store w da l.pattern false, l')
  | .fillV => (s.vaultStore da l.pattern false, l')
  | .sumD => (s, { l' with sum := l.sum + s.dram sa })
  | .sumV => (s, { l' with sum := l.sum + s.vault sa })
  | .compose => (s, { l' with stage := l.stage ++ [s.dram sa] })
  | .draink => (s, l)
  | .drainc => (s, l)

/-- Up to n words, stopping at the count or at a load error (R153), whose cause is the last part; 0 without one. -/
def State.longWords (s : State) (t : Nat) : Nat → LongOp → State × LongOp × Nat
  | 0, l => (s, l, 0)
  | n + 1, l =>
    if l.count ≤ l.done then (s, l, 0)
    else
      let s' := s.longCheck l
      if s'.longError l = 0 then
        let r := s'.longWord t l
        r.1.longWords t n r.2
      else (s', l, s'.longError l)

/-- What COMPOSE does when its block is staged (R154): REFUSED, or the record committed and DONE. A staging area it no longer
holds makes it REFUSED (R415). -/
def State.composeEnd (s : State) (t : Nat) (l : LongOp) : State :=
  let fw := (s.m.th t).priv
  if (s.m.layer l.layer).staging ≠ some t ∨ s.composeBad fw l.layer l.stage = true then s.endLong t l (some 8)
  else
    let r := s.blockRec (s.m.cg (LAYER_CTRL_CHANNEL l.layer)) l.layer l.stage
    let u := (s.releaseLong (some l)).commitRec l.layer r
    (if s.m.atOnce l.layer r then u.liveNow l.layer else u).endLong t { l with holds := [] } (some 0)

/-- One visit of DRAINC (R156): the queue's waiting commands are cancelled; it is visited once none is left on it. -/
def State.drainVisit (s : State) (t : Nat) (l : LongOp) : State :=
  let q := queueNumbers.getD l.done 0
  let s := s.onM (fun m => (m.cancelQueue q l.src).1)
  if s.m.queueBusy q l.src then s.onM (fun m => m.modTh t (fun x => { x with long := some (m.longNow t l) }))
  else
    let l' := s.m.longNow t { l with done := l.done + 1 }
    if l'.done = queueNumbers.length then s.endLong t l' (some l'.sum)
    else s.onM (fun m => m.modTh t (fun x => { x with long := some l' }))

/-- A progress step of the long instruction that a thread runs (R152–R156). -/
def State.longStep (s : State) (t : Nat) : State :=
  match (s.m.th t).long with
  | none => s
  | some l0 =>
    if !l0.todo.isEmpty then
      let r := s.takeHolds l0 l0.todo
      r.1.onM (fun m => m.modTh t (fun x => { x with long := some r.2 }))
    else
      let l := s.m.longNow t l0
      match l.kind with
      | .draink =>
        if l.done = l.count then s.endLong t l (some (Word.of l.count))
        else s.onM (fun m => m.modTh t (fun x => { x with long := some l }))
      | .drainc => s.drainVisit t l
      | k =>
        let r := s.longWords t 8 l
        let s := r.1.onM (fun m => m.modTh t (fun x => { x with long := some r.2.1 }))
        if r.2.2 ≠ 0 then
          let x := s.m.th t
          (s.onM (fun m => m.microTrap t)).trapTo t r.2.2 x.pc x.pc
        else if r.2.1.done = r.2.1.count then
          (match k with
            | .compose => s.composeEnd t r.2.1
            | .sumD | .sumV => s.endLong t r.2.1 (some r.2.1.sum)
            | _ => s.endLong t r.2.1 none)
        else s

/-- May a thread's long instruction make progress (R112, R114)? -/
def Dev.longRuns (m : Dev) (t : Nat) : Bool :=
  decide (t < 544) && m.coreUp && !m.on (UC_CLERK_FAILED (m.clerkOf t % 32)) && (m.th t).st == .ready && (m.th t).long.isSome &&
    !(decide (t < 512) && m.on (CHAN_STATUS_SHED t))

/-! ### Meanings -/

/-- MOVE, DRAM to DRAM (R149, R153). -/
def execMoveDramDram (t : Nat) (c : BitVec 4) (d a b : BitVec 5) (s : State) : Host.Outcome State Fault Refusal :=
  .next (s.issue 0x020 t c true false false (some .moveDD) (fun s => s.moveBody t .moveDD false false d a b))

/-- MOVE, DRAM to vault. -/
def execMoveDramVault (t : Nat) (c : BitVec 4) (d a b : BitVec 5) (s : State) : Host.Outcome State Fault Refusal :=
  .next (s.issue 0x020 t c true false false (some .moveDV) (fun s => s.moveBody t .moveDV false true d a b))

/-- MOVE, vault to DRAM. -/
def execMoveVaultDram (t : Nat) (c : BitVec 4) (d a b : BitVec 5) (s : State) : Host.Outcome State Fault Refusal :=
  .next (s.issue 0x020 t c true false false (some .moveVD) (fun s => s.moveBody t .moveVD true false d a b))

/-- MOVE, vault to vault. -/
def execMoveVaultVault (t : Nat) (c : BitVec 4) (d a b : BitVec 5) (s : State) : Host.Outcome State Fault Refusal :=
  .next (s.issue 0x020 t c true false false (some .moveVV) (fun s => s.moveBody t .moveVV true true d a b))

/-- FILL of DRAM words. -/
def execFillDram (t : Nat) (c : BitVec 4) (d a b : BitVec 5) (s : State) : Host.Outcome State Fault Refusal :=
  .next (s.issue 0x020 t c true false false (some .fillD) (fun s => s.fillBody t false d a b))

/-- FILL of vault words. -/
def execFillVault (t : Nat) (c : BitVec 4) (d a b : BitVec 5) (s : State) : Host.Outcome State Fault Refusal :=
  .next (s.issue 0x020 t c true false false (some .fillV) (fun s => s.fillBody t true d a b))

/-- SUM of DRAM words. -/
def execSumDram (t : Nat) (c : BitVec 4) (d a b : BitVec 5) (s : State) : Host.Outcome State Fault Refusal :=
  .next (s.issue 0x020 t c true false false (some .sumD) (fun s => s.sumBody t false d a b))

/-- SUM of vault words. -/
def execSumVault (t : Nat) (c : BitVec 4) (d a b : BitVec 5) (s : State) : Host.Outcome State Fault Refusal :=
  .next (s.issue 0x020 t c true false false (some .sumV) (fun s => s.sumBody t true d a b))

/-- COMPOSE (R154). -/
def execCompose (t : Nat) (c : BitVec 4) (d a b : BitVec 5) (s : State) : Host.Outcome State Fault Refusal :=
  .next (s.issue 0x020 t c true false false (some .compose) (fun s => s.composeBody t d a b))

/-- DRAINK (R155). -/
def execDraink (t : Nat) (c : BitVec 4) (d a : BitVec 5) (s : State) : Host.Outcome State Fault Refusal :=
  .next (s.issue 0x020 t c true false false (some .draink) (fun s => s.drainkBody t d a))

/-- DRAINC (R156). -/
def execDrainc (t : Nat) (c : BitVec 4) (d a : BitVec 5) (s : State) : Host.Outcome State Fault Refusal :=
  .next (s.issue 0x020 t c true true false (some .drainc) (fun s => s.draincBody t d a))

/-- LONG_PROGRESS_STEP (R153). -/
def execLongProgressStep (t : Nat) (s : State) : Host.Outcome State Fault Refusal :=
  .next (if s.m.longRuns t then s.longStep t else s)

/-- MICROWORD_WAIT_END (R194): the wait of a long instruction for a hold ends when a hold on the buffer does (R152). -/
def execMicrowordWaitEnd (t : Nat) (s : State) : Host.Outcome State Fault Refusal :=
  .next (match (s.m.th t).long with
    | some l => if s.m.longRuns t && !l.todo.isEmpty then s.longStep t else s
    | none => s)

/-! ### The control store (R203) -/

/-- The clerks of a mask that a microword is written to. -/
def Dev.ucWrite (m : Dev) (mask a w : Nat) : Dev :=
  (List.range 32).foldl (fun (m : Dev) c =>
    if Nat.testBit mask c then { m with ucode := tput (fun _ => 0) m.ucode (c * 8192 + a % 8192) w } else m) m

/-- Does the load path take a write: from the boot master with LOCK = 0 (R203)? -/
def Dev.ucOpen (m : Dev) (mst : Nat) : Bool := mst == 0xB && !m.on UC_CTRL_LOCK

/-- A write of UC_LOAD_LO (R203). -/
def Dev.ucLo (m : Dev) (mst : Nat) (v : Word) : Dev := if m.ucOpen mst then { m with ucStage := v } else m

/-- A write of UC_LOAD_HI (R203): the microword goes to every clerk of the mask, and ADDR advances. -/
def Dev.ucHi (m : Dev) (mst : Nat) (v : Word) : Dev :=
  if m.ucOpen mst then
    let a := m.g UC_LOAD_ADDR_ADDR
    (m.ucWrite (m.g UC_LOAD_ADDR_CLERK_MASK) a (v.toNat * 2 ^ 72 + m.ucStage.toNat)).p UC_LOAD_ADDR_ADDR (a + 1)
  else m

/-- UC_LOAD_LO (R203). -/
def execUcLoadLo (mst : Nat) (v : Word) (s : State) : Host.Outcome State Fault Refusal :=
  .next (s.onM (fun m => m.ifWrite mst UC_LOAD_LO_addr (fun m => m.ucLo mst v)))

/-- UC_LOAD_HI (R203). -/
def execUcLoadHi (mst : Nat) (v : Word) (s : State) : Host.Outcome State Fault Refusal :=
  .next (s.onM (fun m => m.ifWrite mst UC_LOAD_HI_addr (fun m => m.ucHi mst v)))

end Sys2Proof.Machine
end

