-- ==== Sys2Proof/Machine/Ledger.lean ====
section
/-!
DEFINITION. Machine/Ledger.lean: lamp dose (R431–R436), the device record (R437–R439), the journal (R440–R444), the
commands (R446) and the calendar (R447–R449).
-/

namespace Sys2Proof.Machine

/-! ### Lamp dose -/

/-- The 28 bits of a number reversed (R433). -/
def bitReverse28 (s : Nat) : Nat := (List.range 28).foldl (fun r i => 2 * r + s / 2 ^ i % 2) 0

/-- The new value of one dose field at a counted sample (R433). -/
def doseField (field code p offset : Nat) : Nat :=
  let x := code * p
  let d := bitReverse28 (offset % 2 ^ 28) * 65536
  if 2 ^ 44 ≤ x + d ∧ field < 0xFFFFFF then field + 1 else field

/-- The ledger word after a counted sample (R432, R433). -/
def doseWord (w : Word) (drive p offset : Nat) : Word :=
  Word.of (at_ 71 48 (doseField (bits w 71 48) (drive / 2 ^ 32 % 65536) p offset)
    + at_ 47 24 (doseField (bits w 47 24) (drive / 2 ^ 16 % 65536) p offset)
    + at_ 23 0 (doseField (bits w 23 0) (drive % 65536) p offset))

/-- Has a ledger word a saturated field (R435)? -/
def doseFull (w : Word) : Bool := bits w 71 48 == 0xFFFFFF || bits w 47 24 == 0xFFFFFF || bits w 23 0 == 0xFFFFFF

/-- One lamp counts a sample (R433, R435). -/
def State.doseLamp (s : State) (i drive p offset : Nat) : State :=
  let a := s.m.lampRec i + 3
  let old := s.dram a
  let new := doseWord old drive p (offset + i)
  (s.store .ledger a new false).onM (fun m => m.onlyIf (doseFull new && !doseFull old) (fun m => m.incS LIFE_SAMPLES_SATURATIONS))

/-- The lamps that count the refresh that ends, on the ports whose SHOW leaves with REPEAT = 0 (R431). -/
def State.countedLamps (s : State) (ports : List Nat) : List Nat :=
  (s.panels.filter (fun p => smem ports p.port && (s.m.card p.port p.card).st == 1)).flatMap (fun p =>
    ((List.range p.lamps).map (p.first + ·)).filter (fun i => decide (i < s.m.g LAMP_RECORDS_LAMPS)))

/-- The ledger counts the refresh that ends, if it is sampled (R41, R431, R437). -/
def State.countDose (s : State) (ports : List Nat) : State :=
  let rc := s.m.g COMP_STATUS_REFRESH_COUNT
  if s.m.g LEDGER_STATUS_STATE = 2 ∧ rc % 16 = 0 ∧ s.m.acctStop = false then
    let lamps := s.countedLamps ports
    let p := 16 * s.m.refPeriod / 1000
    let vals := s.m.sentVals
    let s := lamps.foldl (fun s i => s.doseLamp i (tget (fun _ => 0) vals i) p (rc / 16)) s
    s.onM (fun m => m.onlyIf (!lamps.isEmpty) (fun m => m.incS LIFE_SAMPLES_SAMPLES))
  else s

/-! ### The calendar (R447) -/

/-- Ticks of 1/32,768 s in a number of nanoseconds. -/
def nsTicks (ns : Nat) : Nat := ns * 32768 / 1000000000

/-- The calendar's ticks now: it stands while STOPPED = 1 (R449). -/
def Dev.calNow (m : Dev) : Nat :=
  if m.on CALENDAR_STATUS_STOPPED then m.calTicks else m.calTicks + nsTicks (m.now - m.calAt)

/-- Set the calendar's ticks. -/
def Dev.setCal (m : Dev) (ticks : Nat) : Dev := { m with calTicks := ticks, calAt := m.now }

/-- CAL_TIME as it reads (R447). -/
def Dev.calWord (m : Dev) : Word :=
  let t := m.calNow
  Word.of (at_ 71 30 (t / 32768) + at_ 29 0 (t % 32768 * 1000000000 / 32768))

/-- Device time is set to a moment: the calendar keeps what it reads, and the interval of correctable errors ends (R473). -/
def Dev.setNow (m : Dev) (ns : Nat) : Dev := { m with calTicks := m.calNow, calAt := ns, now := ns, ceCount := [] }

/-! ### The journal -/

/-- The acting pass period in s (LEDGER_CTRL). -/
def Dev.passPeriod (m : Dev) : Nat := max 60 (min 3600 (m.g LEDGER_CTRL_PERIOD_S))

/-- K, the sectors of an image slot (R440). -/
def Dev.slotSectors (m : Dev) : Nat := (4096 + 9 * m.g LAMP_RECORDS_LAMPS + 65535) / 65536

/-- The SPI NOR byte address of an image slot, and of the tail sector as slot SLOTS. -/
def Dev.slotAddr (m : Dev) (k : Nat) : Nat := m.g JOURNAL_REGION_BASE + k * m.slotSectors * 65536

/-- The record committed at a byte address of the flash. -/
def Dev.image (m : Dev) (a : Nat) : Option JImage := tget (fun _ => none) m.journal a

/-- Store the record at a byte address. -/
def Dev.setImage (m : Dev) (a : Nat) (i : Option JImage) : Dev := { m with journal := tput (fun _ => none) m.journal a i }

/-- Erase n sectors from a byte address on. -/
def Dev.eraseSectors (m : Dev) (a n : Nat) : Dev :=
  { m with journal := m.journal.filter (fun e => !inRange e.1 a (65536 * n)), out := .spi (a / 65536) 0 :: m.out }

/-- May JOURNAL_EN be set (R440)? -/
def Dev.journalOk (m : Dev) : Bool :=
  let slots := m.g JOURNAL_REGION_SLOTS
  m.on JOURNAL_REGION_LOCK && decide (2 ≤ slots) && decide (slots ≤ 16) &&
    decide (slots * m.slotSectors + 1 ≤ m.g JOURNAL_REGION_SECTORS) && decide (0x02100000 ≤ m.g JOURNAL_REGION_BASE) &&
    decide (m.g JOURNAL_REGION_BASE + 65536 * m.g JOURNAL_REGION_SECTORS ≤ m.pins.flashSize)

/-- The slot a pass takes (R442): the lowest SEQ, an erased slot counting as 0. DEDUCED (log entry 17). -/
def Dev.passSlot (m : Dev) : Nat :=
  let seq := fun (k : Nat) => match m.image (m.slotAddr k) with | some i => i.seq | none => 0
  (List.range (m.g JOURNAL_REGION_SLOTS)).foldl (fun best k => if seq k < seq best then k else best) 0

/-- The highest SEQ among the records of the flash. -/
def Dev.topSeq (m : Dev) : Nat := m.journal.foldl (fun n e => match e.2 with | some i => max n i.seq | none => n) 0

/-- The device record's registers, words 5–48 of an image (R441). -/
def lifeAddrs : List Nat :=
  [LIFE_TIME_addr, LIFE_COUNTS_addr, LIFE_SAMPLES_addr] ++ (List.range 8).map LIFE_TEMP_addr ++ [AGE_NOW_addr]
    ++ (List.range 32).map AGE_TREND_addr

/-- The device record as it stands. -/
def Dev.lifeWords (m : Dev) : List Word := lifeAddrs.map m.rd

/-- A pass starts (R442). -/
def Dev.passStart (m : Dev) : Dev :=
  { m.p LEDGER_STATUS_PASS_BUSY 1 with pass := some ⟨m.passSlot, m.topSeq + 1, m.now⟩ }

/-- A pass falls due (R442): it starts, or starts when the running one ends. -/
def Dev.passDue (m : Dev) : Dev := if m.pass.isSome then { m with passLate := true } else m.passStart

/-- Do passes run (R442)? -/
def Dev.journalOn (m : Dev) : Bool := m.on LEDGER_CTRL_JOURNAL_EN && m.g LEDGER_STATUS_STATE == 2

/-- The halts that the record now carries leave HALT_CARRY when a record commits (R439). -/
def Dev.carryDone (m : Dev) : Dev :=
  { m.p CALENDAR_STATUS_HALT_CARRY (m.g CALENDAR_STATUS_HALT_CARRY - m.haltAdded) with haltAdded := 0 }

/-- A late pass starts when the one before it ends (R442). -/
def Dev.passNext (m : Dev) : Dev :=
  if m.passLate && m.journalOn then ({ m with passLate := false }.incW JOURNAL_COUNTS_LATE).passStart.event 39 1
  else { m with passLate := false }

/-- A pass commits (R441, R442): the image, LAST_SEQ and the counts, and the next slot and the tail erased. -/
def State.passCommit (s : State) (p : JPass) : State :=
  let n := s.m.g LAMP_RECORDS_LAMPS
  let words := (List.range n).map (fun i => s.dram (s.m.lampRec i + 3))
  s.onM (fun m =>
    let im : JImage := ⟨p.seq, timeWord p.start, n, m.g DEVICE_UID_UID, m.lifeWords, words⟩
    let m := { m.setImage (m.slotAddr p.slot) (some im) with out := .spi (m.slotAddr p.slot / 65536) 1 :: m.out }
    let m := (m.p LEDGER_STATUS_LAST_SEQ p.seq).p LEDGER_STATUS_LAST_PASS_S (min 65535 ((m.now - p.start) / 1000000000))
    let m := (m.carryDone.incW JOURNAL_COUNTS_PASSES).event 39 3
    let m := { m.p LEDGER_STATUS_PASS_BUSY 0 with pass := none }
    let m := m.eraseSectors (m.slotAddr m.passSlot) m.slotSectors
    (m.eraseSectors (m.slotAddr (m.g JOURNAL_REGION_SLOTS)) 1).passNext)

/-- A pass fails (R442). -/
def Dev.passFail (m : Dev) : Dev :=
  (({ m.p LEDGER_STATUS_PASS_BUSY 0 with pass := none }.incW JOURNAL_COUNTS_FAILS).event 39 2).passNext

/-- A tail record is committed (R441, R634): the device record alone. -/
def Dev.tailCommit (m : Dev) : Dev :=
  let im : JImage := ⟨m.topSeq, timeWord m.now, 0, m.g DEVICE_UID_UID, m.lifeWords, []⟩
  let a := m.slotAddr (m.g JOURNAL_REGION_SLOTS)
  { m.setImage a (some im) with out := .spi (a / 65536) 2 :: m.out }.carryDone

/-! ### Restore (R443) -/

/-- The newest image with lamp words in the region, of any UID. -/
def Dev.newestImage (m : Dev) : Option JImage :=
  (List.range (m.g JOURNAL_REGION_SLOTS)).foldl (fun best k =>
    match best, m.image (m.slotAddr k) with
    | some b, some i => if b.seq < i.seq then some i else some b
    | none, some i => some i
    | b, none => b) none

/-- Write n lamps' ledger words from a list, zero past its end. -/
def State.restoreLamps (s : State) (words : List Word) (i : Nat) : Nat → State
  | 0 => s
  | n + 1 => (s.store .ledger (s.m.lampRec i + 3) (words.getD i 0) false).restoreLamps words (i + 1) n

/-- Restore ends and the ledger runs (R443). -/
def State.restoreEnd (s : State) : State :=
  let n := s.m.g LAMP_RECORDS_LAMPS
  let im := s.m.newestImage
  let words := match im with | some i => i.words | none => []
  (s.restoreLamps words 0 n).onM (fun m =>
    let m := m.pb LEDGER_STATUS_LAMP_FOREIGN (match im with | some i => i.uid != m.g DEVICE_UID_UID | none => false)
    let m := m.pb LEDGER_STATUS_LAMP_SHORT (match im with | some i => decide (i.lamps < n) | none => false)
    let m := if m.g JOURNAL_REGION_SECTORS = 0 then m.p LEDGER_STATUS_RESTORE_RESULT 3 else m
    { m.p LEDGER_STATUS_STATE 2 with nextPass := m.calNow + 32768 * m.passPeriod })

/-! ### Registers -/

/-- A write of LEDGER_CTRL (R440, R443): a JOURNAL_EN that R440 does not accept makes the write ignored; ENABLE needs
LAMP_RECORDS.LOCK. -/
def Dev.ledgerCtrl (m : Dev) (v : Word) : Dev :=
  if bits v 70 70 = 1 ∧ m.on LEDGER_CTRL_JOURNAL_EN = false ∧ m.journalOk = false then m.incW JOURNAL_COUNTS_FAILS
  else
    let was := m.on LEDGER_CTRL_ENABLE
    let en := bits v 71 71 == 1 && (was || m.on LAMP_RECORDS_LOCK)
    let m := { (m.p LEDGER_CTRL_PERIOD_S (bits v 69 54)).p LEDGER_CTRL_JOURNAL_EN (bits v 70 70) with nextPass := m.nextPass }
    let m := (m.pb LEDGER_CTRL_ENABLE en).onlyIf (bits v 70 70 == 1) (fun m => { m with nextPass := m.calNow + 32768 * m.passPeriod })
    if en && !was then m.p LEDGER_STATUS_STATE 1 else if !en && was then m.p LEDGER_STATUS_STATE 0 else m

/-- A write of LEDGER_CMD (R446). PASS without journal passes running is ignored. -/
def Dev.ledgerCommand (m : Dev) (v : Word) : Dev :=
  let op := bits v 71 70
  let lamp := bits v 69 45
  let n := bits v 44 20 + 1
  if op = 0 then m
  else if m.on LEDGER_STATUS_CMD_BUSY then m.p LEDGER_STATUS_CMD_DROP 1
  else if op = 1 then (if m.journalOn then (m.p LEDGER_STATUS_CMD_DROP 0).passDue else m.p LEDGER_STATUS_CMD_DROP 1)
  else if m.g LAMP_RECORDS_LAMPS < lamp + n then m.p LEDGER_STATUS_CMD_DROP 1
  else
    let m := ((m.p LEDGER_STATUS_CMD_DROP 0).p LEDGER_STATUS_CMD_BUSY 1).incS LIFE_COUNTS_ZEROINGS
    { m with ledgerCmd := some (op, lamp, n) }

/-- ZERO or IMPORT over n lamps (R446). -/
def State.ledgerRange (s : State) (op lamp src : Nat) : Nat → State
  | 0 => s
  | n + 1 =>
    let v := if op = 2 then 0 else s.dram src
    (s.store .ledger (s.m.lampRec lamp + 3) v false).ledgerRange op (lamp + 1) (src + 1) n

/-- A command over its range ends (R446). -/
def State.ledgerDone (s : State) : State :=
  match s.m.ledgerCmd with
  | none => s
  | some (op, lamp, n) =>
    (s.ledgerRange op lamp (s.m.g LEDGER_IMPORT_SOURCE) n).onM (fun m => { m.p LEDGER_STATUS_CMD_BUSY 0 with ledgerCmd := none })

/-! ### The device record -/

/-- The temperature band of a reading in 1/8 °C (R437). -/
def tempBand (t : Int) : Nat :=
  if t < -320 then 0 else if t < -80 then 1 else if t < 160 then 2 else if t < 400 then 3 else if t < 640 then 4
  else if t < 800 then 5 else if t < 920 then 6 else 7

/-- The highest monitor temperature in 1/8 °C (R437). -/
def Dev.topTemp (m : Dev) : Int :=
  (List.range 16).foldl (fun t k => max t (signedOf 12 (m.g (PACE_MON_MON_TEMP k)))) (signedOf 12 (m.g (PACE_MON_MON_TEMP 0)))

/-- The ageing trend after 30 days (R438); the mean is truncated. -/
def Dev.ageStep (m : Dev) : Dev :=
  let r := m.g PACE_REF_RATIO_REF_RATIO
  let m := if r = 0 then m else { m with ageSum := m.ageSum + r, ageCount := m.ageCount + 1 }
  if m.g LIFE_TIME_POWER_ON_S % 2592000 = 0 ∧ m.ageCount ≠ 0 then
    let mean := m.ageSum / m.ageCount
    let k := m.g AGE_NOW_NEXT
    let m := m.wr (AGE_TREND_addr k) (Word.of (at_ 71 60 mean + at_ 59 28 (m.g LIFE_TIME_POWER_ON_S / 86400) + 2 ^ 27))
    let m := (if m.g AGE_NOW_FIRST_RATIO = 0 then m.p AGE_NOW_FIRST_RATIO mean else m)
    let m := if m.g AGE_NOW_LOW_RATIO = 0 ∨ mean < m.g AGE_NOW_LOW_RATIO then m.p AGE_NOW_LOW_RATIO mean else m
    { m.p AGE_NOW_NEXT ((k + 1) % 32) with ageSum := 0, ageCount := 0 }
  else m

/-- A second of the device record (R437, R438), with PACE_REF_RATIO brought up from the factory-model pace at the present
voltage and temperature (02, PACE_REF_RATIO). -/
def Dev.lifeSecond (m : Dev) (model : Nat) : Dev :=
  let m := if model = 0 then m else m.p PACE_REF_RATIO_REF_RATIO (min 4095 (m.g PACE_NOW_PACE_RAW * 1024 / model))
  let lit := m.on COMP_CTRL_ENABLE && (List.range 64).any (fun p => m.g (PORT_STATUS_STATE p) == 2)
  let m := (m.incS LIFE_TIME_POWER_ON_S).onlyIf lit (fun m => m.incS LIFE_TIME_LIT_S)
  (m.incS (LIFE_TEMP_SECONDS (tempBand m.topTemp))).ageStep

/-! ### The calendar's commands -/

/-- A write of CAL_SET (R447, R449). -/
def Dev.calSet (m : Dev) (v : Word) : Dev :=
  if timeOk v then
    let m := ((m.p CALENDAR_STATUS_STOPPED 0).p CALENDAR_STATUS_VBAT_LOW 0).p CALENDAR_STATUS_CMD_DROP 0
    (m.setCal (bits v 71 30 * 32768 + nsTicks (bits v 29 0))).p CALENDAR_STATUS_VALID 1
  else m.p CALENDAR_STATUS_CMD_DROP 1

/-- TRIM steps of the calendar every 2^20 ticks (R448). -/
def Dev.calTrim (m : Dev) : Dev :=
  let t := signedOf 10 (m.g CAL_CTRL_TRIM)
  m.setCal ((m.calNow : Int) + t).toNat

/-- n ÷ d rounded half away from zero. -/
def rdivAway (n : Int) (d : Nat) : Int :=
  let q := (2 * n.natAbs + d) / (2 * d)
  if n < 0 then -(q : Int) else q

/-- Is device time synchronised and not in holdover (R448, R565)? -/
def Dev.timeSync (m : Dev) : Bool := m.g FAB_TIME_STATUS_STATE == 1

/-- The calendar follows device time (R448), with the difference recorded in ns. -/
def Dev.calFollow (m : Dev) (diff : Int) : Dev :=
  if m.on CAL_CTRL_FOLLOW && m.timeSync then
    let ds := (diff :: m.calDiffs).take 16
    let ppb := ds.sum / ((60 * ds.length : Nat) : Int)
    let m := { m with calDiffs := ds }.setCal (nsTicks m.now)
    let m := ((m.p CALENDAR_STATUS_DRIFT_PPB (satSigned 20 ppb)).p CALENDAR_STATUS_FOLLOWING 1).p CALENDAR_STATUS_VALID 1
    let trim := max (-511) (min 511 (rdivAway (-ppb) 954))
    if m.on CAL_CTRL_AUTO_TRIM then m.p CAL_CTRL_TRIM (satSigned 10 trim) else m
  else m.p CALENDAR_STATUS_FOLLOWING 0

/-! ### Meanings -/

/-- LEDGER_ENABLE (R443): a write of LEDGER_CTRL. -/
def execLedgerEnable (mst : Nat) (v : Word) (s : State) : Host.Outcome State Fault Refusal :=
  .next (s.onM (fun m => m.ifWrite mst LEDGER_CTRL_addr (fun m => m.ledgerCtrl v)))

/-- LEDGER_RESTORE_DONE (R443). -/
def execLedgerRestoreDone (s : State) : Host.Outcome State Fault Refusal :=
  .next (if s.m.g LEDGER_STATUS_STATE = 1 ∧ s.m.coreUp = true then s.restoreEnd else s)

/-- JOURNAL_ENABLE (R440): a write of LEDGER_CTRL that sets JOURNAL_EN. -/
def execJournalEnable (mst : Nat) (v : Word) (s : State) : Host.Outcome State Fault Refusal :=
  .next (s.onM (fun m => m.ifWrite mst LEDGER_CTRL_addr (fun m => m.ledgerCtrl (putBits v 70 70 1))))

/-- JOURNAL_PASS_START (R442): PERIOD_S calendar seconds have passed. -/
def execJournalPassStart (s : State) : Host.Outcome State Fault Refusal :=
  .next (s.onM (fun m =>
    if m.journalOn && m.coreUp && !m.acctStop then { m with nextPass := m.nextPass + 32768 * m.passPeriod }.passDue else m))

/-- The orderly power-down is complete (R633): lamp ports and chain links off, DOWN_READY high. -/
def Dev.downNow (m : Dev) : Dev :=
  let m := (m.each 64 (fun p m => m.p (PORT_STATUS_STATE p) 0)).each 8 (fun k m => m.p (FAB_LINK_STATUS_STATE k) 0)
  m.p POWER_STATUS_STATE 3

/-- The final pass of a power-down has ended (R633): once none is left, the device is DOWN; one that failed is made again. -/
def Dev.finalPass (m : Dev) : Dev :=
  if m.g POWER_STATUS_STATE = 2 ∧ m.pass.isNone = true then m.downNow else m

/-- JOURNAL_PASS_DONE (R442): `ok` says that no program or erase failed. A halted device writes no journal (R614): its pass ends
without a record. -/
def execJournalPassDone (ok : Bool) (s : State) : Host.Outcome State Fault Refusal :=
  .next (match s.m.pass with
    | some p =>
      if s.m.halted then s.onM (fun m => { m.p LEDGER_STATUS_PASS_BUSY 0 with pass := none, passLate := false }.finalPass)
      else if ok then (s.passCommit p).onM Dev.finalPass
      else s.onM (fun m => let m := m.passFail; if m.g POWER_STATUS_STATE = 2 ∧ m.pass.isNone = true then m.passStart else m)
    | none => s)

/-- LEDGER_PASS (R446): a write of LEDGER_CMD with OP PASS. -/
def execLedgerPass (mst : Nat) (v : Word) (s : State) : Host.Outcome State Fault Refusal :=
  .next (s.onM (fun m => m.ifWrite mst LEDGER_CMD_addr (fun m => m.ledgerCommand (putBits v 71 70 1))))

/-- ZERO (R446): a write of LEDGER_CMD with OP ZERO. -/
def execZero (mst : Nat) (v : Word) (s : State) : Host.Outcome State Fault Refusal :=
  .next (s.onM (fun m => m.ifWrite mst LEDGER_CMD_addr (fun m => m.ledgerCommand (putBits v 71 70 2))))

/-- IMPORT (R446): a write of LEDGER_CMD with OP IMPORT. -/
def execImport (mst : Nat) (v : Word) (s : State) : Host.Outcome State Fault Refusal :=
  .next (s.onM (fun m => m.ifWrite mst LEDGER_CMD_addr (fun m => m.ledgerCommand (putBits v 71 70 3))))

/-- LIFE_SECOND (R437). -/
def execLifeSecond (model : Nat) (s : State) : Host.Outcome State Fault Refusal :=
  .next (s.onM (fun m => if m.hostReady && !m.acctStop then m.lifeSecond model else m))

/-- CAL_SET (R447). -/
def execCalSet (mst : Nat) (v : Word) (s : State) : Host.Outcome State Fault Refusal :=
  .next (s.onM (fun m => m.ifWrite mst CAL_SET_addr (fun m => m.calSet v)))

/-- CALENDAR_TRIM (R448). -/
def execCalendarTrim (s : State) : Host.Outcome State Fault Refusal := .next (s.onM (fun m => m.calTrim))

/-- CALENDAR_FOLLOW (R448). -/
def execCalendarFollow (diff : Int) (s : State) : Host.Outcome State Fault Refusal :=
  .next (s.onM (fun m => if m.coreUp then m.calFollow diff else m))

/-- LEDGER_COMMAND_DONE (R446). -/
def execLedgerCommandDone (s : State) : Host.Outcome State Fault Refusal := .next (if s.m.coreUp then s.ledgerDone else s)

end Sys2Proof.Machine
end

