-- ==== Sys2Proof/Machine/LampPorts.lean ====
section
/-!
DEFINITION. Machine/LampPorts.lean: the lamp ports: links (R416–R418), frames by priority (R419, R420, R428), discovery and
cards (R421–R424), refresh and show (R425–R427) with the refresh start itself, HOLD and BLANK (R429), and the factory
calibration upload (R430).
-/

namespace Sys2Proof.Machine

/-! ### Ports and cards -/

/-- The card counts of a port's status. -/
def Dev.portCards (m : Dev) (p : Nat) : Dev :=
  let cs := (m.cards.filter (fun e => e.1 / 1024 == p)).map (·.2)
  let m := m.p (PORT_STATUS_CARDS_SEEN p) ((cs.filter (fun c => c.st != 0)).length)
  let m := m.p (PORT_STATUS_CARDS_READY p) ((cs.filter (fun c => c.st == 1)).length)
  m.p (PORT_STATUS_CARDS_MISMATCH p) ((cs.filter (fun c => decide (2 ≤ c.st))).length)

/-- A card's word of the card table (R424). -/
def Card.word (c : Card) : Word :=
  Word.of (at_ 71 69 c.st + at_ 68 67 c.ver + at_ 66 57 c.w + at_ 56 47 c.h + (if c.factory then 2 ^ 46 else 0)
    + at_ 45 30 c.temp + at_ 29 6 (min c.openLamps (2 ^ 24 - 1)))

/-- Store a card, write its word and count the port's cards; a change of state is the CARD event (R424). -/
def State.setCard (s : State) (p c : Nat) (x : Card) : State :=
  let old := s.m.card p c
  let s := s.onM (fun m =>
    ({ m with cards := tput (fun _ => ({} : Card)) m.cards (p * 1024 + c) x }.portCards p).onlyIf (old.st != x.st) (fun m => m.event 38 2))
  s.store .device (s.m.g LAMP_AREAS_CARD_BASE + 1024 * p + c) x.word false

/-- The panel of the active map at a port and card (R423). -/
def State.panelOf (s : State) (p c : Nat) : Option Panel := s.panels.find? (fun q => q.port == p && q.card == c)

/-- The lamps of a port's panels (R418). -/
def State.portLamps (s : State) (p : Nat) : Nat := ((s.panels.filter (fun q => q.port == p)).map (·.lamps)).sum

/-! ### Refresh times (R425, R426) -/

/-- The refresh rate that acts, as NUM and DEN (R425). -/
def refreshRate (ctl : Word) : Nat × Nat :=
  let num := bits ctl 61 44
  let den := if bits ctl 43 33 = 1001 then 1001 else 1
  if num * 1001 < 24000 * den then (24000, 1001) else if 1000 * den < num then (1000, 1) else (num, den)

/-- The period of TIME mode in ns. -/
def timePeriod (ctl : Word) : Nat := let r := refreshRate ctl; (2 * 1000000000 * r.2 + r.1) / (2 * r.1)

/-- The first refresh start of TIME mode after a moment (R425). -/
def timeNext (ctl : Word) (after : Nat) : Nat :=
  let r := refreshRate ctl
  let phase := bits ctl 32 7
  let span := 1000000000 * r.2
  let t := after + 1 - phase
  let b := t / span * span
  let j := ((t - b) * r.1 + span - 1) / span
  (if j < r.1 then b + j * span / r.1 else b + span) + phase

/-- Is the genlock condition of R426 met: the source CAPTURING, with a period within 1 % of the nominal one? -/
def Dev.genlockOk (m : Dev) (ctl : Word) : Bool :=
  let src := bits ctl 70 66
  let mult := bits ctl 65 62 + 1
  let p := m.g (SRC_STATUS_PERIOD_NS src)
  let r := refreshRate ctl
  let nom : Int := (mult * 1000000000 * r.2 : Nat)
  let got : Int := (p * r.1 : Nat)
  p != 0 && m.g (SRC_STATUS_STATE src) == 3 && decide (100 * (got - nom) ≤ nom) && decide (100 * (nom - got) ≤ nom)

/-- The slew of a SOURCE-mode start (R425): toward CAPTURE_TIME + PHASE_NS modulo the period, by at most 0.1 % of it. The
spec bounds the slew only from above; this model takes the whole bound. DESIGN CHOICE (log entry 18). -/
def slew (target next period : Nat) : Int :=
  let e : Int := ((target : Int) - next) % (period : Int)
  let e := if 2 * e ≤ period then e else e - period
  let lim : Int := (period / 1000 : Nat)
  max (-lim) (min lim e)

/-- The next refresh start and its period, with the genlock state: 0 TIME, 1 LOCKED, 2 HOLD (R425, R426). -/
def Dev.nextRefresh (m : Dev) : Nat × Nat × Nat :=
  let ctl := m.refreshCtl.getD (m.rd REFRESH_CTRL_addr)
  let last := if m.refreshCtl.isSome then timeNs (m.rd REFRESH_LAST_addr) else m.now - 1
  let grid := (timeNext ctl (max last (m.now - 1)), timePeriod ctl)
  if bits ctl 71 71 = 0 then (grid.1, grid.2, 0)
  else if m.genlockOk ctl then
    let src := bits ctl 70 66
    let p := m.g (SRC_STATUS_PERIOD_NS src) / (bits ctl 65 62 + 1)
    let next := last + p
    (((next : Int) + slew (tget (fun _ => 0) m.lastCap src + bits ctl 32 7) next p).toNat, p, 1)
  else if m.trackP ≠ 0 then (last + m.trackP, m.trackP, 2)
  else (grid.1, grid.2, 2)

/-- The limit of a port's refresh lamp rate by the rate it runs at (R416). -/
def lampRateLimit : Nat → Nat | 0 => 150000000 | 1 => 37500000 | _ => 15000000

/-- The check of R418 on a port that is UP. -/
def State.rateCheck (s : State) (p : Nat) : State :=
  let r := refreshRate (s.m.refreshCtl.getD (s.m.rd REFRESH_CTRL_addr))
  let ovr := decide (lampRateLimit (s.m.g (PORT_STATUS_RATE_UP p)) * r.2 < s.portLamps p * r.1)
  s.onM (fun m => if m.portUp p then m.pb (PORT_STATUS_RATE_OVER p) ovr else m)

/-! ### Frames -/

/-- A frame to every card of a port that concerns refresh `seq`. -/
def allFrame (kind seq aux : Nat) (body : List Nat) : LFrame := ⟨kind, 1, true, 0, seq, 0, 0, aux, body⟩

/-- A number as n big-endian bytes. -/
def beBytes (n v : Nat) : List Nat := (List.range n).map (fun i => v / 256 ^ (n - 1 - i) % 256)

/-- SHOW with its delay and REPEAT (R420, R427). -/
def showFrame (seq delayUs : Nat) (repeated : Bool) : LFrame :=
  allFrame 0x11 seq 0 (beBytes 4 (1000 * delayUs) ++ [if repeated then 1 else 0])

/-- A frame leaves a port. -/
def Dev.sendLamp (m : Dev) (p : Nat) (f : LFrame) : Dev :=
  let m := (m.send (.lampFrame p f.kind f.version f.all f.card f.seq f.first f.count f.aux f.body)).incW (PORT_COUNTS_FRAMES_SENT p)
  m.modLport p (fun x => { x with lastTx := m.now })

/-- A DATA or LIVE frame leaves with the newest values (R428), which are noted as carried (R431). -/
def Dev.sendVals (m : Dev) (p kind : Nat) (r : LRef) : Dev :=
  let vals := (List.range r.count).map (fun i => tget (fun _ => 0) m.lampVal (r.lamp + i))
  let m := m.sendLamp p ⟨kind, max 1 (m.card p r.card).ver, false, r.card, r.seq, r.first, r.count, 0, vals.flatMap (beBytes 6)⟩
  (List.range r.count).foldl (fun (m : Dev) i =>
    { m with sentVals := tput (fun _ => 0) m.sentVals (r.lamp + i) (vals.getD i 0) }) m

/-- The next frame of an idle port by priority (R428); while the device is halted only HOLD leaves (R429). -/
def Dev.lampTx (m : Dev) (p : Nat) : Dev :=
  let x := m.lport p
  if !m.portUp p then m
  else match x.urgent, x.live, x.data, x.low with
    | f :: r, _, _, _ => (m.setLport p { x with urgent := r }).sendLamp p f
    | [], f :: r, _, _ => if m.halted then m else ((m.setLport p { x with live := r }).sendVals p 0x12 f).incW (PORT_COUNTS_LIVE_FRAMES p)
    | [], [], f :: r, _ => if m.halted then m else (m.setLport p { x with data := r }).sendVals p 0x10 f
    | [], [], [], f :: r => if m.halted then m else (m.setLport p { x with low := r }).sendLamp p f
    | [], [], [], [] => m

/-- Queue a frame of the highest priority, or of the lowest. -/
def Dev.urgent (m : Dev) (p : Nat) (f : LFrame) : Dev := m.modLport p (fun x => { x with urgent := x.urgent ++ [f] })
def Dev.lowly (m : Dev) (p : Nat) (f : LFrame) : Dev := m.modLport p (fun x => { x with low := x.low ++ [f] })

/-- The DATA frames of a panel: up to 240 lamps each, from the first lamp on (R427). -/
def dataRefs (q : Panel) (seq : Nat) : List LRef :=
  (List.range ((q.lamps + 239) / 240)).map (fun i => ⟨q.card, q.first + 240 * i, 240 * i, min 240 (q.lamps - 240 * i), seq⟩)

/-- Insert a panel in ascending FIRST_LAMP order (R386). -/
def insertPanel (q : Panel) : List Panel → List Panel
  | [] => [q]
  | r :: t => if q.first < r.first then q :: r :: t else r :: insertPanel q t

/-- The panels of a port in ascending FIRST_LAMP order (R386). -/
def State.portPanels (s : State) (p : Nat) : List Panel := (s.panels.filter (fun q => q.port == p)).foldl (fun l q => insertPanel q l) []

/-! ### The refresh start (R427) -/

/-- Refresh k ends on a port (R427): SHOW, with REPEAT after an overrun or on a late port; answers whether the port shows
it. -/
def Dev.endRefresh (m : Dev) (p : Nat) (overrun : Bool) : Dev × Bool :=
  if !m.portUp p then (m, false)
  else
    let late := !overrun && !(m.lport p).data.isEmpty
    let m := if late then m.incW (PORT_COUNTS_LATE_SKIPS p) else m
    let m := m.modLport p (fun x => { x with data := [] })
    let again := overrun || late
    (m.urgent p (showFrame (m.g COMP_STATUS_REFRESH_COUNT) (m.g LAMP_TIMING_SHOW_DELAY) again), !again)

/-- Refresh k ends on every port; the ledger counts it (R41, R427, R437). -/
def State.endRefreshes (s : State) (overrun : Bool) : State :=
  if !s.m.inRefresh then s
  else
    let r := (List.range 64).foldl (fun (a : Dev × List Nat) p =>
      let q := a.1.endRefresh p overrun
      (q.1, if q.2 then a.2 ++ [p] else a.2)) (s.m, [])
    let m := if overrun then r.1.incW COMP_STATUS_OVERRUNS else r.1
    let m := if r.2.isEmpty then m else m.incS LIFE_COUNTS_REFRESHES
    { s with m := m }.countDose r.2

/-- Refresh k + 1 is queued on the ports as DATA frames (R427). -/
def State.queueData (s : State) : State :=
  let seq := s.m.g COMP_STATUS_REFRESH_COUNT
  s.onM (fun m => m.each 64 (fun p m =>
    if m.portUp p then m.modLport p (fun x => { x with data := ((s.portPanels p).filter m.cardTakes).flatMap (fun q => dataRefs q seq) })
    else m))

/-- A refresh starts (R35, R40, R425–R427). `overrun`: the compositor had not composed every lamp of the refresh that ends. -/
def State.refreshStart (s : State) (overrun : Bool) : State :=
  let (start, period, lock) := s.m.nextRefresh
  let ovr := overrun && s.m.inRefresh
  let s := s.endRefreshes ovr
  let s := s.onM (fun m =>
    let m := (m.reach start).wr REFRESH_LAST_addr (timeWord start)
    let m := { (m.p REFRESH_STATUS_PERIOD_NS period).pb REFRESH_STATUS_LOCKED (lock == 1) with
      refreshCtl := some (m.rd REFRESH_CTRL_addr), refPeriod := period, sentVals := [] }
    let m := { m with trackP := if lock = 1 then period else if bits (m.rd REFRESH_CTRL_addr) 71 71 = 1 then m.trackP else 0 }
    let m := m.onlyIf (lock == 2 && !m.on REFRESH_STATUS_GENLOCK_HOLD) (fun m => m.event 38 0)
    (m.pb REFRESH_STATUS_GENLOCK_HOLD (lock == 2)).incW COMP_STATUS_REFRESH_COUNT)
  let map := s.m.g COMP_STATUS_ACTIVE_MAP
  let s := s.applyConfig start
  let s := if s.m.g COMP_STATUS_ACTIVE_MAP = map then s else (List.range 64).foldl (fun s p => s.rateCheck p) s
  let s := if ovr then s else s.latchLayers start
  let s := s.onM (fun m => m.latchAll (List.range 544) 5)
  if s.m.on COMP_CTRL_ENABLE then (s.composeAll.queueData).onM (fun m => { m with inRefresh := true })
  else s.onM (fun m => { m with inRefresh := false })

/-! ### Links -/

/-- A port goes down with what it was sending (R429). -/
def Dev.portQuiet (m : Dev) (p st : Nat) : Dev :=
  let up := m.portUp p
  let m := (m.p (PORT_STATUS_STATE p) st).p (PORT_STATUS_RATE_OVER p) 0
  (m.setLport p {}).onlyIf up (fun m => m.event 38 3)

/-- A write of PORT_CTRL (R416, R429). -/
def Dev.portCtrl (m : Dev) (p : Nat) (v : Word) : Dev :=
  let was := m.on (PORT_CTRL_ENABLE p)
  let m := if was then m else m.p (PORT_CTRL_RATE p) (bits v 70 69)
  let m := (m.p (PORT_CTRL_AUTO_UPLOAD p) (bits v 68 68)).p (PORT_CTRL_ENABLE p) (bits v 71 71)
  let m := m.onlyIf (bits v 67 67 == 1 && m.portUp p) (fun m => m.urgent p (allFrame 0x14 0 0 []))
  if bits v 71 71 = 1 ∧ was = false then (m.setLport p {}).p (PORT_STATUS_STATE p) 1
  else if bits v 71 71 = 0 ∧ was = true then m.portQuiet p 0 else m

/-! ### Uploads (R430) -/

/-- QUEUED as the queue stands. -/
def Dev.setUpQ (m : Dev) (q : List (Nat × Nat)) : Dev := { m.p UPLOAD_STATUS_QUEUED q.length with upQ := q }

/-- A request joins the queue, or is dropped (R430). -/
def Dev.uploadAsk (m : Dev) (p c : Nat) : Dev :=
  if 1024 ≤ m.upQ.length then m.incW UPLOAD_STATUS_DROPS else m.setUpQ (m.upQ ++ [(p, c)])

/-- An upload ends with a result (R430). -/
def Dev.uploadEnd (m : Dev) (p c result : Nat) : Dev :=
  let m := ((m.p UPLOAD_STATUS_LAST_PORT p).p UPLOAD_STATUS_LAST_CARD c).p UPLOAD_STATUS_LAST_RESULT result
  { ((m.incW UPLOAD_STATUS_UPLOADS).p UPLOAD_STATUS_BUSY 0).event 38 1 with upload := none }

/-- CAL_REQ for the range from a word on (R430). -/
def Dev.calReq (m : Dev) (p c first total : Nat) : Dev :=
  m.lowly p ⟨0x20, max 1 (m.card p c).ver, false, c, 0, first, min 160 (total - first), 0, []⟩

/-- The check of step 1 (R430): 0 to go on, else the result. -/
def State.uploadCheck (s : State) (p c : Nat) : Nat :=
  let x := s.m.card p c
  if x.st = 2 then 2
  else if x.st ≠ 1 then 1
  else if !x.factory then 6
  else match s.panelOf p c with
    | some q => if q.w = x.w ∧ q.h = x.h then 0 else 2
    | none => 2

/-- Serve the queue while nothing is in progress (R430). -/
def State.uploadNext (s : State) : Nat → State
  | 0 => s
  | n + 1 =>
    if s.m.upload.isSome then s
    else match s.m.upQ with
      | [] => s
      | (p, c) :: r =>
        let s := s.onM (fun m => m.setUpQ r)
        let k := s.uploadCheck p c
        if k ≠ 0 then (s.onM (fun m => m.uploadEnd p c k)).uploadNext n
        else
          let x := s.m.card p c
          s.onM (fun m =>
            { (m.p UPLOAD_STATUS_BUSY 1).calReq p c 0 (x.w * x.h) with upload := some ⟨p, c, 0, 1, x.crc, x.serial⟩ })

/-- Serve the queue. -/
def State.uploads (s : State) : State := s.uploadNext (s.m.upQ.length + 1)

/-- The bytes of a staged record (R430). -/
def State.staged (s : State) (n : Nat) : List (BitVec 8) := (s.drams (s.m.g LAMP_AREAS_UPLOAD_AREA) n).flatMap wordBytes

/-- A whole record is staged (R430): its CRC, then the hand-over to the calibration updater. -/
def State.uploadFinish (s : State) (u : Upload) : State :=
  let x := s.m.card u.port u.card
  let n := x.w * x.h
  if crc32 (s.staged n) ≠ x.crc then (s.onM (fun m => m.uploadEnd u.port u.card 3)).uploads
  else
    let base := s.m.g LAMP_AREAS_UPLOAD_AREA
    let s := match s.panelOf u.port u.card with
      | some q => (List.range n).foldl (fun (s : State) (k : Nat) => s.calLamp (q.first + k) (some (s.dram (base + k))) none) s
      | none => s
    (s.onM (fun m => m.uploadEnd u.port u.card 0)).uploads

/-- 9-byte words of a CAL_DATA payload, packed as in R10. -/
def packBytes (bs : List Nat) : List Word := packWords bs.length (bs.map (BitVec.ofNat 8))

/-- A CAL_DATA frame that passed its checks (R430). -/
def State.calData (s : State) (p : Nat) (f : CardFrame) : State :=
  match s.m.upload with
  | none => s
  | some u =>
    if u.port ≠ p ∨ u.card ≠ f.card then s
    else
      let x := s.m.card p f.card
      let total := x.w * x.h
      let s := s.stores .device (s.m.g LAMP_AREAS_UPLOAD_AREA + f.first) (clean (packBytes f.body))
      if f.first ≠ u.next ∨ f.count ≠ min 160 (total - u.next) then s
      else
        let u' := { u with next := u.next + f.count, tries := 1 }
        if total ≤ u'.next then s.uploadFinish u'
        else s.onM (fun m => { m.calReq p f.card u'.next total with upload := some u' })

/-! ### Cards (R421–R424) -/

/-- A frame's FCS and header decide whether it is read (R420): a bad one is counted. -/
def Dev.cardRx (m : Dev) (p : Nat) (f : CardFrame) (good : Bool) : Dev × Bool :=
  if !f.fcsOk then (m.incW (PORT_ERRORS_RX_FCS p), false)
  else if !f.sound || !good then (m.incW (PORT_ERRORS_RX_BAD p), false) else (m, true)

/-- A big-endian number from n bytes of a body. -/
def beAt (body : List Nat) (i n : Nat) : Nat := (List.range n).foldl (fun v k => 256 * v + body.getD (i + k) 0 % 256) 0

/-- Is a HELLO payload sound (R421)? -/
def helloOk (f : CardFrame) : Bool :=
  f.version == 1 && f.body.length == 21 && decide (beAt f.body 0 1 < 4) && decide (1 ≤ beAt f.body 2 2) && decide (beAt f.body 2 2 ≤ 1023) &&
    decide (1 ≤ beAt f.body 4 2) && decide (beAt f.body 4 2 ≤ 1023) && decide (beAt f.body 12 1 < 2)

/-- The highest version offered to cards (LAMP_MAC). -/
def Dev.protoMax (m : Dev) : Nat := let v := m.g LAMP_MAC_PROTO_MAX; if v = 0 then 1 else min v 2

/-- The version negotiated with a card (R423), 0 for none. -/
def negotiate (versions top : Nat) : Nat :=
  if 2 ≤ top ∧ versions / 2 % 2 = 1 then 2 else if versions % 2 = 1 then 1 else 0

/-- CONFIG to one card (R420). -/
def Dev.configFrame (m : Dev) (c ver : Nat) : LFrame :=
  ⟨0x02, ver, false, c, 0, 0, 0, 0, [ver, m.outSet.obits] ++ beBytes 2 (m.g LAMP_TIMING_LINK_HOLD_MS)⟩

/-- A HELLO (R423). -/
def State.hello (s : State) (p : Nat) (f : CardFrame) : State :=
  let old := s.m.card p f.card
  let b := f.body
  let ver := negotiate (beAt b 0 1) s.m.protoMax
  let panel := s.panelOf p f.card
  let st := match panel with
    | none => 1
    | some q => if q.w ≠ beAt b 2 2 ∨ q.h ≠ beAt b 4 2 then 2 else if ver = 0 then 3 else 1
  let x : Card := ⟨st, ver, beAt b 2 2, beAt b 4 2, beAt b 6 2, beAt b 8 4, beAt b 12 1 == 1, beAt b 13 8, old.temp, old.openLamps, 0, true⟩
  let changed := !old.seen || old.crc != x.crc || old.serial != x.serial
  let s := s.setCard p f.card x
  let s := s.onM (fun m =>
    if st = 2 then m.urgent p ⟨0x14, max 1 ver, false, f.card, 0, 0, 0, 0, []⟩
    else if st = 1 then m.lowly p (m.configFrame f.card (max 1 ver)) else m)
  let s := match s.m.upload with
    | some u => if u.port = p ∧ u.card = f.card ∧ (u.crc ≠ x.crc ∨ u.serial ≠ x.serial) then s.onM (fun m => m.uploadEnd p f.card 3) else s
    | none => s
  let s := if st = 1 ∧ panel.isSome = true ∧ changed = true ∧ s.m.on (PORT_CTRL_AUTO_UPLOAD p) = true then s.onM (fun m => m.uploadAsk p f.card) else s
  s.uploads

/-- The cards of a port that a fresh DISCOVER finds unanswered count it; the third makes them ABSENT (R423). -/
def State.discover (s : State) (p : Nat) : State :=
  let ks := (s.m.cards.filter (fun e => e.1 / 1024 == p && e.2.st != 0)).map (fun e => e.1 % 1024)
  let s := ks.foldl (fun s c =>
    let x := s.m.card p c
    if 3 ≤ x.missed then s.setCard p c { x with st := 0, missed := 0 }
    else s.onM (fun m => { m with cards := tput (fun _ => ({} : Card)) m.cards (p * 1024 + c) { x with missed := x.missed + 1 } })) s
  s.onM (fun m => m.lowly p (allFrame 0x00 0 0 []))

/-! ### Meanings -/

/-- PORT_ENABLE (R416): a write of PORT_CTRL. -/
def execPortEnable (mst p : Nat) (v : Word) (s : State) : Host.Outcome State Fault Refusal :=
  .next (s.onM (fun m => m.ifWrite mst (PORT_CTRL_addr (p % 64)) (fun m => m.portCtrl (p % 64) v)))

/-- LAMP_LINK_UP (R418): a link comes up at RATE's rate, or under AUTO at the one it reports. -/
def execLampLinkUp (p rate : Nat) (s : State) : Host.Outcome State Fault Refusal :=
  let want := s.m.g (PORT_CTRL_RATE p)
  .next (if p < 64 ∧ s.m.g (PORT_STATUS_STATE p) = 1 ∧ (want = rate ∨ (want = 3 ∧ rate ≤ 2)) then
      (s.onM (fun m => (((m.p (PORT_STATUS_STATE p) 2).p (PORT_STATUS_RATE_UP p) rate).event 38 3).setLport p
        { lastTx := m.now, low := [allFrame 0x00 0 0 []] })).rateCheck p
    else s)

/-- A port that is UP loses its link (R429); an upload of one of its cards ends (R430). -/
def State.lampDown (s : State) (p : Nat) : State :=
  let s := s.onM (fun m => (m.portQuiet p 1).incW (PORT_ERRORS_LINK_DOWNS p))
  match s.m.upload with
  | some u => if u.port = p then (s.onM (fun m => m.uploadEnd p u.card 5)).uploads else s
  | none => s

/-- LAMP_LINK_DOWN (R429). -/
def execLampLinkDown (p : Nat) (s : State) : Host.Outcome State Fault Refusal :=
  .next (if p < 64 ∧ s.m.portUp p = true then s.lampDown p else s)

/-- LAMP_LINK_RETRY (R416): the next try, under AUTO at the next rate. -/
def execLampLinkRetry (p : Nat) (s : State) : Host.Outcome State Fault Refusal :=
  .next (s.onM (fun m => if p < 64 ∧ m.g (PORT_STATUS_STATE p) = 1 then
    m.modLport p (fun x => { x with tryCount := x.tryCount + 1, tryRate := if m.g (PORT_CTRL_RATE p) = 3 then (x.tryRate + 1) % 3 else x.tryRate })
    else m))

/-- LAMP_FRAME_TX (R428). -/
def execLampFrameTx (p : Nat) (s : State) : Host.Outcome State Fault Refusal := .next (s.onM (fun m => if p < 64 then m.lampTx p else m))

/-- DISCOVER_TIMER (R423). -/
def execDiscoverTimer (p : Nat) (s : State) : Host.Outcome State Fault Refusal :=
  .next (if p < 64 ∧ s.m.portUp p = true ∧ s.m.halted = false then s.discover p else s)

/-- CARD_HELLO (R423). -/
def execCardHello (p : Nat) (f : CardFrame) (s : State) : Host.Outcome State Fault Refusal :=
  .next (if p < 64 ∧ s.m.portUp p = true then
      let r := s.m.cardRx p f (helloOk f)
      if r.2 then s.hello p f else { s with m := r.1 }
    else s)

/-- CARD_STATUS (R424): version 2 only, and the version the card negotiated (R420). -/
def execCardStatus (p : Nat) (f : CardFrame) (s : State) : Host.Outcome State Fault Refusal :=
  .next (if p < 64 ∧ s.m.portUp p = true then
      let x := s.m.card p f.card
      let r := s.m.cardRx p f (f.version == 2 && x.ver == 2 && f.body.length == 5)
      if r.2 then s.setCard p f.card { x with temp := beAt f.body 0 2, openLamps := beAt f.body 2 3 } else { s with m := r.1 }
    else s)

/-- HOLD_TIMER (R429): nothing has left the port for 1 ms. -/
def execHoldTimer (p : Nat) (s : State) : Host.Outcome State Fault Refusal :=
  .next (s.onM (fun m => if p < 64 ∧ m.portUp p = true then
    (m.reach ((m.lport p).lastTx + 1000000)).urgent p (allFrame 0x13 0 0 []) else m))

/-- PORT_BLANK (R429): a write of PORT_CTRL with BLANK 1. -/
def execPortBlank (mst p : Nat) (v : Word) (s : State) : Host.Outcome State Fault Refusal :=
  .next (s.onM (fun m => m.ifWrite mst (PORT_CTRL_addr (p % 64)) (fun m => m.portCtrl (p % 64) (putBits v 67 67 1))))

/-- A write of UPLOAD_CMD (R430): one card, or every READY card of the port in card order. -/
def State.uploadCmd (s : State) (v : Word) : State :=
  let p := bits v 71 66
  let s := if bits v 55 55 = 1 then
      s.onM (fun m => m.each 1024 (fun c m => if (m.card p c).st == 1 then m.uploadAsk p c else m))
    else s.onM (fun m => m.uploadAsk p (bits v 65 56))
  s.uploads

/-- UPLOAD_CMD (R430). -/
def execUploadCmd (mst : Nat) (v : Word) (s : State) : Host.Outcome State Fault Refusal :=
  .next (s.ifWrite mst UPLOAD_CMD_addr (fun s => s.uploadCmd v))

/-- CAL_DATA (R430): a frame whose COUNT does not fit its length is bad (R420). -/
def execCalData (p : Nat) (f : CardFrame) (s : State) : Host.Outcome State Fault Refusal :=
  .next (if p < 64 ∧ s.m.portUp p = true then
      let x := s.m.card p f.card
      let r := s.m.cardRx p f (f.version == max 1 x.ver && f.body.length == 9 * f.count)
      if r.2 then s.calData p f else { s with m := r.1 }
    else s)

/-- CAL_REQ_TIMEOUT (R430): a range unanswered for 10 ms is asked again, and the third failure ends the upload. -/
def execCalReqTimeout (s : State) : Host.Outcome State Fault Refusal :=
  .next (match s.m.upload with
    | none => s
    | some u =>
      if 3 ≤ u.tries then (s.onM (fun m => m.uploadEnd u.port u.card 4)).uploads
      else
        let x := s.m.card u.port u.card
        s.onM (fun m => { m.calReq u.port u.card u.next (x.w * x.h) with upload := some { u with tries := u.tries + 1 } }))

/-- REFRESH_START (R427). -/
def execRefreshStart (overrun : Bool) (s : State) : Host.Outcome State Fault Refusal :=
  .next (if s.m.coreUp then s.refreshStart overrun else s)

end Sys2Proof.Machine
end

