-- ==== Sys2Proof/Machine/Pace.lean ====
section
/-!
DEFINITION. Machine/Pace.lean: the pace monitors and the pace index (R56–R60, R63), the governor and its clamps (R66–R71),
temperature (R74, R75) and the user trims (R76).
-/

namespace Sys2Proof.Machine

/-! ### The pace index -/

/-- Is a monitor excluded (R59)? -/
def Dev.excluded (m : Dev) (k : Nat) : Bool := m.on (PACE_MON_MON_EXCLUDED k)

/-- How many monitors are excluded. -/
def Dev.excludedCount (m : Dev) : Nat := ((List.range 16).filter m.excluded).length

/-- Insert into a rising list, repeats kept. -/
def insertSorted (v : Nat) : List Nat → List Nat
  | [] => [v]
  | x :: r => if v ≤ x then v :: x :: r else x :: insertSorted v r

/-- Twice the median of a list, exactly; none of an empty one (R59). -/
def median2 (l : List Nat) : Option Nat :=
  let s := l.foldl (fun t v => insertSorted v t) []
  let n := s.length
  if n = 0 then none else some (s.getD ((n - 1) / 2) 0 + s.getD (n / 2) 0)

/-- Does a pace differ by more than 25 % from half of `m2` (R59)? -/
def paceOff (p m2 : Nat) : Bool := decide (m2 < 4 * (2 * p - m2)) || decide (m2 < 4 * (m2 - 2 * p))

/-- The windows in a row that each monitor has been off, and the exclusions they bring (R59). -/
def Dev.monitorCheck (m : Dev) (paces : List Nat) : Dev :=
  let open_ := (List.range 16).filter (fun k => !m.excluded k)
  open_.foldl (fun (d : Dev) k =>
    let others := (open_.filter (fun j => j != k)).map (fun j => paces.getD j 0)
    let off := match median2 others with | some m2 => paceOff (paces.getD k 0) m2 | none => false
    let n := if off then tget (fun _ => 0) d.monBad k + 1 else 0
    let d := { d with monBad := tput (fun _ => 0) d.monBad k n }
    if 100 ≤ n then (d.p (PACE_MON_MON_EXCLUDED k) 1).event 32 0 else d) m

/-- The least pace among the monitors left, with the lowest-numbered one that has it (R56). -/
def Dev.slowest (m : Dev) (paces : List Nat) : Nat × Nat :=
  match (List.range 16).filter (fun k => !m.excluded k) with
  | [] => (0, 0)
  | a :: r => r.foldl (fun b k => if paces.getD k 0 < b.2 then (k, paces.getD k 0) else b) (a, paces.getD a 0)

/-- The user derate (R76): values above 64 act as 64. -/
def Dev.derate (m : Dev) : Nat := min 64 (m.g TRIM_USER_PACE_DERATE)

/-- Is pace measurement lost: four or more monitors excluded (R59)? -/
def Dev.paceLost (m : Dev) : Bool := decide (4 ≤ m.excludedCount)

/-- The low mark at the end of a window. -/
def Dev.lowMark (m : Dev) (index slow : Nat) : Dev :=
  if m.on PACE_LOW_MARK_LOW_VALID = false ∨ index < m.g PACE_LOW_MARK_LOW_MARK then
    ((m.p PACE_LOW_MARK_LOW_MARK index).p PACE_LOW_MARK_LOW_MONITOR slow).p PACE_LOW_MARK_LOW_VALID 1
  else m

/-- A threshold of THERM_CTRL as a signed temperature in 1/8 °C, limited to +140 °C. -/
def thermLimit (v : Nat) : Int := min 1120 (signedOf 12 v)

/-- TEMP_OFFSET in 1/8 °C (R76). -/
def Dev.tempOffset (m : Dev) : Int := signedOf 8 (m.g TRIM_USER_TEMP_OFFSET)

/-- A factory-corrected reading, in 1/8 °C (R74). -/
def Dev.coreTemp (m : Dev) (k : Nat) : Int := tget (fun _ => 0) m.coreTemps k

/-- The first monitor whose factory-corrected reading exceeds T_CRIT (R74, R75). -/
def Dev.critAt (m : Dev) : Option Nat :=
  (List.range 16).find? (fun k => m.on (PACE_MON_MON_VALID k) && decide (thermLimit (m.g THERM_CTRL_T_CRIT) < m.coreTemp k))

/-- Does a reading exceed T_CRIT (R75)? -/
def Dev.thermCrit (m : Dev) : Bool := m.critAt.isSome

/-- THERM_CRIT and its report, at every window and every 50 µs point at which a reading exceeds T_CRIT (R75, R78, R607). -/
def Dev.critCheck (m : Dev) : Dev :=
  match m.critAt with
  | some k => (m.event 32 3).report 0x04 8 k (satSigned 12 (m.coreTemp k))
  | none => m

/-- The temperatures of a window (R74, R75), factory-corrected. -/
def Dev.windowTemps (m : Dev) (temps : List Int) : Dev :=
  let m := (List.range 16).foldl (fun (d : Dev) k =>
    { d.p (PACE_MON_MON_TEMP k) (satSigned 12 (temps.getD k 0 + d.tempOffset)) with
      coreTemps := tput (fun _ => 0) d.coreTemps k (temps.getD k 0) }) m
  let cold := (List.range 16).any (fun k =>
    decide (signedOf 12 (m.g (PACE_MON_MON_TEMP k)) < signedOf 12 (m.g THERM_CTRL_T_COLD_WARN)))
  (m.onlyIf cold (fun m => m.event 32 2)).critCheck

/-- The target that acts: 720–1536 (GOV_CTRL). -/
def Dev.paceTarget (m : Dev) : Nat := max 720 (min 1536 (m.g GOV_CTRL_PACE_TARGET))

/-- The end of a window (R56–R60, R63). `paces`: the token counts times the factory scales, truncated. -/
def Dev.paceWindow (m : Dev) (paces : List Nat) (temps : List Int) : Dev :=
  let ps := (List.range 16).map (fun k => min 4095 (paces.getD k 0))
  let lostBefore := m.paceLost
  let m := (List.range 16).foldl (fun (d : Dev) k => (d.p (PACE_MON_MON_PACE k) (ps.getD k 0)).p (PACE_MON_MON_VALID k) 1) m
  let m := m.monitorCheck ps
  let lost := m.paceLost
  let slow := m.slowest ps
  let raw := if lost then 0 else slow.2
  let index := raw * (1024 - m.derate) / 1024
  let m := (((m.p PACE_NOW_PACE_INDEX index).p PACE_NOW_PACE_RAW raw).p PACE_NOW_SLOW_MONITOR slow.1).incW PACE_NOW_UPDATE_COUNT
  let m := (m.p PACE_NOW_VALID 1).lowMark index slow.1
  let ns := 10000 * index + m.nomFrac
  let m := { m.addWrap PACE_WORK_NOMINAL_NS (ns / 1024) with nomFrac := ns % 1024 }
  let m := if index < 720 then m.event 32 7 else m
  let m := if lost && !lostBefore then m.report 0x01 0 0 (m.excludedCount % 16) else m
  let m := { m with missWins := if m.g GOV_CTRL_MODE = 1 ∧ index < m.paceTarget then m.missWins + 1 else 0 }
  (m.windowTemps temps).liveAll

/-! ### The governor -/

/-- The power limit that acts, in 1/4 W (GOV_CTRL). -/
def Dev.powerLimit (m : Dev) : Nat := max 160 (min 600 (m.g GOV_CTRL_POWER_LIMIT))

/-- The setpoint of the present mode (R59, R69). -/
def Dev.govSetpoint (m : Dev) : Nat :=
  if m.paceLost then 900
  else if m.g GOV_CTRL_MODE = 1 then m.govAuto
  else if m.g GOV_CTRL_MODE = 2 then max 600 (min 900 (m.g GOV_CTRL_VCORE_FIXED))
  else m.govHold

/-- Does the governor run (R65): the boot chain has started it? -/
def Dev.govRuns (m : Dev) : Bool := m.g POWER_STATUS_STATE == 1 || m.g POWER_STATUS_STATE == 2

/-- A write of GOV_CTRL (R69): HOLD keeps VCORE_SET as it stands on entry, and AUTO starts from it. -/
def Dev.govCtrl (m : Dev) (v : Word) : Dev :=
  let old := m.g GOV_CTRL_MODE
  let m := m.commit GOV_CTRL_addr v
  let new := m.g GOV_CTRL_MODE
  if old = new then m else { m with govHold := m.g GOV_STATUS_VCORE_SET, govAuto := m.g GOV_STATUS_VCORE_SET }

/-- AVS_FAIL, as event, fault bit and report (R71). -/
def Dev.avsFail (m : Dev) (status : Nat) : Dev := ((m.p GOV_STATUS_AVS_FAULT 1).event 32 1).report 0x02 0 0 (status % 256)

/-- The clamps at a 50 µs point (R68): each with its event while it is active; one that becomes active after AVS_FAIL is
reported as AVS_FAIL again. -/
def Dev.clamps (m : Dev) : Dev :=
  let wasP := m.on GOV_STATUS_LIMIT_POWER
  let wasT := m.on GOV_STATUS_LIMIT_THERMAL
  let p := m.g GOV_STATUS_DEVICE_POWER
  let power := decide (m.powerLimit < p) || (wasP && decide (98 * m.powerLimit < 100 * p))
  let t := thermLimit (m.g THERM_CTRL_T_THROTTLE)
  let thermal := decide (t < m.topTemp) || (wasT && decide (t - 16 < m.topTemp))
  let m := (m.pb GOV_STATUS_LIMIT_POWER power).pb GOV_STATUS_LIMIT_THERMAL thermal
  let m := m.onlyIf power (fun m => m.event 32 5)
  let m := m.onlyIf thermal (fun m => m.event 32 4)
  m.onlyIf (m.on GOV_STATUS_AVS_FAULT && ((power && !wasP) || (thermal && !wasT)))
    (fun m => m.avsFail 0)

/-- The step of VCORE_SET at a 50 µs point (R67, R75). -/
def Dev.vcoreStep (m : Dev) : Dev :=
  let set := m.g GOV_STATUS_VCORE_SET
  let down := m.on GOV_STATUS_LIMIT_POWER || m.on GOV_STATUS_LIMIT_THERMAL || m.thermCrit
  let goal := m.govSetpoint
  let next := if down then set - 5 else if set < goal then set + min 5 (goal - set) else set - min 5 (set - goal)
  let next := max 600 (min 900 next)
  if m.on GOV_STATUS_AVS_FAULT then m
  else
    let m := if next = set then m else (m.p GOV_STATUS_VCORE_SET next).send (.avs true (next + min 40 (m.g TRIM_USER_VCORE_OFFSET)))
    { m with govAuto := if down then next else m.govAuto }

/-- A 50 µs point (R66–R68, R72, R75). `mv`: the VCORE read, `cur` its current in 1/8 A. -/
def Dev.govPoint (m : Dev) (mv cur : Nat) : Dev :=
  let m := (m.p GOV_STATUS_VCORE_MEAS (min 1023 mv)).p GOV_STATUS_IVCORE (min 4095 cur)
  let m := if m.g GOV_STATUS_VCORE_SET = 0 then
      { m.p GOV_STATUS_VCORE_SET (min 1023 mv) with govHold := min 1023 mv, govAuto := min 1023 mv } else m
  let m := m.p GOV_STATUS_DEVICE_POWER (min 1023 (mv * cur / 2000 + m.otherPower))
  let m := if mv < 580 ∨ 920 < mv then m.report 0x03 0 0 (min 1023 mv) else m
  let m := m.critCheck.clamps.vcoreStep
  (m.pb GOV_STATUS_LIMIT_CEILING (m.g GOV_STATUS_VCORE_SET == 900)).pb GOV_STATUS_LIMIT_FLOOR (m.g GOV_STATUS_VCORE_SET == 600)

/-- The firmware loop (R66, R69): the estimate of the other rails, in 1/4 W, and in AUTO the setpoint. It does not steer
while a clamp is active. DEDUCED (log entry 19) from R69's example. -/
def Dev.govLoop (m : Dev) (other : Nat) : Dev :=
  let m := { m with otherPower := other }
  let i := m.g PACE_NOW_PACE_INDEX
  let clamp := m.on GOV_STATUS_LIMIT_POWER || m.on GOV_STATUS_LIMIT_THERMAL || m.thermCrit
  if m.g GOV_CTRL_MODE = 1 ∧ m.paceLost = false ∧ clamp = false then
    if i < m.paceTarget then { m with govAuto := min 900 (m.govAuto + 5) }
    else if m.paceTarget + 16 < i then { m with govAuto := max 600 (m.govAuto - 5) } else m
  else m

/-- An AVSBus frame completes (R71): the third retry of a failed one sets AVS_FAIL. -/
def Dev.avsFrame (m : Dev) (ok : Bool) (status : Nat) : Dev :=
  if m.on GOV_STATUS_AVS_FAULT then m
  else if ok then { m with avsTries := 0 }
  else if 3 ≤ m.avsTries then { m with avsTries := 0 }.avsFail status
  else { m with avsTries := m.avsTries + 1 }.send (.avs true (m.g GOV_STATUS_VCORE_SET + min 40 (m.g TRIM_USER_VCORE_OFFSET)))

/-! ### Meanings -/

/-- PACE_WINDOW (R56). -/
def execPaceWindow (paces : List Nat) (temps : List Int) (s : State) : Host.Outcome State Fault Refusal :=
  .next (s.onM (fun m => if m.pins.pwrOk then m.paceWindow paces temps else m))

/-- GOVERNOR_POINT (R67): it goes on during a halt (R68). -/
def execGovernorPoint (mv cur : Nat) (s : State) : Host.Outcome State Fault Refusal :=
  .next (s.onM (fun m => if m.govRuns then m.govPoint mv cur else m))

/-- GOVERNOR_LOOP (R69). -/
def execGovernorLoop (other : Nat) (s : State) : Host.Outcome State Fault Refusal :=
  .next (s.onM (fun m => if m.coreUp then m.govLoop other else m))

/-- TARGET_MISS (R70): 10 ms of windows below the target in AUTO. -/
def execTargetMiss (s : State) : Host.Outcome State Fault Refusal :=
  .next (s.onM (fun m => if 1000 ≤ m.missWins then { m with missWins := 0 }.event 32 6 else m))

/-- AVS_FRAME (R71). -/
def execAvsFrame (ok : Bool) (status : Nat) (s : State) : Host.Outcome State Fault Refusal :=
  .next (s.onM (fun m => if m.govRuns then m.avsFrame ok status else m))

end Sys2Proof.Machine
end

