-- ==== Sys2Proof/Machine/Host.lean ====
section
/-!
DEFINITION. Machine/Host.lean: the host port (18): the BAR4 window, MSI-X configuration, the ABI, the work rings with
their doorbells, fetches, checks and deliveries, and gates 12 and 13.
-/

namespace Sys2Proof.Machine

/-! ### The two windows -/

/-- The high bits that a stage gives a write of a word (R495): zero when it holds another word. -/
def stagedHigh (st : Option (Nat × Nat)) (key : Nat) : Nat :=
  match st with
  | some (k, h) => if k = key then h else 0
  | none => 0

/-- Is this one of the accesses R494 defines? -/
def barAccess (off size : Nat) : Bool := size == 8 && off % 8 == 0

/-- A bad access is counted (R494, R496). -/
def Dev.badAccess (m : Dev) : Dev := m.incS HOST_ERRORS_BAD_ACCESS

/-- The 64 low bits of a word. -/
def lowHalf (w : Word) : BitVec 64 := BitVec.ofNat 64 w.toNat

/-- The bits [71:64] of a word, as an access at +8 carries them (R494). -/
def highHalf (w : Word) : BitVec 64 := BitVec.ofNat 64 (bits w 71 64)

/-- The word that a BAR4 offset names (R497): true for a vault word, with its address. -/
def Dev.bar4Word (m : Dev) (off : Nat) : Option (Bool × Nat) :=
  let i := off / 16 % 2 ^ 27
  if off / 2 ^ 31 % 2 = 1 then (if i < 192 * 32768 then some (true, i) else none)
  else
    let a := m.g HOST_WINDOW_DRAM_WIN_BASE / 2 ^ 27 * 2 ^ 27 + i
    if a < m.capacity then some (false, a) else none

/-- A host access of a vault bank is denied (R451). -/
def Dev.hostDenied (m : Dev) : Dev := (m.incS VAULT_ERRORS_HOST_DENIED).event 34 4

/-- The word a BAR4 read reads, with its poison mark (R457, R497). -/
def State.bar4Load (s : State) (off : Nat) : State × Word × Bool :=
  match s.m.bar4Word off with
  | none => (s.onM (fun m => m.incS HOST_ERRORS_BAR4_RANGE), 0, false)
  | some (true, a) =>
    if s.m.bankOpen (a / 32768) 0x700 then (s.vaultCheck a, s.vaultRead a) else (s.onM Dev.hostDenied, 0, false)
  | some (false, a) => (s, s.dram a, s.dramPoison a)

/-- A BAR4 read (R497, R498). -/
def State.bar4Read (s : State) (off size : Nat) : State :=
  let ret := fun (s : State) (v : BitVec 64) (bad : Bool) => s.onM (fun m => m.send (.barData 4 off v bad))
  if s.m.held then s
  else if s.m.d3hot then s.onM (fun m => m.send (.unsupported off))
  else if !barAccess off size then ret (s.onM Dev.badAccess) 0 false
  else if s.m.halted then ret s 0 false
  else if off / 8 % 2 = 0 then
    let r := s.bar4Load off
    ret (r.1.onM (fun m => { m with bar4Latch := some (off / 16, bits r.2.1 71 64) })) (lowHalf r.2.1) r.2.2
  else match s.m.bar4Latch with
    | some (k, h) =>
      if k = off / 16 then ret (s.onM (fun m => { m with bar4Latch := none })) (BitVec.ofNat 64 h) false
      else let r := s.bar4Load off; ret r.1 (highHalf r.2.1) r.2.2
    | none => let r := s.bar4Load off; ret r.1 (highHalf r.2.1) r.2.2

/-- The word a BAR4 write commits (R472, R497). -/
def State.bar4Store (s : State) (off : Nat) (v : Word) : State :=
  match s.m.bar4Word off with
  | none => s.onM (fun m => m.incS HOST_ERRORS_BAR4_RANGE)
  | some (true, a) => if s.m.bankOpen (a / 32768) 0x700 then s.vaultStore a v false else s.onM Dev.hostDenied
  | some (false, a) => s.store (.master 0) a v false

/-- A BAR4 write (R497, R498). -/
def State.bar4Write (s : State) (off size : Nat) (data : BitVec 64) : State :=
  if s.m.held then s
  else if s.m.d3hot then s.onM (fun m => m.send (.unsupported off))
  else if !barAccess off size then s.onM Dev.badAccess
  else if s.m.halted then s
  else if off / 8 % 2 = 1 then s.onM (fun m => { m with bar4Stage := some (off / 16, data.toNat % 256) })
  else
    let v := Word.of (stagedHigh s.m.bar4Stage (off / 16) * 2 ^ 64 + data.toNat)
    (s.onM (fun m => { m with bar4Stage := none })).bar4Store off v

/-! ### MSI-X configuration -/

/-- Send the pending message of a vector that no mask holds back any more (R545). -/
def Dev.msixFlush (m : Dev) (v : Nat) : Dev :=
  if m.msixOn && smem m.pba v && !m.vecMasked v then { m with pba := sremove m.pba v }.send (.msix v) else m

/-- A write of the MSI-X control word (R545): on a rise of MSI-X Enable every group with an enabled bit set signals. -/
def Dev.msixCtrl (m : Dev) (enable maskAll : Bool) : Dev :=
  let was := m.msixOn
  let m := { m with msixOn := enable, msixMaskAll := maskAll }
  let m := m.pba.foldl (fun m v => m.msixFlush v) m
  if enable && !was then m.each 44 (fun g m => m.groupAll g) else m

/-- A write of an MSI-X table entry (R496, R545): address, data and vector control. -/
def Dev.msixEntry (m : Dev) (v : Nat) (entry : Nat) : Dev :=
  ({ m with msixTbl := tput msixDefault m.msixTbl v entry }).msixFlush v

/-! ### The ABI -/

/-- The 513 rings: 0–511 of the channels, 512 the admin ring. -/
def Dev.anyRing (m : Dev) : Bool := (List.range 513).any (fun r => m.on (rSqEnable r) || m.on (rCqEnable r))

/-- A write of HOST_ABI (R499). -/
def Dev.hostAbi (m : Dev) (v : Word) : Dev :=
  if m.anyRing then m else
  let q := bits v 71 64
  let set := fun (acc kw rej : Nat) => m.wr HOST_ABI_addr (Word.of (at_ 71 64 q + at_ 63 56 acc + at_ 55 55 kw + at_ 54 54 rej))
  if q / 16 = 3 then set 0x30 0 0
  else if q / 16 = 2 then (if q % 16 < 4 then set q 1 0 else set 0x23 1 0)
  else set 0 0 1

/-! ### Rings: enabling -/

/-- The entries a ring has fetched and not yet delivered or served. -/
def Dev.ringEntries (m : Dev) (r : Nat) : List RingEntry := tget (fun _ => []) m.entries r

/-- Store the entries of a ring. -/
def Dev.setEntries (m : Dev) (r : Nat) (l : List RingEntry) : Dev := { m with entries := tput (fun _ => []) m.entries r l }

/-- The entries of a channel ring delivered and not yet retired (R505, R507). -/
def Dev.unretired (m : Dev) (r : Nat) : Nat := tget (fun _ => 0) m.sqUnretired r

/-- The entries that the doorbell has named beyond the fetch point (R506); negative while prefetching runs ahead. -/
def Dev.sqLeadOf (m : Dev) (r : Nat) : Int := tget (fun _ => (0 : Int)) m.sqLead r

/-- Is a size in its range (R500, R501)? -/
def Dev.ringSizeOk (m : Dev) (n : Nat) : Bool := decide (4 ≤ n) && decide (n ≤ (if m.on HOST_ABI_KW40_MODE then 12 else 16))

/-- A submission ring starts afresh (R525). -/
def Dev.sqFresh (m : Dev) (r : Nat) : Dev :=
  let m := (m.wr (ringSet r + 2) 0).p (rSqPhase r) 1
  let m := { m with sqLead := tput (fun _ => (0 : Int)) m.sqLead r 0, sqUnretired := tput (fun _ => 0) m.sqUnretired r 0 }
  { m with sqIdle := sinsert m.sqIdle r, sqTries := tput (fun _ => 0) m.sqTries r 0 }.setEntries r []

/-- The submission ring of r is stopped (R525): entries fetched and not delivered are dropped, and the holds of their
transfers end. -/
def State.sqStop (s : State) (r : Nat) : State :=
  let l := (s.m.ringEntries r).filter (fun e => e.checked && e.status == 0 && e.moved != 0)
  (s.unholdAll (l.map (fun e => bits e.handle 71 36))).onM (fun m => (m.setEntries r []).p (rSqEnable r) 0)

/-- May a submission ring be enabled with this control word (R525)? -/
def State.sqOk (s : State) (r : Nat) (v : Word) : Bool :=
  s.m.g HOST_ABI_ACCEPTED != 0 && s.m.ringSizeOk (bits v 70 66) &&
    (r == 512 || (s.owns r (bits v 65 30) (8 * 2 ^ bits v 70 66) && s.m.chanFifo (bits v 29 24) r))

/-- A write of SQ_CTRL (R525). The admin set has no INBOX, HOST_FIFO or FIFO_PRIO. -/
def State.sqCtrl (s : State) (r : Nat) (v : Word) : State :=
  if s.m.on (rSqEnable r) then (if bits v 71 71 = 0 then s.sqStop r else s)
  else
    let keep := at_ 70 66 (bits v 70 66) + at_ 20 19 (bits v 20 19) + (if r = 512 then 0 else at_ 65 21 (bits v 65 21))
    let s := s.onM (fun m => m.wr (ringSet r + 1) (Word.of keep))
    if bits v 71 71 = 1 ∧ s.sqOk r v = true then s.onM (fun m => (m.p (rSqEnable r) 1).sqFresh r) else s

/-- A write of CQ_CTRL (R525). -/
def Dev.cqCtrl (m : Dev) (r : Nat) (v : Word) : Dev :=
  if m.on (rCqEnable r) then (if bits v 71 71 = 0 then m.p (rCqEnable r) 0 else m)
  else
    let m := m.wr (ringSet r + 4) (Word.of (at_ 70 66 (bits v 70 66)))
    if bits v 71 71 = 1 ∧ m.g HOST_ABI_ACCEPTED ≠ 0 ∧ m.ringSizeOk (bits v 70 66) = true then
      ((m.p (rCqEnable r) 1).wr (ringSet r + 5) 0).p (rCqPhase r) 1
    else m

/-- A write of SQ_BASE or CQ_BASE (R525): ignored while the ring is enabled. -/
def Dev.ringBaseWrite (m : Dev) (r : Nat) (cq : Bool) (v : Word) : Dev :=
  if cq then (if m.on (rCqEnable r) then m else m.p (rCqBase r) (bits v 71 8))
  else if m.on (rSqEnable r) then m else m.p (rSqBase r) (bits v 71 8)

/-! ### Doorbells -/

/-- May the ring fetch its next entry (R505, R506, R510, R512, R517, R612)? -/
def Dev.sqMayFetch (m : Dev) (r : Nat) : Bool :=
  m.coreUp && !m.ringStop && m.on (rSqEnable r) && !m.on DMA_GLOBAL_BUS_ERROR &&
    (decide (0 < m.sqLeadOf r) || (!m.on HOST_ABI_KW40_MODE && !smem m.sqIdle r)) &&
    (if r = 512 then (m.ringEntries r).isEmpty && m.on (rCqEnable r) && m.cqFree r != 0
     else !smem m.ringOff r && decide (m.unretired r + (m.ringEntries r).length < 2 ^ m.g (rSqSize r)))

/-- The device asks the host for the next entry, if the ring may fetch it (R505). -/
def Dev.sqAsk (m : Dev) (r : Nat) : Dev :=
  if m.sqMayFetch r then m.send (.hostRead (ringBase (m.g (rSqBase r)) + 64 * m.g (rSqFetch r)) 64) else m

/-- The value a doorbell write carries, by its size (R496). -/
def doorbellValue (size : Nat) (data : BitVec 64) : Nat := if size = 4 then data.toNat % 2 ^ 32 else data.toNat

/-- A doorbell write (R496): counted when it is malformed, ignored when the ring is disabled, else applied. -/
def Dev.doorbell (m : Dev) (en size_ : RF) (off size : Nat) (data : BitVec 64) (f : Dev → Nat → Dev) : Dev :=
  let v := doorbellValue size data
  if m.held then m
  else if m.d3hot then m.send (.unsupported off)
  else if size ≠ 4 ∧ size ≠ 8 then m.badAccess
  else if m.halted then m
  else if 2 ^ 16 ≤ v then m.incS HOST_ERRORS_DOORBELL_ERRS
  else if !m.on en then m
  else if 2 ^ m.g size_ ≤ v then m.incS HOST_ERRORS_DOORBELL_ERRS
  else f m v

/-- A submission doorbell rings with an index (R144, R506): the entries it names beyond the last index are to be fetched. -/
def Dev.sqRing (m : Dev) (r v : Nat) : Dev :=
  let n := 2 ^ m.g (rSqSize r)
  let adv := (v + n - m.g (rSqDoorbell r)) % n
  let m := { m.p (rSqDoorbell r) v with sqLead := tput (fun _ => (0 : Int)) m.sqLead r (m.sqLeadOf r + adv), sqIdle := sremove m.sqIdle r }
  let m := if r < 512 then (m.latch r 7).wake (m.clusterOf r) else m
  m.sqAsk r

/-! ### Fetched entries -/

/-- The first failing check of R511 on an entry's words, 0 for none; the mark is checked apart. -/
def entryReason (ring : Nat) (kw : Bool) (ws : List Word) : Nat :=
  let w0 := nthWord ws 0
  let w1 := nthWord ws 1
  let w2 := nthWord ws 2
  let op := bits w0 63 56
  let admin := ring == 512
  let data := !admin && (op == 2 || op == 3)
  let zeros :=
    bits w0 23 17 == 0 && bits w0 15 0 == 0 &&
    (if admin then
      (nthWord ws 3).toNat == 0 && (nthWord ws 4).toNat == 0 && (nthWord ws 5).toNat == 0 && bits w0 16 16 == 0 &&
        (if op = 0 then w1.toNat == 0 && w2.toNat == 0 else bits w1 58 0 == 0 && bits w2 71 36 == 0)
     else if data then
      bits w1 71 64 == 0 && bits w2 71 (if op = 2 then 40 else 36) == 0 && bits (nthWord ws 4) 71 36 == 0
     else true)
  if bits w0 71 64 ≠ (if kw then 2 else 3) then 2
  else if (if admin then decide (1 < op) else decide (op < 1) || decide ((if kw then 2 else 3) < op)) then 3
  else if !zeros || (kw && (nthWord ws 6).toNat != 0) then 4
  else if !kw && nthWord ws 6 != (ws.take 6).foldl (· + ·) 0 then 5
  else if data && (bits w2 35 0 == 0 || decide (2 ^ 24 < bits w2 35 0) || decide (2 ^ 64 < bits w1 63 0 + 9 * bits w2 35 0)) then 6
  else if admin && op == 1 && (bits w1 71 68 == 0 || decide (8 ≤ bits w1 71 68)) then 6
  else 0

/-- A malformed entry (R512): no entry is accepted any more, and a device halt is reported. -/
def Dev.malformed (m : Dev) (ring idx reason : Nat) : Dev :=
  { m with ringStop := true }.report 0x28 5 ring (at_ 27 12 idx + at_ 3 0 reason)

/-- An entry is accepted: the fetch point moves on, and the phase flips at the wrap (R502, R505). -/
def Dev.sqAccept (m : Dev) (r : Nat) (ws : List Word) : Dev :=
  let j := m.g (rSqFetch r)
  let m := m.setEntries r (m.ringEntries r ++ [{ idx := j, ws := ws.take 7, phase := m.g (rSqPhase r) }])
  let next := ringNext (m.g (rSqSize r)) j
  let m := if next = 0 then m.p (rSqPhase r) (1 - m.g (rSqPhase r)) else m
  let m := { m.p (rSqFetch r) next with sqLead := tput (fun _ => (0 : Int)) m.sqLead r (m.sqLeadOf r - 1), sqTries := tput (fun _ => 0) m.sqTries r 0 }
  m.sqAsk r

/-- An entry read from host memory arrives (R505, R506, R511): words 0–6 and the mark byte. -/
def Dev.sqFetched (m : Dev) (r : Nat) (ws : List Word) (mark : Nat) : Dev :=
  if !m.sqMayFetch r then m else
  let kw := m.on HOST_ABI_KW40_MODE
  let j := m.g (rSqFetch r)
  let owned := mark == 0xAA + m.g (rSqPhase r)
  if !kw && !owned then
    if m.sqLeadOf r ≤ 0 then { m with sqIdle := sinsert m.sqIdle r }
    else if tget (fun _ => 0) m.sqTries r < 2 then { m with sqTries := tmod (fun _ => 0) m.sqTries r (· + 1) }.sqAsk r
    else m.malformed r j 1
  else
    let e := entryReason r kw ws
    if e = 0 then m.sqAccept r ws else m.malformed r j e

/-! ### Delivery to the inbox -/

/-- Do the ring's DMA channels work (R516, R517, R614)? -/
def Dev.ringDma (m : Dev) : Bool := m.coreUp && !m.ringStop && !m.on DMA_GLOBAL_BUS_ERROR

/-- The oldest entry of a channel ring that waits for its delivery, with one of these opcodes (R505). -/
def Dev.frontEntry (m : Dev) (n : Nat) (ops : List Nat) : Option RingEntry :=
  match m.ringEntries n with
  | e :: _ => if m.ringDma && decide (n < 512) && smem ops (bits (nthWord e.ws 0) 63 56) then some e else none
  | [] => none

/-- Replace the oldest entry. -/
def Dev.setFront (m : Dev) (n : Nat) (e : RingEntry) : Dev := m.setEntries n (e :: (m.ringEntries n).drop 1)

/-- The inbox record of an entry (R505). -/
def inboxRecord (e : RingEntry) : List Word :=
  [nthWord e.ws 0, nthWord e.ws 1, nthWord e.ws 2, (if bits (nthWord e.ws 0) 63 56 = 2 then e.handle else nthWord e.ws 3),
    nthWord e.ws 4, nthWord e.ws 5, Word.of (at_ 71 56 e.idx + at_ 55 48 e.status + at_ 35 0 e.moved), Word.of e.phase]

/-- An entry is delivered (R505): the record, the event word, the counts, and with COMPLETE the DATA completion. -/
def State.deliver (s : State) (n : Nat) (e : RingEntry) : State :=
  let w0 := nthWord e.ws 0
  let s := s.stores .device (s.m.g (rSqInbox n) + 8 * e.idx) (clean (inboxRecord e))
  s.onM (fun m =>
    let m := m.setEntries n ((m.ringEntries n).drop 1)
    let m := { m with sqUnretired := tmod (fun _ => 0) m.sqUnretired n (· + 1) }.incW (rEntries n)
    let m := if e.status = 0 then m else m.incW (rReqFails n)
    let m := (m.fifoPush (m.g (rSqFifo n)) (m.g (rSqPrio n)) (Word.of (at_ 71 68 8 + at_ 67 52 e.idx)) false).1
    let m := if bits w0 16 16 = 1 ∧ bits w0 63 56 ≠ 1 then
      m.cqPost n 2 (bits w0 55 24) e.status [e.handle, Word.of e.moved, Word.of e.idx] else m
    m.sqAsk n)

/-- The check of a request on a buffer (R507): the handle's pool and buffer pass checks 1 and 2 of R485, the channel owns
it, and the range lies within it. -/
def State.requestOk (s : State) (n : Nat) (h : Word) (off words : Nat) : Bool :=
  (s.putCheck h n none).1 == 0 && decide (off + words ≤ s.m.poolSize (bits h 35 32))

/-- A transfer begins: the buffer is held, and the entry waits for the transfer's end (R483, R505). -/
def State.transfer (s : State) (n : Nat) (e : RingEntry) (h : Word) (words : Nat) : State :=
  (s.hold (bits h 71 36)).onM (fun m => m.setFront n { e with handle := h, moved := words, checked := true })

/-- DATA_IN (R504, R507): the words come from the host; a request that fails is delivered with its status. A buffer under
handle 0 is taken only when the request fits it. -/
def State.dataIn (s : State) (n : Nat) (e : RingEntry) (data : List Word) : State :=
  let w2 := nthWord e.ws 2
  let words := bits w2 35 0
  let off := bits (nthWord e.ws 4) 35 0
  let h0 := nthWord e.ws 3
  let fail := fun (s : State) (st : Nat) => s.deliver n { e with status := st, handle := h0, checked := true }
  let move := fun (s : State) (h : Word) =>
    (s.stores .device (bits h 71 36 + off) (clean ((List.range words).map (fun i => nthWord data i)))).transfer n e h words
  if h0 = 0 then
    let r := s.poolTake (bits w2 39 36) n false
    if r.2 = 0 then fail r.1 6
    else if r.1.requestOk n r.2 off words then move r.1 r.2 else fail s 8
  else if s.requestOk n h0 off words then (if s.holdFull (bits h0 71 36) then s else move s h0)
  else fail s 8

/-- The packets of words and poison marks as posted writes, a write for each run of equal marks (R457, R515). -/
def hostRuns (addr : Nat) : List (Word × Bool) → List Out
  | [] => []
  | (w, b) :: r =>
    match hostRuns (addr + 9) r with
    | .hostWrite a ws bad :: rest =>
      if a = addr + 9 ∧ bad = b then .hostWrite addr (w :: ws) b :: rest else .hostWrite addr [w] b :: .hostWrite a ws bad :: rest
    | rest => .hostWrite addr [w] b :: rest

/-- Send a list of outputs in order. -/
def Dev.sends (m : Dev) (l : List Out) : Dev := l.foldl (fun m o => m.send o) m

/-- DATA_OUT (R504, R507): the words go to the host; a poisoned one in a poisoned packet (R457). -/
def State.dataOut (s : State) (n : Nat) (e : RingEntry) : State :=
  let words := bits (nthWord e.ws 2) 35 0
  let off := bits (nthWord e.ws 4) 35 0
  let h := nthWord e.ws 3
  if s.requestOk n h off words then
    if s.holdFull (bits h 71 36) then s else
    let l := s.loads (bits h 71 36 + off) words
    (s.onM (fun m => m.sends (hostRuns (bits (nthWord e.ws 1) 63 0) l))).transfer n e h words
  else s.deliver n { e with status := 8, handle := h, checked := true }

/-! ### The admin ring -/

/-- The admin entry being served. -/
def Dev.adminEntry (m : Dev) (op : Nat) : Option RingEntry :=
  match m.ringEntries 512 with
  | e :: _ => if m.ringDma && bits (nthWord e.ws 0) 63 56 == op then some e else none
  | [] => none

/-- ADMIN_CHAN_CMD (R510): once CMD_BUSY is 0 the entry is applied as a write of CHAN_CMD by the host; it completes when
its command ends. -/
def State.adminCmd (s : State) (e : RingEntry) : State :=
  let w1 := nthWord e.ws 1
  let n := bits w1 67 59
  if e.checked || s.m.on (CHAN_STATUS_CMD_BUSY n) then s
  else (s.onM (fun m => m.setFront 512 { e with checked := true })).chanCmd 0 n (bits w1 71 68) (bits (nthWord e.ws 2) 35 0)

/-! ### Meanings -/

/-- BAR4_READ (R497). -/
def execBar4Read (off size : Nat) (s : State) : Host.Outcome State Fault Refusal := .next (s.bar4Read (off % 2 ^ 32) size)

/-- BAR4_WRITE (R497). -/
def execBar4Write (off size : Nat) (data : BitVec 64) (s : State) : Host.Outcome State Fault Refusal :=
  .next (s.bar4Write (off % 2 ^ 32) size data)

/-- HOST_ABI_WRITE (R499). -/
def execHostAbiWrite (mst : Nat) (v : Word) (s : State) : Host.Outcome State Fault Refusal :=
  .next (s.onM (fun m => m.ifWrite mst HOST_ABI_addr (fun m => m.hostAbi v)))

/-- RING_ENABLE (R525): a write of SQ_CTRL or CQ_CTRL. -/
def execRingEnable (mst ring : Nat) (cq : Bool) (v : Word) (s : State) : Host.Outcome State Fault Refusal :=
  let r := ring % 513
  .next (s.ifWrite mst (ringSet r + (if cq then 4 else 1)) (fun s => if cq then s.onM (fun m => m.cqCtrl r v) else s.sqCtrl r v))

/-- SQ_DOORBELL (R496, R506). -/
def execSqDoorbell (n size : Nat) (data : BitVec 64) (s : State) : Host.Outcome State Fault Refusal :=
  let r := n % 512
  .next (s.onM (fun m => m.doorbell (rSqEnable r) (rSqSize r) (8 * r) size data (fun m v => m.sqRing r v)))

/-- CQ_DOORBELL (R496, R509). -/
def execCqDoorbell (n size : Nat) (data : BitVec 64) (s : State) : Host.Outcome State Fault Refusal :=
  let r := n % 512
  .next (s.onM (fun m => m.doorbell (rCqEnable r) (rCqSize r) (0x1000 + 8 * r) size data (fun m v => m.p (rCqHead r) v)))

/-- ADMIN_SQ_DOORBELL (R496, R510). -/
def execAdminSqDoorbell (size : Nat) (data : BitVec 64) (s : State) : Host.Outcome State Fault Refusal :=
  .next (s.onM (fun m => m.doorbell (rSqEnable 512) (rSqSize 512) 0x2000 size data (fun m v => m.sqRing 512 v)))

/-- ADMIN_CQ_DOORBELL (R496, R509): freed entries let a paused admin fetch go on (R510). -/
def execAdminCqDoorbell (size : Nat) (data : BitVec 64) (s : State) : Host.Outcome State Fault Refusal :=
  .next (s.onM (fun m =>
    m.doorbell (rCqEnable 512) (rCqSize 512) 0x2008 size data (fun m v => (m.p (rCqHead 512) v).sqAsk 512)))

/-- SQ_ENTRY_FETCH (R505, R506, R511). -/
def execSqEntryFetch (ring : Nat) (ws : List Word) (mark : BitVec 8) (s : State) : Host.Outcome State Fault Refusal :=
  .next (s.onM (fun m => m.sqFetched (ring % 513) ws mark.toNat))

/-- MESSAGE (R504, R505). -/
def execMessage (n : Nat) (s : State) : Host.Outcome State Fault Refusal :=
  .next (match s.m.frontEntry n [1] with
    | some e => s.deliver n e
    | none => s)

/-- DATA_IN (R504, R507). -/
def execDataIn (n : Nat) (data : List Word) (s : State) : Host.Outcome State Fault Refusal :=
  .next (match s.m.frontEntry n [2] with
    | some e => if e.checked then s else s.dataIn n e data
    | none => s)

/-- DATA_OUT (R504, R507). -/
def execDataOut (n : Nat) (s : State) : Host.Outcome State Fault Refusal :=
  .next (match s.m.frontEntry n [3] with
    | some e => if e.checked then s else s.dataOut n e
    | none => s)

/-- DATA_TRANSFER_DONE (R505): the hold ends, and the entry is delivered. -/
def execDataTransferDone (n : Nat) (s : State) : Host.Outcome State Fault Refusal :=
  .next (match s.m.frontEntry n [2, 3] with
    | some e => if e.checked then (s.unhold (bits e.handle 71 36)).deliver n e else s
    | none => s)

/-- ADMIN_NOP (R510). -/
def execAdminNop (s : State) : Host.Outcome State Fault Refusal :=
  .next (match s.m.adminEntry 0 with
    | some _ => s.onM (fun m => (m.adminEnd 0).sqAsk 512)
    | none => s)

/-- ADMIN_CHAN_CMD (R510). -/
def execAdminChanCmd (s : State) : Host.Outcome State Fault Refusal :=
  .next (match s.m.adminEntry 1 with
    | some e => s.adminCmd e
    | none => s)

/-- MSIX_ENABLE (R545). -/
def execMsixEnable (enable maskAll : Bool) (s : State) : Host.Outcome State Fault Refusal :=
  .next (s.onM (fun m => m.msixCtrl enable maskAll))

/-- MSIX_UNMASK (R545): a write of a vector table entry. -/
def execMsixUnmask (vec : Nat) (entry : BitVec 128) (s : State) : Host.Outcome State Fault Refusal :=
  .next (s.onM (fun m => if m.d3hot then m.send (.unsupported (0x8000 + 16 * (vec % 2048))) else m.msixEntry (vec % 2048) entry.toNat))

/-- D3HOT (R493): a Power Management write moves the endpoint into or out of D3hot. -/
def execD3hot (enter : Bool) (s : State) : Host.Outcome State Fault Refusal :=
  .next (s.onM (fun m => { m with d3hot := enter }))

/-- HOST_RETIRE, gate 12 (R507): HEAD advances by the count in W2. -/
def execHostRetire (t : Nat) (s : State) : Host.Outcome State Fault Refusal :=
  .next (if s.m.gateRuns t then
    s.onM (fun m =>
      let n := (m.gateIn t 2).toNat
      if 512 ≤ t ∨ m.unretired t < n then m.gateRet t 8 0
      else
        let m := { m with sqUnretired := tmod (fun _ => 0) m.sqUnretired t (· - n) }.p (rSqHead t)
          ((m.g (rSqHead t) + n) % 2 ^ m.g (rSqSize t))
        (m.gateRet t 0 0).sqAsk t)
  else s)

/-- HOST_COMPLETE, gate 13 (R508, R509). -/
def execHostComplete (t : Nat) (s : State) : Host.Outcome State Fault Refusal :=
  .next (if s.m.gateRuns t then
    let a := (s.m.gateIn t 2).toNat
    let pend := bits (s.m.gateIn t 3) 0 0 == 1
    if decide (512 ≤ t) || !s.m.on (rCqEnable t) || !s.owns t a 6 || s.anyPoison a 6 then s.onM (fun m => m.gateRet t 8 0)
    else if s.m.cqFree t < 3 then s.onM (fun m => m.gateRet t 5 0)
    else
      let b := s.drams a 6
      s.onM (fun m =>
        let m := m.cqWrite t 1 (bits (nthWord b 0) 31 0) 0 (b.drop 1)
        (if pend then m.chanPend t 2 else m).gateRet t 0 0)
  else s)

end Sys2Proof.Machine
end

