-- ==== Sys2Proof/Machine/Dma.lean ====
section
/-!
DEFINITION. Machine/Dma.lean: the DMA engine (R513–R519): descriptors and their checks, the words a descriptor moves, bus
errors, service mode and the host port reset. Channels 0 and 1 serve the rings and take no descriptor.
-/

namespace Sys2Proof.Machine

/-! ### Descriptors -/

/-- A descriptor (R513). -/
structure Desc where
  two : Bool
  toHost : Bool
  vault : Bool
  irq : Bool
  last : Bool
  hostPitch : Nat
  words : Nat
  host : Nat
  dev : Nat
  rows : Nat
  next : Nat
  devPitch : Nat
  deriving DecidableEq, Repr

/-- The four words of a descriptor as its fields (R513). -/
def descOf (ws : List Word) : Desc :=
  let w0 := nthWord ws 0
  let w2 := nthWord ws 2
  let w3 := nthWord ws 3
  ⟨bits w0 63 62 == 1, bits w0 61 61 == 1, bits w0 60 60 == 1, bits w0 59 59 == 1, bits w0 58 58 == 1, bits w0 57 36,
    bits w0 35 0, bits (nthWord ws 1) 63 0, bits w2 71 36, bits w2 35 20, bits w3 71 36, bits w3 35 12⟩

/-- The entries of an index table: device address and count (R514). -/
def State.indexOf (s : State) (d : Desc) : List (Nat × Nat) :=
  (List.range d.rows).map (fun e =>
    let w := s.dram (d.dev + e)
    (if d.vault then bits w 58 36 else bits w 71 36, bits w 35 0))

/-- The device ranges a descriptor covers, in order. -/
def State.descRanges (s : State) (d : Desc) : List (Nat × Nat) :=
  if d.two then (List.range d.rows).map (fun r => (d.dev + r * d.devPitch, d.words)) else s.indexOf d

/-- The words a descriptor moves: device address and host byte address, in ascending order (R514). -/
def State.descWords (s : State) (d : Desc) : List (Nat × Nat) :=
  if d.two then
    (List.range d.rows).flatMap (fun r =>
      (List.range d.words).map (fun i => (d.dev + r * d.devPitch + i, d.host + r * d.hostPitch + 9 * i)))
  else
    let l := (s.indexOf d).flatMap (fun e => (List.range e.2).map (fun i => e.1 + i))
    l.zip ((List.range l.length).map (fun i => d.host + 9 * i))

/-- The host byte past the last one of a descriptor. -/
def Desc.hostEnd (d : Desc) : Nat :=
  if d.two then d.host + (d.rows - 1) * d.hostPitch + 9 * d.words else d.host + 9 * d.words

/-- The reason a descriptor fails before it moves data (R515); 0 for none. One that lies past the installed words fails
with RANGE, and one with a poisoned word with FORMAT (log entry 20). -/
def State.descReason (s : State) (a : Nat) : Nat :=
  let ws := s.drams a 4
  let w0 := nthWord ws 0
  let d := descOf ws
  if s.m.capacity < a + 4 then 4
  else if bits w0 71 64 ≠ 1 ∨ 2 ≤ bits w0 63 62 ∨ bits (nthWord ws 1) 71 64 ≠ 0 ∨ bits (nthWord ws 2) 19 0 ≠ 0 ∨
      bits (nthWord ws 3) 11 0 ≠ 0 ∨ (d.two = false ∧ (d.hostPitch ≠ 0 ∨ d.devPitch ≠ 0)) ∨ 2 ^ 64 < d.hostEnd ∨
      s.anyPoison a 4 = true then 1
  else if d.two ∧ s.m.on DMA_GLOBAL_SERVICE = false then 2
  else if d.words = 0 ∨ d.rows = 0 then 3
  else if d.two = false ∧ s.m.capacity < d.dev + d.rows then 4
  else if d.two = false ∧ s.anyPoison d.dev d.rows = true then 1
  else if d.two = false ∧ ((s.indexOf d).map (·.2)).sum ≠ d.words then 3
  else if (s.descRanges d).any (fun r => decide ((if d.vault then 192 * 32768 else s.m.capacity) < r.1 + r.2)) then 4
  else 0

/-! ### The state of a channel -/

/-- A channel stops with an error (R515). -/
def Dev.dmaError (m : Dev) (k r : Nat) : Dev :=
  ((m.p (DMA_STATUS_STATE k) 3).p (DMA_STATUS_DESC_ERR k) r).event 37 2

/-- A channel takes a descriptor (R515): it becomes CURRENT, and is checked before it moves data. -/
def State.dmaTake (s : State) (k a : Nat) : State :=
  let s := s.onM (fun m => (m.wr (DMA_PROGRESS_addr k) 0).p (DMA_PROGRESS_CURRENT k) a)
  let r := s.descReason a
  if r = 0 then s else s.onM (fun m => m.dmaError k r)

/-- START (R515): while STATE is IDLE, DONE or ABORTED. -/
def State.dmaStart (s : State) (k : Nat) : State :=
  let st := s.m.g (DMA_STATUS_STATE k)
  if s.m.coreUp ∧ 2 ≤ k ∧ k < 32 ∧ (st = 0 ∨ st = 2 ∨ st = 5) then
    (s.onM (fun m => (m.wr (DMA_STATUS_addr k) 0).p (DMA_STATUS_STATE k) 1)).dmaTake k (s.m.g (DMA_CTRL_DESC k))
  else s

/-- The descriptor a channel works on. -/
def State.dmaDesc (s : State) (k : Nat) : Desc := descOf (s.drams (s.m.g (DMA_PROGRESS_CURRENT k)) 4)

/-- One word from the host to the device, and whether it was written (R451, R515). -/
def State.dmaPut (s : State) (d : Desc) (a : Nat) (v : Word) (bad : Bool) : State × Bool :=
  if d.vault then (if s.m.bankOpen (a / 32768) 0x700 then (s.vaultStore a v bad, true) else (s, false))
  else (s.store .device a v bad, true)

/-- Words from the host to the device, until a bank is denied: the state, how many were written, and whether one was
denied. -/
def State.dmaPuts (s : State) (d : Desc) (bad : Bool) : List (Nat × Word) → State × Nat × Bool
  | [] => (s, 0, false)
  | (a, v) :: r =>
    match s.dmaPut d a v bad with
    | (s, true) => let x := s.dmaPuts d bad r; (x.1, x.2.1 + 1, x.2.2)
    | (s, false) => (s, 0, true)

/-- The words that a channel sends to the host, up to a denied bank (5) or a poisoned word, which is sent poisoned and is
the last (6); 0 for all of them (R515). -/
def State.dmaReads (s : State) (d : Desc) : List (Nat × Nat) → List (Nat × Word × Bool) × Nat
  | [] => ([], 0)
  | (a, h) :: r =>
    if d.vault ∧ s.m.bankOpen (a / 32768) 0x700 = false then ([], 5)
    else
      let w := if d.vault then s.vaultRead a else (s.dram a, s.dramPoison a)
      if w.2 then ([(h, w.1, true)], 6)
      else let x := s.dmaReads d r; ((h, w.1, false) :: x.1, x.2)

/-- Send words to their host addresses. -/
def Dev.sendWords (m : Dev) (l : List (Nat × Word × Bool)) : Dev :=
  l.foldl (fun m e => m.send (.hostWrite e.1 [e.2.1] e.2.2)) m

/-- Move the words of CURRENT that are left, or the first `n` of them: the state with WORDS_DONE, and the error met. -/
def State.dmaMove (s : State) (k n : Nat) (data : List Word) : State × Nat :=
  let d := s.dmaDesc k
  let done := s.m.g (DMA_PROGRESS_WORDS_DONE k)
  let l := ((s.descWords d).drop done).take n
  if d.toHost then
    let x := s.dmaReads d l
    let sent := (x.1.filter (fun e => !e.2.2)).length
    let s := if d.vault then (l.take x.1.length).foldl (fun s e => s.vaultCheck e.1) s else s
    (s.onM (fun m => (m.sendWords x.1).p (DMA_PROGRESS_WORDS_DONE k) (done + sent)), x.2)
  else
    let x := s.dmaPuts d false (l.zip data |>.map (fun e => (e.1.1, e.2)))
    (x.1.onM (fun m => m.p (DMA_PROGRESS_WORDS_DONE k) (done + x.2.1)), if x.2.2 then 5 else 0)

/-- A descriptor ends once every word of it is written (R515, R516): on to NEXT, or to DONE after LAST. Data from the host
that does not fill the descriptor does not end it. -/
def State.dmaEnd (s : State) (k : Nat) (data : List Word) : State :=
  if s.m.coreUp ∧ 2 ≤ k ∧ k < 32 ∧ s.m.g (DMA_STATUS_STATE k) = 1 then
    let d := s.dmaDesc k
    let left := (s.descWords d).length - s.m.g (DMA_PROGRESS_WORDS_DONE k)
    if d.toHost = false ∧ data.length < left then s
    else
      let r := s.dmaMove k left data
      if r.2 ≠ 0 then r.1.onM (fun m => m.dmaError k r.2)
      else
        let s := r.1.onM (fun m =>
          let m := m.incW (DMA_STATUS_DESCS_DONE k)
          if d.irq then m.event 43 k else m)
        if d.last then s.onM (fun m => m.p (DMA_STATUS_STATE k) 2) else s.dmaTake k d.next
  else s

/-- ABORT (R519): a channel that is RUNNING ends inside its burst, of which `arrived` words came and `missing` did not. -/
def State.dmaAbort (s : State) (k : Nat) (arrived : List Word) (missing : Nat) : State :=
  if 2 ≤ k ∧ k < 32 ∧ s.m.g (DMA_STATUS_STATE k) = 1 then
    let d := s.dmaDesc k
    let s := (s.dmaMove k arrived.length arrived).1
    let l := ((s.descWords d).drop (s.m.g (DMA_PROGRESS_WORDS_DONE k))).take missing
    let s := if d.toHost then s.onM (fun m => m.sends (l.map (fun e => .hostWrite e.2 [0] true)))
      else (s.dmaPuts d true (l.map (fun e => (e.1, 0)))).1
    s.onM (fun m => m.p (DMA_STATUS_STATE k) 5)
  else s

/-- RESUME (R517): a STOPPED channel goes on from WORDS_DONE. -/
def Dev.dmaResume (m : Dev) (k : Nat) : Dev :=
  if 2 ≤ k ∧ k < 32 ∧ m.g (DMA_STATUS_STATE k) = 4 then m.p (DMA_STATUS_STATE k) 1 else m

/-- A write of DMA_CTRL (R515, R517, R519): ignored for channels 0 and 1; DESC only while not RUNNING or STOPPED. -/
def State.dmaCtrl (s : State) (k : Nat) (v : Word) : State :=
  if k < 2 ∨ 32 ≤ k then s else
  let st := s.m.g (DMA_STATUS_STATE k)
  let s := s.onM (fun m => (if st = 1 ∨ st = 4 then m else m.p (DMA_CTRL_DESC k) (bits v 71 36)).p (DMA_CTRL_PRIO k) (bits v 32 32))
  let s := if bits v 34 34 = 1 then s.dmaAbort k [] 0 else s
  let s := if bits v 35 35 = 1 then s.dmaStart k else s
  if bits v 33 33 = 1 then s.onM (fun m => m.dmaResume k) else s

/-! ### Bus errors, service mode -/

/-- The progress that a channel's burst made before a bus error (R517, R518): the words that arrived whole. -/
def State.busStop (s : State) (arrived : List (Nat × List Word)) (k : Nat) : State :=
  if 2 ≤ k ∧ s.m.g (DMA_STATUS_STATE k) = 1 then
    let data := match arrived.find? (fun e => e.1 == k) with | some e => e.2 | none => []
    (s.dmaMove k data.length data).1.onM (fun m => m.p (DMA_STATUS_STATE k) 4)
  else s

/-- A bus error (R517): every channel in progress stops, the ring channels included. -/
def State.busError (s : State) (reason : Nat) (arrived : List (Nat × List Word)) : State :=
  let s := (List.range 32).foldl (fun s k => s.busStop arrived k) s
  s.onM (fun m => (((m.p DMA_GLOBAL_BUS_ERROR 1).p DMA_GLOBAL_BUS_REASON reason).event 37 3).send (.aer 2 0))

/-- CLEAR (R517): the ring channels continue, and the completions held back are written. -/
def Dev.dmaClear (m : Dev) : Dev :=
  if m.on DMA_GLOBAL_BUS_ERROR then
    let held := m.cqHeld.reverse
    let m := { (m.p DMA_GLOBAL_BUS_ERROR 0).p DMA_GLOBAL_BUS_REASON 0 with cqHeld := [] }.sends held
    m.each 513 (fun r m => if m.on (rSqEnable r) then m.sqAsk r else m)
  else m

/-- A write of SERVICE (R514): 1 only while every channel is EMPTY. -/
def Dev.serviceWrite (m : Dev) (b : Nat) : Dev :=
  if b = 1 ∧ (List.range 512).any (fun n => (m.th n).st != .empty) = true then m else m.p DMA_GLOBAL_SERVICE b

/-- A write of DMA_GLOBAL (R514, R517). -/
def Dev.dmaGlobal (m : Dev) (v : Word) : Dev :=
  let m := (m.serviceWrite (bits v 71 71)).p DMA_GLOBAL_BURST (bits v 64 62)
  if bits v 65 65 = 1 then m.dmaClear else m

/-! ### Host port reset -/

/-- Every ring is disabled (R518). -/
def State.ringsOff (s : State) : State :=
  (List.range 513).foldl (fun s r =>
    let s := if s.m.on (rSqEnable r) then s.sqStop r else s
    if s.m.on (rCqEnable r) then s.onM (fun m => m.p (rCqEnable r) 0) else s) s

/-- The host port's own state returns to its reset values (R495, R499, R518). -/
def Dev.portFresh (m : Dev) : Dev :=
  { m.wr HOST_ABI_addr 0 with bar0Stage := none, bar0Latch := none, bar4Stage := none, bar4Latch := none, msixOn := false, msixMaskAll := false, msixTbl := [], pba := [], d3hot := false }

/-- Does a channel send to the host at present? -/
def State.dmaSending (s : State) : Bool :=
  (List.range 32).any (fun k => decide (2 ≤ k) && s.m.g (DMA_STATUS_STATE k) == 1 && (s.dmaDesc k).toHost)

/-- A host port reset (R518, R535): 0 a hot reset, 1 an FLR, 2 a link down, 3 PERST_N (R627); the link's speed and width
afterwards. -/
def State.hostReset (s : State) (kind speed width : Nat) : State :=
  let s := if s.dmaSending then s.busError 5 [] else s
  let s := s.ringsOff
  s.onM (fun m =>
    let m := m.portFresh.resetSidesOf 0
    let m := if kind = 0 then m.incW HOST_LINK_HOT_RESETS else if kind = 1 then m.incW HOST_LINK_FLRS
      else if kind = 2 then m.incW HOST_LINK_LINK_DOWNS else m
    ((m.p HOST_LINK_SPEED speed).p HOST_LINK_WIDTH width).event 37 0)

/-! ### Meanings -/

/-- DMA_START (R515): a write of DMA_CTRL with START, or the start doorbell of BAR2. -/
def execDmaStart (mst k : Nat) (v : Option Word) (s : State) : Host.Outcome State Fault Refusal :=
  .next (match v with
    | some w => s.ifWrite mst (DMA_CTRL_addr (k % 32)) (fun s => s.dmaCtrl (k % 32) w)
    | none =>
      if s.m.d3hot then s.onM (fun m => m.send (.unsupported (0x2000 + 8 * (k % 32))))
      else if s.m.halted then s else s.dmaStart (k % 32))

/-- DMA_DESCRIPTOR_DONE (R516). -/
def execDmaDescriptorDone (k : Nat) (data : List Word) (s : State) : Host.Outcome State Fault Refusal :=
  .next (s.dmaEnd k data)

/-- DMA_ABORT (R519). -/
def execDmaAbort (mst k : Nat) (arrived : List Word) (missing : Nat) (s : State) : Host.Outcome State Fault Refusal :=
  .next (s.ifWrite mst (DMA_CTRL_addr (k % 32)) (fun s => s.dmaAbort (k % 32) arrived missing))

/-- DMA_RESUME (R517). -/
def execDmaResume (mst k : Nat) (s : State) : Host.Outcome State Fault Refusal :=
  .next (s.onM (fun m => m.ifWrite mst (DMA_CTRL_addr (k % 32)) (fun m => m.dmaResume (k % 32))))

/-- DMA_CLEAR (R517). -/
def execDmaClear (mst : Nat) (s : State) : Host.Outcome State Fault Refusal :=
  .next (s.onM (fun m => m.ifWrite mst DMA_GLOBAL_addr Dev.dmaClear))

/-- BUS_ERROR (R517). -/
def execBusError (reason : Nat) (arrived : List (Nat × List Word)) (s : State) : Host.Outcome State Fault Refusal :=
  .next (if s.m.coreUp then s.busError reason arrived else s)

/-- SERVICE_WRITE (R514): a write of DMA_GLOBAL. -/
def execServiceWrite (mst : Nat) (v : Word) (s : State) : Host.Outcome State Fault Refusal :=
  .next (s.onM (fun m => m.ifWrite mst DMA_GLOBAL_addr (fun m => m.dmaGlobal v)))

/-- HOST_PORT_RESET (R518). -/
def execHostPortReset (kind speed width : Nat) (s : State) : Host.Outcome State Fault Refusal :=
  .next (s.hostReset (kind % 3) speed width)

end Sys2Proof.Machine
end

