-- ==== Sys2Proof/Machine/Drives.lean ====
section
/-!
DEFINITION. Machine/Drives.lean: the content store (R520–R524): the byte space of the drives, the states of a drive, and
the content engine that serves queue 38h.
-/

namespace Sys2Proof.Machine

/-! ### The byte space (R520) -/

/-- The byte of device DRAM at a byte address. -/
def State.byteAt (s : State) (b : Nat) : BitVec 8 := BitVec.ofNat 8 ((s.dram (b / 9)).toNat / 2 ^ (8 * (b % 9)))

/-- Bytes from a byte address on. -/
def State.bytesAt (s : State) (b n : Nat) : List (BitVec 8) := (List.range n).map (fun i => s.byteAt (b + i))

/-- A word with some of its bytes replaced, from byte o on. -/
def mergeBytes (w : Word) (o : Nat) : List (BitVec 8) → Word
  | [] => w
  | x :: r => if o < 9 then mergeBytes (putBits w (8 * o + 7) (8 * o) x.toNat) (o + 1) r else w

/-- Write bytes, a word at a time. A poisoned word that is written in part keeps its mark. -/
def State.putBytes (s : State) (fuel b : Nat) (bs : List (BitVec 8)) : State :=
  match fuel with
  | 0 => s
  | n + 1 =>
    match bs with
    | [] => s
    | _ =>
      let o := b % 9
      let k := min (9 - o) bs.length
      let s := s.store .device (b / 9) (mergeBytes (s.dram (b / 9)) o (bs.take k)) (k != 9 && s.dramPoison (b / 9))
      s.putBytes n (b + k) (bs.drop k)

/-! ### The content engine -/

/-- The block size of a drive in bytes (R520). -/
def Dev.blockSize (m : Dev) (d : Nat) : Nat := if m.on (CS_DRIVE_BLOCK_4K d) then 4096 else 512

/-- The fields of a CONTENT block (R522). -/
structure Content where
  op : Nat
  d : Nat
  blocks : Nat
  fua : Bool
  lba : Nat
  handle : Word
  off : Nat
  deriving DecidableEq, Repr

/-- A CONTENT block's words as its fields (R522). -/
def contentOf (ws : List Word) : Content :=
  let w0 := nthWord ws 0
  ⟨bits w0 63 60, bits w0 59 58, bits w0 57 42, bits w0 41 41 == 1, bits (nthWord ws 1) 71 8, nthWord ws 2,
    bits (nthWord ws 3) 35 0⟩

/-- The byte address of a command's block (R520, R523). -/
def Dev.contentByte (m : Dev) (c : Content) (block : Nat) : Nat :=
  9 * bits c.handle 71 36 + c.off + block * m.blockSize c.d

/-- The check of a block's own fields (R522): FORMAT, OP, the zero fields, and a count of at least one block. -/
def contentParam (ws : List Word) : Bool :=
  let c := contentOf ws
  let w0 := nthWord ws 0
  bits w0 71 64 == 1 && decide (1 ≤ c.op) && decide (c.op ≤ 3) && bits w0 40 0 == 0 && bits (nthWord ws 1) 7 0 == 0 &&
    bits (nthWord ws 3) 71 36 == 0 &&
    (if c.op = 3 then c.blocks == 0 && c.lba == 0 && c.handle.toNat == 0 else c.blocks != 0)

/-- RESULT of a CONTENT completion (R523). -/
def contentResult (done err sct sc : Nat) : Nat := at_ 55 40 done + at_ 39 32 err + at_ 28 26 sct + at_ 25 18 sc

/-- The first failing check at a command's start (R522): STATUS and RESULT. -/
def State.contentCheck (s : State) (e : QEntry) : Option (Nat × Nat) :=
  let c := contentOf e.block
  if !contentParam e.block then some (1, contentResult 0 0x25 0 0)
  else if c.op ≠ 3 ∧ ((s.putCheck c.handle (gateOwner e.t) none).1 ≠ 0 ∨
      9 * s.m.poolSize (bits c.handle 35 32) < c.off + c.blocks * s.m.blockSize c.d) then some (4, 0)
  else if s.m.g (CS_DRIVE_STATE c.d) ≠ 3 then some (1, contentResult 0 0x2A 0 0)
  else if c.op ≠ 3 ∧ s.m.g (CS_CAPACITY_BLOCKS c.d) < c.lba + c.blocks then some (1, contentResult 0 0x29 0 0)
  else none

/-- A command of the content engine ends: counted on its drive, its ticket completed (R141, R523). -/
def Dev.contentCount (m : Dev) (c : Content) (result : Nat) : Dev :=
  if result / 2 ^ 32 % 256 ≠ 0 then m.incW (CS_COUNTS_ERRORS c.d)
  else if c.op = 1 then m.incW (CS_COUNTS_READS c.d) else if c.op = 2 then m.incW (CS_COUNTS_WRITES c.d) else m

/-- A started command ends (R523, R524): the slot is free, its hold ends, its ticket completes; one that is abandoned
completes CANCELLED with the blocks done. -/
def State.contentEnd (s : State) (key : Nat) (r : Run) (status result : Nat) : State :=
  let c := contentOf r.e.block
  let cancelled := r.abandon
  let s := s.onM (fun m => m.setRun key none)
  let s := if c.op = 3 then s else s.unhold (bits c.handle 71 36)
  let s := s.onM (fun m => if cancelled then m.complete r.e 2 0 (contentResult r.rows 0 0 0)
    else (m.contentCount c result).complete r.e status 0 result)
  s.killPoll r.e.t

/-- The blocks of the next NVMe command of a started command (R523). -/
def Dev.contentNext (m : Dev) (c : Content) (done : Nat) : Nat :=
  let most := tget (fun _ => 0) m.driveMdts c.d
  if most = 0 then c.blocks - done else min most (c.blocks - done)

/-- The NVMe opcode of an operation; 11h is a WRITE with FUA. -/
def nvmeOp (c : Content) : Nat := if c.op = 1 then 2 else if c.op = 2 then (if c.fua then 0x11 else 1) else 0

/-- Issue the next NVMe command of a started command (R523). A WRITE whose words are poisoned ends instead (R523). -/
def State.contentIssue (s : State) (key : Nat) (r : Run) : State :=
  let c := contentOf r.e.block
  let n := s.m.contentNext c r.rows
  let b := s.m.contentByte c r.rows
  let bytes := n * s.m.blockSize c.d
  if c.op = 2 ∧ s.anyPoison (b / 9) ((b + bytes - 1) / 9 + 1 - b / 9) = true then
    s.contentEnd key r 3 (contentResult r.rows 0 0 0)
  else s.onM (fun m =>
    let m := (m.setRun key (some { r with n1 := n })).send (.drive c.d (nvmeOp c) (c.lba + r.rows) n)
    if c.op = 2 then m.send (.driveData c.d b (s.bytesAt b bytes)) else m)

/-- The content engine starts a command in a slot of its drive (R522, R523). -/
def State.contentStart (s : State) (key : Nat) (e : QEntry) : State :=
  let c := contentOf e.block
  match s.contentCheck e with
  | some (st, res) =>
    (s.onM (fun m => (m.onlyIf (st = 1) (fun m => m.incW (CS_COUNTS_ERRORS c.d))).complete e st 0 res)).killPoll e.t
  | none =>
    let s := if c.op = 3 then s else s.hold (bits c.handle 71 36)
    s.contentIssue key { e := e, queue := 0x38 }

/-- Bytes moved are counted in units of 1,024 (CS_BYTES). -/
def Dev.csCount (m : Dev) (d : Nat) (write : Bool) (n : Nat) : Dev :=
  let k := 2 * d + (if write then 1 else 0)
  let t := tget (fun _ => 0) m.csBytes k + n
  { m with csBytes := tput (fun _ => 0) m.csBytes k t }.p (if write then CS_BYTES_KBYTES_WRITTEN d else CS_BYTES_KBYTES_READ d) (t / 1024)

/-- The bytes of a failed READ's command hold old or new data, and which is undefined (R523): a free choice for each. -/
def freeBytes (ctr : Nat) : List (BitVec 8) → List (BitVec 8) → List (BitVec 8)
  | o :: os, n :: ns => (if (Config.freeValue ctr).toNat % 2 = 1 then n else o) :: freeBytes (ctr + 1) os ns
  | _, _ => []

/-- An NVMe command of a started CONTENT command completes (R523). -/
def State.nvmeDone (s : State) (key : Nat) (r : Run) (sct sc : Nat) (data : List (BitVec 8)) : State :=
  let c := contentOf r.e.block
  let bs := s.m.blockSize c.d
  let b := s.m.contentByte c r.rows
  let n := r.n1 * bs
  if sct = 0 ∧ sc = 0 then
    if c.op = 1 ∧ data.length ≠ n then s
    else
      let s := if c.op = 1 then s.putBytes (n + 1) b data else s
      let s := s.onM (fun m => if c.op = 3 then m else m.csCount c.d (c.op == 2) n)
      let r := { r with rows := r.rows + r.n1, n1 := 0 }
      if r.abandon || c.op == 3 || decide (c.blocks ≤ r.rows) then s.contentEnd key r 0 (contentResult r.rows 0 0 0)
      else s.contentIssue key r
  else
    let s := if c.op = 1 then
      let d := data.take n
      (s.putBytes (n + 1) b (freeBytes s.m.freeCtr (s.bytesAt b d.length) d)).onM
        (fun m => { m with freeCtr := m.freeCtr + d.length })
      else s
    s.contentEnd key { r with n1 := 0 } 1 (contentResult r.rows 0x2C sct sc)

/-! ### Drive states (R521) -/

/-- The started commands of a drive, with their keys. -/
def Dev.driveRuns (m : Dev) (d : Nat) : List (Nat × Run) :=
  m.running.filterMap (fun e => if 384 + 256 * d ≤ e.1 ∧ e.1 < 384 + 256 * (d + 1) then e.2.map (fun r => (e.1, r)) else none)

/-- Every issued command of a drive ends with an error kind (R521). -/
def State.driveFail (s : State) (d err : Nat) : State :=
  (s.m.driveRuns d).foldl (fun s e => s.contentEnd e.1 e.2 1 (contentResult e.2.rows err 0 0)) s

/-- Queued work of a drive ends with DRIVE_DOWN (R521). -/
def State.driveDrop (s : State) (d : Nat) : State :=
  let mine := fun (e : QEntry) => (contentOf e.block).d == d
  let gone := (s.m.queue 0x38).filter mine
  let s := s.onM (fun m => m.setQueue 0x38 ((m.queue 0x38).filter (fun e => !mine e)))
  gone.foldl (fun s e => (s.onM (fun m => (m.incW (CS_COUNTS_ERRORS d)).complete e 1 0 (contentResult 0 0x2A 0 0))).killPoll e.t) s

/-- A drive enters a state with a reason (R521). -/
def Dev.driveState (m : Dev) (d st reason : Nat) : Dev := (m.p (CS_DRIVE_STATE d) st).p (CS_DRIVE_REASON d) reason

/-- The link of a drive is down. -/
def Dev.driveUnlink (m : Dev) (d : Nat) : Dev := (m.p (CS_DRIVE_SPEED d) 0).p (CS_DRIVE_WIDTH d) 0

/-- ENABLE of a drive port set or cleared (R521). -/
def State.driveEnable (s : State) (d : Nat) (b : Bool) : State :=
  let was := Nat.testBit (s.m.g CS_CTRL_ENABLE) d
  if was = b then s
  else if b then
    s.onM (fun m => ((m.p CS_CTRL_ENABLE (m.g CS_CTRL_ENABLE ||| 2 ^ d)).driveState d 1 0).send (.drivePerst d true))
  else
    let s := (s.driveFail d 0x2A).driveDrop d
    s.onM (fun m => (((m.p CS_CTRL_ENABLE (Nat.xor (m.g CS_CTRL_ENABLE) (2 ^ d))).driveState d 0 0).driveUnlink d).send (.drivePerst d false))

/-- A write of CS_CTRL (R521). -/
def State.csCtrl (s : State) (v : Word) : State :=
  let s := s.onM (fun m => m.p CS_CTRL_MAX_SPEED (bits v 67 65))
  (List.range 4).foldl (fun s d => s.driveEnable d (bits v (68 + d) (68 + d) == 1)) s

/-- The highest link speed of the root port (CS_CTRL.MAX_SPEED). -/
def Dev.driveMaxSpeed (m : Dev) : Nat := let v := m.g CS_CTRL_MAX_SPEED; if v = 0 ∨ 5 < v then 5 else v

/-- The bytes of capacity in use on the drives other than d (R520). -/
def Dev.capacityInUse (m : Dev) (d : Nat) : Nat :=
  (((List.range 4).filter (fun k => k != d && m.g (CS_DRIVE_STATE k) == 3)).map
    (fun k => m.g (CS_CAPACITY_BLOCKS k) * m.blockSize k)).sum

/-- Identify ends (R520, R521): `reason` is the first check of R520 on the drive itself that fails, 0 for none; the total
capacity is checked here. -/
def Dev.driveInit (m : Dev) (d reason blocks maxXfer : Nat) (is4k : Bool) : Dev :=
  let m := (m.pb (CS_DRIVE_BLOCK_4K d) is4k).p (CS_CAPACITY_BLOCKS d) blocks
  let m := { m with driveMdts := tput (fun _ => 0) m.driveMdts d maxXfer }
  if reason ≠ 0 then m.driveState d 4 reason
  else if 64 * 2 ^ 40 < m.capacityInUse d + blocks * m.blockSize d then m.driveState d 4 4
  else m.driveState d 3 0

/-- A controller reset (R521): counted; the third within 60 s makes the drive FAILED. -/
def Dev.driveReset (m : Dev) (d : Nat) : Dev :=
  let l := m.now :: ((tget (fun _ => []) m.driveResets d).filter (fun t => decide (m.now < t + 60000000000)))
  let m := { m with driveResets := tput (fun _ => []) m.driveResets d l }.incW (CS_COUNTS_RESETS d)
  if 3 ≤ l.length then (m.driveState d 5 6).send (.drivePerst d false) else m.driveState d 2 0

/-- May drives act (R524, R614)? -/
def Dev.driveIn (m : Dev) (d : Nat) (states : List Nat) : Bool :=
  m.coreUp && decide (d < 4) && smem states (m.g (CS_DRIVE_STATE d))

/-! ### Meanings -/

/-- DRIVE_ENABLE (R521): a write of CS_CTRL that sets the drive's bit. -/
def execDriveEnable (mst d : Nat) (s : State) : Host.Outcome State Fault Refusal :=
  .next (s.ifWrite mst CS_CTRL_addr (fun s => s.driveEnable (d % 4) true))

/-- DRIVE_DISABLE (R521): a write of CS_CTRL that clears the drive's bit. -/
def execDriveDisable (mst d : Nat) (s : State) : Host.Outcome State Fault Refusal :=
  .next (s.ifWrite mst CS_CTRL_addr (fun s => s.driveEnable (d % 4) false))

/-- DRIVE_LINK_UP (R521). -/
def execDriveLinkUp (d speed width : Nat) (s : State) : Host.Outcome State Fault Refusal :=
  .next (if s.m.driveIn d [1] then s.onM (fun m =>
    ((m.driveState d 2 0).p (CS_DRIVE_SPEED d) (min speed m.driveMaxSpeed)).p (CS_DRIVE_WIDTH d) (min width 2)) else s)

/-- DRIVE_LINK_RETRY (R521): training starts again. -/
def execDriveLinkRetry (d : Nat) (s : State) : Host.Outcome State Fault Refusal :=
  .next (if s.m.driveIn d [1] then s.onM (fun m => m.send (.drive d 0xFF 0 0)) else s)

/-- DRIVE_INIT_DONE (R521). -/
def execDriveInitDone (d reason blocks maxXfer : Nat) (is4k : Bool) (s : State) : Host.Outcome State Fault Refusal :=
  .next (if s.m.driveIn d [2] then s.onM (fun m => m.driveInit d reason blocks maxXfer is4k) else s)

/-- DRIVE_INIT_TIMEOUT (R521). -/
def execDriveInitTimeout (d : Nat) (s : State) : Host.Outcome State Fault Refusal :=
  .next (if s.m.driveIn d [2] then s.onM (fun m => m.driveState d 5 5) else s)

/-- DRIVE_COMMAND_TIMEOUT (R521): an issued command has gone unanswered for 1 s. -/
def execDriveCommandTimeout (d : Nat) (s : State) : Host.Outcome State Fault Refusal :=
  .next (if s.m.driveIn d [3] && !(s.m.driveRuns d).isEmpty then (s.driveFail d 0x2B).onM (fun m => m.driveReset d) else s)

/-- DRIVE_LINK_DOWN (R521). -/
def execDriveLinkDown (d : Nat) (s : State) : Host.Outcome State Fault Refusal :=
  .next (if s.m.driveIn d [3] then (s.driveFail d 0x2A).onM (fun m => (m.driveState d 1 0).driveUnlink d) else s)

/-- NVME_COMPLETION (R523): the NVMe command of a slot of drive d completes. -/
def execNvmeCompletion (d slot sct sc : Nat) (data : List (BitVec 8)) (s : State) : Host.Outcome State Fault Refusal :=
  .next (if s.m.driveIn d [3] then
    let key := 384 + 256 * d + slot % 256
    match s.m.run key with
    | some r => s.nvmeDone key r (sct % 8) (sc % 256) data
    | none => s
  else s)

/-- DRIVE_MEMORY_ACCESS (R520): a read returns as many bytes as `bytes` has; a request outside DRAM is unsupported. -/
def execDriveMemoryAccess (d : Nat) (write : Bool) (addr : Nat) (bytes : List (BitVec 8)) (s : State) :
    Host.Outcome State Fault Refusal :=
  .next (if s.m.driveIn d [2, 3] then
    if 9 * s.m.capacity < addr + bytes.length then s.onM (fun m => m.send (.unsupported addr))
    else if write then s.putBytes (bytes.length + 1) addr bytes
    else s.onM (fun m => m.send (.driveData d addr (s.bytesAt addr bytes.length)))
  else s)

end Sys2Proof.Machine
end

