-- ==== Sys2Proof/Machine/Reset.lean ====
section
/-!
DEFINITION. Machine/Reset.lean: the resets of the device (R627–R631) and the boot chain (R619–R626): what each keeps, what
the chain does in its eight steps, and how it fails.
-/

namespace Sys2Proof.Machine

/-! ### What a reset keeps -/

/-- The registers of the battery domain (R616). -/
def batteryRegs : List Nat := [CAL_CTRL_addr, CALENDAR_STATUS_addr]

/-- The registers a warm reset keeps whole (R628). -/
def warmRegs : List Nat :=
  [FAB_IDENT_addr, TRIM_USER_addr, DOLRY_SPACE_addr, DEC_STAGE_CTRL_addr, JOURNAL_REGION_addr, PACE_WORK_addr, FAULT_COUNTS_addr]
    ++ (List.range 64).map DAYBOOK_TIME_addr ++ (List.range 64).map DAYBOOK_EVENT_addr
    ++ (List.range 8).map DRAM_CH_UE_A_addr ++ (List.range 8).map DRAM_CH_UE_B_addr

/-- The fields a warm reset keeps of registers that it resets otherwise (R628). -/
def warmFields : List RF :=
  [FAULT_STATUS_LAST_SEQ, GOV_CTRL_PACE_TARGET, GOV_CTRL_POWER_LIMIT, GOV_CTRL_VCORE_FIXED, HOST_LINK_HOT_RESETS,
    HOST_LINK_FLRS, HOST_LINK_LINK_DOWNS] ++ (List.range 16).map PACE_MON_MON_EXCLUDED

/-- SUPPLY_STATUS from the pins (R642). -/
def Pins.supplyWord (p : Pins) : Word := Word.of (at_ 71 66 p.rails + at_ 65 65 (if p.mgmtMode then 1 else 0))

/-- The registers after a reset that keeps some registers and fields of the old ones. -/
def keepRegs (old : Dev) (regs : List Nat) (fields : List RF) : Dev :=
  let m := regs.foldl (fun (m : Dev) a => m.wr a (old.rd a)) { regs := [] }
  (fields.foldl (fun m f => m.p f (old.g f)) m).wr SUPPLY_STATUS_addr old.pins.supplyWord

/-- The banks retired before a reset stay so, owned by 800h (R462, R628). -/
def keepRetired (old m : Dev) : Dev :=
  m.each 192 (fun b m => if old.on (VAULT_OWNER_RETIRED b) then (m.p (VAULT_OWNER_OWNER b) 0x800).p (VAULT_OWNER_RETIRED b) 1 else m)

/-- What every reset of the device leaves beside its registers: time, the outputs made, the pins, the battery domain's
count and the flash; everything else takes its reset value. -/
def Dev.afterReset (old m : Dev) (last : Nat) : Dev :=
  { regs := m.regs, now := old.now, freeCtr := old.freeCtr, out := old.out, pins := old.pins, journal := old.journal, calTicks := old.calTicks, calAt := old.calAt, bootLast := old.bootLast, lastReset := last }

/-- A cold reset (R627, R628): the whole device but the battery domain and the flash; vaults and DRAM lose their contents.
`last` is the cause that LAST_RESET will read. -/
def State.coldReset (s : State) (last : Nat) : State :=
  { s with mem := {}, m := (s.m.afterReset (keepRegs s.m batteryRegs []) last).p BOOT_STATUS_LAST_RESET last }

/-- Is a DRAM channel trained again by a warm reset, its contents undefined then (R476)? -/
def Dev.retrained (m : Dev) (c : Nat) : Bool :=
  let frozen := fun (k : Nat) => m.g (DRAM_CH_STATUS_STATE k) == 3
  let kind := fun (k : Nat) => bits (m.rd (DRAM_CH_UE_A_addr k)) 70 68
  frozen c || (List.range 8).any (fun k => frozen k && (kind k == 3 || kind k == 4))

/-- A warm reset (R628, R629): DRAM is kept but on channels trained again, vaults are cleared. A controller of a channel
that keeps its contents has performed its writes. -/
def State.warmReset (s : State) (last : Nat) : State :=
  let keep := fun (a : Nat) => !s.m.retrained (dramChannel a)
  let mem : Mem := { dram := s.mem.dram.filter (fun e => keep e.1), dramBad := s.mem.dramBad.filter (fun e => keep e.1) }
  let m := s.m.afterReset (keepRetired s.m (keepRegs s.m (batteryRegs ++ warmRegs) warmFields)) last
  { s with mem := mem, m := { m with faultSeq := s.m.faultSeq }.p BOOT_STATUS_LAST_RESET last }

/-! ### The boot chain (R623) -/

/-- The boot ends in BOOT_FAIL at a stage (R625). -/
def Dev.bootFail (m : Dev) (stage : Nat) : Dev :=
  let m := (m.p BOOT_STATUS_STAGE stage).p BOOT_STATUS_BOOT_FAIL 1
  (m.p POWER_STATUS_STATE 4).p FAULT_STATUS_FAULT_N_LOW 1

/-- The stage at which an image that fails with a result of R621 ends the boot. -/
def resultStage (r : Nat) : Nat := if r ≤ 4 then 2 else if r = 5 then 3 else 4

/-- Device time at a cold start is the calendar's when VALID = 1, else 0 (R449). -/
def Dev.seedTime (m : Dev) : Dev :=
  m.setNow (if m.on CALENDAR_STATUS_VALID then timeNs m.calWord else 0)

/-- The clocks as the monitor finds them (R648): GOOD, or NOT_SEEN. -/
def Dev.bootClocks (m : Dev) (c : Nat) : Dev :=
  let one := fun (k : Nat) => if Nat.testBit c k then 1 else 0
  m.wr CLK_STATUS_addr (Word.of (at_ 71 70 (one 0) + at_ 69 68 (one 1) + at_ 67 66 (one 2) + at_ 65 64 (one 3) + at_ 63 62 (one 4)))

/-- Step 3, the control stores (R201–R205): the microwords in all 32 clerks, the patch set's result and its report. -/
def Dev.bootMicrocode (m : Dev) (b : BootInfo) : Dev :=
  let one := fun (t : List (Nat × Nat)) (c : Nat) => b.microwords.foldl (fun t e => tput (fun _ => 0) t (c * 8192 + e.1 % 8192) e.2) t
  let m := { m with ucode := (List.range 32).foldl one [] }
  let m := m.wr UC_IMAGE_addr (Word.of ((m.rd UC_IMAGE_addr).toNat % 2 ^ 17 + at_ 71 40 b.baseId + at_ 39 32 0xB0
    + (if b.patchResult = 0 then at_ 31 22 b.patchLevel + at_ 21 17 b.patches else 0)))
  let m := m.wr UC_STATUS_addr (Word.of (2 ^ 71 + at_ 70 67 (if b.primaryResult = 0 then 0 else 0xA) + at_ 66 63 b.patchResult
    + at_ 62 59 b.patchIndex))
  let m := m.p UC_CTRL_LOCK 1
  if b.patchResult = 0 then m else m.report 0x1B 0 0 (at_ 7 4 b.patchResult + at_ 3 0 b.patchIndex)

/-- Step 3, the vault assay on all 192 banks (R461, R462): every bank zero, its record written, and each failing bank
retired and reported. -/
def Dev.bootAssay (m : Dev) (fails : List (Nat × List Nat × Nat)) : Dev :=
  let m := m.p VAULT_POWER_DOMAIN_ON 0xFFF
  m.each 192 (fun k m =>
    match fails.find? (fun e => e.1 == k) with
    | some (_, o :: os, bit) =>
      let m := (m.assayRecord k false (o :: os) bit).p (VAULT_OWNER_OWNER k) 0x800
      (m.p (VAULT_OWNER_RETIRED k) 1).report 0x20 7 k (o % 32768)
    | _ => m.assayRecord k false [] 0)

/-- The staging banks that DEC_STAGE_CTRL lists: first bank, banks, banks per slot. -/
def Dev.stageBanks (m : Dev) : Nat × Nat × Nat :=
  let f := m.g DEC_STAGE_CTRL_FIRST_BANK
  let k := m.g DEC_STAGE_CTRL_SLOT_BANKS
  (f, min (m.g DEC_STAGE_CTRL_BANKS) (176 - f), if 1 ≤ k ∧ k ≤ 8 then k else 2)

/-- The usable staging slots by number (R626): those without a retired bank. -/
def Dev.stageSlots (m : Dev) : List Nat :=
  let g := m.stageBanks
  (List.range (g.2.1 / g.2.2)).filter (fun i =>
    (List.range g.2.2).all (fun j => !m.on (VAULT_OWNER_RETIRED (g.1 + i * g.2.2 + j))))

/-- The staging banks are marked, and read OWNER FFFh while idle; banks listed no more go to the DMA engine (R221, R456). -/
def Dev.stagePlace (m : Dev) : Dev :=
  let g := m.stageBanks
  m.each 192 (fun b m =>
    let listed := inRange b g.1 g.2.1
    let was := m.on (VAULT_OWNER_STAGING b)
    let m := m.pb (VAULT_OWNER_STAGING b) listed
    if m.on (VAULT_OWNER_RETIRED b) then m
    else if listed then m.p (VAULT_OWNER_OWNER b) 0xFFF
    else if was then m.p (VAULT_OWNER_OWNER b) 0x700 else m)

/-- The installed words of an organisation (R463). -/
def orgWords (org : Nat) : Nat := if org = 0 then 2 ^ 34 else 2 ^ 35

/-- Step 3, DRAM (R463, R476): the configuration as trained, every channel RUNNING. -/
def Dev.bootDram (m : Dev) (b : BootInfo) : Dev :=
  let m := m.wr DRAM_CONFIG_addr (Word.of (at_ 71 70 b.dramRate + at_ 69 67 b.dramOrg + at_ 66 64 b.trainResult
    + at_ 63 28 (orgWords b.dramOrg) + at_ 27 20 0xFF + at_ 19 19 (if b.rdimm then 1 else 0)))
  m.each 8 (fun c m => m.p (DRAM_CH_STATUS_STATE c) 2)

/-- Step 4 (R623): PROG_BASE, the firmware in program space, and the lock. -/
def State.bootFirmware (s : State) (b : BootInfo) : State :=
  let s := s.onM (fun m => if m.on DOLRY_SPACE_LOCK then m else m.p DOLRY_SPACE_PROG_BASE (m.capacity - 2 ^ 24))
  let s := s.stores (.master 0xB) (s.m.progAddr 0) (clean b.firmware)
  s.onM (fun m => (m.p DOLRY_SPACE_LOCK 1).wr BOOT_IMAGE_addr (Word.of (at_ 71 40 b.imageId + at_ 39 19 b.firmware.length)))

/-- The newest valid record of a UID in the flash (R443): the highest SEQ, a tail before an image of equal SEQ. -/
def Dev.newestRecord (m : Dev) (own : JImage → Bool) : Option JImage :=
  m.journal.foldl (fun best e =>
    match best, e.2 with
    | some a, some b => if own b && (decide (a.seq < b.seq) || (a.seq == b.seq && b.lamps == 0)) then some b else some a
    | none, some b => if own b then some b else none
    | a, none => a) none

/-- Step 5 (R439, R443): the device record, with HALT_CARRY added to HALTS. -/
def Dev.bootRecord (m : Dev) : Dev :=
  let uid := m.g DEVICE_UID_UID
  let m := match m.newestRecord (fun i => i.uid == uid) with
    | some i => ((lifeAddrs.zip i.dev).foldl (fun (m : Dev) (e : Nat × Word) => m.wr e.1 e.2) m).p LEDGER_STATUS_RESTORE_RESULT 0
    | none => m.p LEDGER_STATUS_RESTORE_RESULT (if (m.newestRecord (fun _ => true)).isSome then 2 else 1)
  { m.addSat LIFE_COUNTS_HALTS (m.g CALENDAR_STATUS_HALT_CARRY) with haltAdded := m.g CALENDAR_STATUS_HALT_CARRY }

/-- A teller entry of the config record as a TELLER word (R622). -/
def tellerWord (w : Word) (k : Nat) : Word :=
  Word.of (at_ 71 71 (bits w (9 * k + 8) (9 * k + 8)) + at_ 70 67 (bits w (9 * k + 7) (9 * k + 4)) + at_ 66 63 (bits w (9 * k + 3) (9 * k)))

/-- Step 6 (R527, R622, R623): teller table, fabric identity, staging, identifiers and PERST_MODE, with their locks. -/
def Dev.bootConfig (m : Dev) (c : List Word) : Dev :=
  let w0 := nthWord c 0
  let m := if bits w0 63 63 = 1 then m.each 64 (fun b m => m.tellerWrite b (tellerWord (nthWord c (2 + b / 8)) (b % 8))) else m
  let m := m.p MBX_GLOBAL_TELLER_LOCK 1
  let m := if bits w0 62 62 = 1 ∧ m.on FAB_IDENT_LOCK = false then
    m.wr FAB_IDENT_addr (Word.of (at_ 71 35 (bits (nthWord c 1) 71 35) + 2 ^ 34)) else m
  let m := if m.on DEC_STAGE_CTRL_LOCK then m else
    m.wr DEC_STAGE_CTRL_addr (Word.of (at_ 71 46 (bits (nthWord c 10) 71 46) + 2 ^ 45))
  { m.p RESET_CTRL_PERST_MODE (bits w0 61 61) with subsys := bits w0 55 24 }

/-- Steps 7 and 8 (R69, R73, R623): the governor in AUTO, SERVICE cleared, the service contexts at their entry, HOST_READY
and RUN. -/
def Dev.bootReady (m : Dev) (b : BootInfo) : Dev :=
  let m := (m.p GOV_CTRL_MODE 1).p DMA_GLOBAL_SERVICE 0
  let m := m.each 8 (fun k m => m.startServices k)
  let m := ((m.p HOST_LINK_SPEED b.linkSpeed).p HOST_LINK_WIDTH b.linkWidth)
  let m := ((m.p BOOT_STATUS_STAGE 8).p BOOT_STATUS_HOST_READY 1).p BOOT_STATUS_BOOT_MS b.bootMs
  (m.p POWER_STATUS_STATE 1).p POWER_STATUS_CLUSTER_AWAKE 0xFF

/-- DEC_STAGE_CTRL as step 6 will leave it, for the placement of step 3 (R626). -/
def Dev.stageSoon (m : Dev) (c : List Word) : Dev :=
  if m.on DEC_STAGE_CTRL_LOCK then m else m.wr DEC_STAGE_CTRL_addr (Word.of (at_ 71 46 (bits (nthWord c 10) 71 46)))

/-- The boot chain (R623–R626), run whole; it takes the time its findings give. -/
def State.boot (s : State) (b : BootInfo) : State :=
  let s := s.onM (fun m => { m.bootClocks b.clocks with bootLast := some b, now := m.now + 1000000 * b.bootMs })
  let both := b.primaryResult ≠ 0 ∧ b.alternateResult ≠ 0
  let s := s.onM (fun m =>
    let m := m.p BOOT_STATUS_PRIMARY_RESULT b.primaryResult
    if b.primaryResult = 0 then m else (m.p BOOT_STATUS_ALTERNATE_RESULT b.alternateResult).pb BOOT_STATUS_IMAGE (b.alternateResult == 0))
  if both then s.onM (fun m => m.bootFail (resultStage b.alternateResult))
  else if b.failStage = 1 ∨ b.failStage = 2 then s.onM (fun m => m.bootFail b.failStage)
  else
    let s := s.onM (fun m => ((m.bootMicrocode b).bootAssay b.failedBanks).bootDram b)
    let s := s.onM (fun m =>
      let x := m.stageSoon b.config
      (m.p BOOT_STATUS_RETIRED_BANKS ((List.range 192).filter (fun k => m.on (VAULT_OWNER_RETIRED k))).length).p
        BOOT_STATUS_STAGING_SLOTS x.stageSlots.length)
    if b.failStage = 3 ∨ b.trainResult ≠ 0 ∨ s.m.g BOOT_STATUS_STAGING_SLOTS < 2 then s.onM (fun m => m.bootFail 3)
    else
      let s := s.bootFirmware b
      if b.failStage = 4 then s.onM (fun m => m.bootFail 4)
      else
        let s := s.onM Dev.bootRecord
        if b.failStage = 5 then s.onM (fun m => m.bootFail 5)
        else
          let s := s.onM (fun m => (m.bootConfig b.config).stagePlace)
          if 6 ≤ b.failStage then s.onM (fun m => m.bootFail (min 8 b.failStage)) else s.onM (fun m => m.bootReady b)

/-- A cold reset, and the boot chain if nothing holds the device in reset (R617, R618). -/
def State.cold (s : State) (last : Nat) (b : BootInfo) : State :=
  let s := s.coldReset last
  if s.m.held then s else (s.onM Dev.seedTime).boot b

/-- A warm reset and the boot chain (R629). Before host-ready it is a cold one (R630); DOWN is left only by a cold reset (R633). -/
def State.warm (s : State) (last : Nat) (b : BootInfo) : State :=
  if s.m.held ∨ s.m.g POWER_STATUS_STATE = 3 then s else if s.m.hostReady then (s.warmReset last).boot b else s.cold last b

/-- What the boot chain finds when a reset names nothing new: what it found before (log entry 21). -/
def Dev.bootAgain (m : Dev) : BootInfo :=
  m.bootLast.getD ⟨1, 1, 0, [], [], 0, [], 0, 0, 0, 0, 1, 0, 0, false, [], 2, 0, 0, 0, 0⟩

/-- A write of RESET_CTRL (R627): without KEY it is ignored. -/
def State.resetCtrl (s : State) (v : Word) (b : BootInfo) : State :=
  let acts := bits v 71 70 ≠ 0
  if bits v 69 54 ≠ 0x5A5A then (if acts then s.onM (fun m => m.incW RESET_CTRL_KEY_ERRORS) else s)
  else
    let s := s.onM (fun m => m.p RESET_CTRL_PERST_MODE (bits v 53 53))
    if bits v 71 71 = 1 then s.cold 2 b else if bits v 70 70 = 1 then s.warm 4 b else s

end Sys2Proof.Machine
end

