-- ==== Sys2Proof/Machine/Signals.lean ====
section
/-!
DEFINITION. Machine/Signals.lean: the meanings of the mailbox and interrupt commands (R526–R547) and of the commands of
fault collection (R604–R615).
-/

namespace Sys2Proof.Machine

/-! ### Mailboxes -/

/-- The word address of a register of a mailbox: offset 2 of a side is X_POST, 3 X_RECV, 4 X_ACK; side B lies 4 higher. -/
def mbxAddr (b : Nat) (side : Bool) (off : Nat) : Nat := 0x0D0000 + 16 * b + off + (if side then 4 else 0)

/-- MBX_POST (R529): a write of X_POST. -/
def execMbxPost (mst b : Nat) (side : Bool) (msg : Word) (s : State) : Host.Outcome State Fault Refusal :=
  .next (s.onM (fun m => m.ifWrite mst (mbxAddr (b % 64) side 2) (fun m => m.regPost mst (b % 64) side msg)))

/-- MBX_ACK (R531): a write of X_ACK without SIDE_RESET. -/
def execMbxAck (mst b : Nat) (side : Bool) (code : BitVec 16) (s : State) : Host.Outcome State Fault Refusal :=
  .next (s.onM (fun m => m.ifWrite mst (mbxAddr (b % 64) side 4) (fun m => m.regAck mst (b % 64) side code.toNat)))

/-- SIDE_RESET (R535): a write of X_ACK with SIDE_RESET. -/
def execSideReset (mst b : Nat) (side : Bool) (s : State) : Host.Outcome State Fault Refusal :=
  .next (s.onM (fun m => m.ifWrite mst (mbxAddr (b % 64) side 4) (fun m => m.regSideReset mst (b % 64) side)))

/-- MBX_TIMEOUT (R532): the timer of a side's outbound slot expires. -/
def execMbxTimeout (b : Nat) (side : Bool) (s : State) : Host.Outcome State Fault Refusal :=
  .next (s.onM (fun m => m.mbxExpire (b % 64) side))

/-- TELLER_WRITE (R527). -/
def execTellerWrite (mst b : Nat) (v : Word) (s : State) : Host.Outcome State Fault Refusal :=
  .next (s.onM (fun m => m.ifWrite mst (TELLER_addr (b % 64)) (fun m => m.tellerWrite (b % 64) v)))

/-! ### Interrupts -/

/-- GROUP_CTRL_WRITE (R543). -/
def execGroupCtrlWrite (mst g : Nat) (v : Word) (s : State) : Host.Outcome State Fault Refusal :=
  .next (s.onM (fun m => m.ifWrite mst (GROUP_CTRL_addr (g % 64)) (fun m => m.groupCtrl (g % 64) v)))

/-- HOLDOFF_EXPIRY (R544): the hold-off timer of a group expires. -/
def execHoldoffExpiry (g : Nat) (s : State) : Host.Outcome State Fault Refusal :=
  .next (s.onM (fun m => m.holdoffEnd (g % 44)))

/-! ### Fault collection -/

/-- An acknowledgement of every open escalation, or of the one with a SEQ; a report that waits for an entry is none, and opens in
a free one (R611). -/
def Dev.faultAck (m : Dev) (v : Word) : Dev :=
  let gone := fun (x : Esc) => bits v 55 55 == 1 || x.seq == bits v 71 56
  let m := m.each 16 (fun k m => match m.escAt k with
    | some x => if gone x then m.setEsc k none else m
    | none => m)
  m.each 16 (fun _ m => m.admitEsc)

/-- FAULT_N follows FN_HOLD once the 10 µs of the latest report have passed, and stays low in a halt (R608). -/
def Dev.faultFollow (m : Dev) : Dev :=
  if m.fnPulse || m.halted || m.on BOOT_STATUS_BOOT_FAIL then m else m.pb FAULT_STATUS_FAULT_N_LOW (m.on FAULT_CTRL_FN_HOLD)

/-- A write of FAULT_CTRL (R608, R610, R614): its fields, FAULT_N, and HALT_NOW. -/
def Dev.faultCtrl (m : Dev) (v : Word) : Dev :=
  let m := (m.commit FAULT_CTRL_addr v).faultFollow
  m.onlyIf (bits v 57 57 == 1) (fun m => m.report 0x3F 0 0 0)

/-- The deadline of an open escalation passes (R610, R611): the next rung, and the reset it may be. -/
def State.graceEnd (s : State) (k : Nat) (b : BootInfo) : State :=
  match s.m.escAt k with
  | none => s
  | some x =>
    let rung := if x.rung = 0 then firstRung x.cls else x.rung + 1
    let s := s.onM (fun m =>
      let m := (m.reach x.deadline).takeRung x rung
      let m := if m.escTop x.cls ≤ rung then m.setEsc k none
        else m.setEsc k (some { x with rung := rung, repeats := (match m.escAt k with | some y => y.repeats | none => x.repeats), deadline := m.now + m.graceNs })
      m.admitEsc)
    let s := if rung = 1 ∧ x.cls = 2 then s.channelGone x.subj else s
    if rung = 3 then s.warm 5 b else if rung = 4 then s.cold 3 b else s

/-- GRACE_EXPIRY (R610); k is the entry of FAULT_OPEN, b what the boot chain finds if the rung is a reset. -/
def execGraceExpiry (k : Nat) (b : BootInfo) (s : State) : Host.Outcome State Fault Refusal := .next (s.graceEnd (k % 16) b)

/-- FAULT_ACK (R611). -/
def execFaultAck (mst : Nat) (v : Word) (s : State) : Host.Outcome State Fault Refusal :=
  .next (s.onM (fun m => m.ifWrite mst FAULT_ACK_addr (fun m => m.faultAck v)))

/-- HALT_NOW (R605, R615): a write of FAULT_CTRL with HALT_NOW. -/
def execHaltNow (mst : Nat) (v : Word) (s : State) : Host.Outcome State Fault Refusal :=
  .next (s.onM (fun m => m.ifWrite mst FAULT_CTRL_addr (fun m => m.faultCtrl (putBits v 57 57 1))))

/-- FN_HOLD_WRITE (R608): a write of FAULT_CTRL. -/
def execFnHoldWrite (mst : Nat) (v : Word) (s : State) : Host.Outcome State Fault Refusal :=
  .next (s.onM (fun m => m.ifWrite mst FAULT_CTRL_addr (fun m => m.faultCtrl v)))

/-- FAULT_N_PULSE_END (R608). -/
def execFaultNPulseEnd (s : State) : Host.Outcome State Fault Refusal :=
  .next (s.onM (fun m => { m with fnPulse := false }.faultFollow))

end Sys2Proof.Machine
end

