-- ==== Sys2Proof/Machine/Codec.lean ====
section
/-!
DEFINITION. Machine/Codec.lean: the decode gates (R228–R238, R247–R254) and REGION_OPEN (R359–R361). What firmware reads in
the bitstream reaches the gate as its operand (log entry 9); the checks, the contexts, the command blocks, the descriptors
and the discard are computed here.
-/

namespace Sys2Proof.Machine

/-! ### The calling convention (R229) -/

/-- A gate routine of a channel's thread: it acts while the thread runs at firmware privilege (log entry 13). -/
def State.gate (s : State) (t : Nat) (f : State → State) : State :=
  if s.m.gateRuns t then (if t < 512 then f s else s.onM (fun m => m.gateRet t 8 0)) else s

/-- The gate returns a status and an outcome. -/
def State.ret (s : State) (t status outcome : Nat) : State := s.onM (fun m => m.gateRet t status outcome)

/-- A result register of a gate. -/
def State.res (s : State) (t r v : Nat) : State := s.onM (fun m => m.gateW t r (Word.of v))

/-- Write words to DRAM for firmware. -/
def State.fw (s : State) (a : Nat) (ws : List Word) : State := s.stores .device a (clean ws)

/-! ### Sequences (R207, R208, R213) -/

/-- The profiles of a standard, in the order of R207: the greatest depth and the chroma formats of each. -/
def profilesOf (std : Nat) : List (Nat × List Nat) :=
  match std with
  | 0 => [(8, [0, 1]), (10, [0, 1]), (10, [0, 1, 2])]
  | 1 => [(8, [1]), (10, [1]), (10, [0, 1, 2]), (10, [0, 1, 2, 3])]
  | 2 => [(10, [0, 1]), (10, [0, 1, 2, 3])]
  | _ => [(10, [0, 1]), (10, [0, 1, 3])]

/-- Is the level at most the highest supported (R207; the codes of DEC_CAPS)? -/
def levelOk (std level : Nat) : Bool :=
  match std with
  | 0 => decide (level ≤ 62) | 1 => decide (level ≤ 186) | 2 => decide (level ≤ 99) | _ => decide (level ≤ 19) || level == 31

/-- Is the size within R213? -/
def sizeOk (std : Nat) (q : SeqInfo) : Bool :=
  let big := std == 3
  decide (16 ≤ q.width) && decide (16 ≤ q.height) && decide (q.width ≤ (if big then 16384 else 8192)) &&
    decide (q.height ≤ (if big then 8704 else 8192)) &&
    decide (q.width * q.height ≤ (if big && q.level == 31 then 142606336 else 35651584)) &&
    decide (q.rate ≤ (if std = 2 then 2139095040 else 4278190080))

/-- Do the grid boundaries keep to the coding-tree size of a sequence (R351)? -/
def Region.gridFits (g : Region) (ctb : Nat) : Bool := (g.colB ++ g.rowB).all (fun b => b % max 1 ctb == 0)

/-- The first failing item of a sequence (R208, R231): 0 none, 1 PROFILE, 2 LEVEL, 3 CHROMA, 4 DEPTH, 5 SIZE, 6 TOOL. -/
def DecCtx.seqItem (c : DecCtx) (q : SeqInfo) : Nat :=
  let p := (profilesOf c.std).getD q.profile (0, [])
  let d := max q.depthY q.depthC
  if decide ((profilesOf c.std).length ≤ q.profile) then 1
  else if !levelOk c.std q.level then 2
  else if !smem p.2 q.chroma then 3
  else if decide (q.depthY < 8) || decide (q.depthC < 8) || decide (p.1 < d) || (c.packing == 1 && decide (8 < d)) then 4
  else if !sizeOk c.std q || !(match c.region with | some g => g.gridFits q.ctb | none => true) then 5
  else if q.badTool then 6 else 0

/-- Does a sequence exceed the context (R237)? -/
def DecCtx.exceeds (c : DecCtx) (q : SeqInfo) : Bool :=
  decide (c.maxW < q.width) || decide (c.maxH < q.height) || decide (c.chroma < q.chroma) ||
    decide (c.depth < max q.depthY q.depthC) || (c.std != 3 && decide (c.dpb < q.dpb)) || decide (c.slots < q.dpb)

/-! ### DEC_OPEN (R231) -/

/-- The context that a config record names. -/
def decRecord (ws : List Word) : DecCtx :=
  let w0 := nthWord ws 0
  let w1 := nthWord ws 1
  let w2 := nthWord ws 2
  let w3 := nthWord ws 3
  { std := bits w0 63 60, packing := bits w0 59 56, chroma := bits w0 55 52, depth := bits w0 51 48, maxW := bits w0 47 32,
    maxH := bits w0 31 16, dpb := bits w0 15 8, framing := bits w0 7 6, opPoint := bits w0 4 0, stateA := bits w1 71 36,
    workA := bits w1 35 0, spillA := bits w2 71 36, spillN := bits w2 35 0, tableA := bits w3 71 36, slots := bits w3 35 30 }

/-- Do the fields of a config record keep to R231? -/
def decRecordOk (ws : List Word) : Bool :=
  let c := decRecord ws
  bits (nthWord ws 0) 71 64 == 1 && decide (c.std ≤ 3) && decide (c.packing ≤ 1) && decide (c.chroma ≤ 3) &&
    decide (8 ≤ c.depth) && decide (c.depth ≤ 10) && decide (16 ≤ c.maxW) && decide (16 ≤ c.maxH) &&
    decide (c.maxW ≤ (if c.std = 3 then 16384 else 8192)) && decide (c.maxH ≤ (if c.std = 3 then 8704 else 8192)) &&
    (c.std == 3 || (decide (1 ≤ c.dpb) && decide (c.dpb ≤ 16))) && decide (c.framing ≤ 1) &&
    bits (nthWord ws 0) 5 5 == 0 && (c.std == 3 || c.opPoint == 0) && decide (1 ≤ c.slots) && decide (c.slots ≤ 32) &&
    bits (nthWord ws 3) 29 0 == 0

/-- The areas that a config record names lie in the channel's pool buffers (R231). -/
def State.decAreas (s : State) (n : Nat) (c : DecCtx) : Bool :=
  s.owns n c.stateA 16384 && s.owns n c.workA 32768 && s.owns n c.spillA c.spillN && s.owns n c.tableA c.slots

/-- DEC_OPEN, gate 16 (R231). A record that breaks R231 is REFUSED (DESIGN CHOICE). -/
def execDecOpen (t : Nat) (s : State) : Host.Outcome State Fault Refusal :=
  .next (s.gate t (fun s =>
    let a := bits (s.m.gateIn t 2) 35 0
    let ws := s.drams a 4
    if !s.owns t a 4 || s.anyPoison a 4 || (s.m.dec t).isSome || !decRecordOk ws || !s.decAreas t (decRecord ws) then s.ret t 8 0
    else (s.onM (fun m => m.setDec t (some (decRecord ws)))).ret t 0 0))

/-! ### Blocks and descriptors -/

/-- The slot table entry of a slot (R226): LUMA_ADDR and SIDE_ADDR. -/
def State.slotEntry (s : State) (c : DecCtx) (k : Nat) : Nat × Nat :=
  let w := s.dram (c.tableA + k)
  (bits w 71 36, bits w 35 0)

/-- An ENTROPY_DEC block (R232). -/
def DecCtx.entropyBlock (c : DecCtx) (tag : Nat) (x : DecUnit) (len : Nat) : List Word :=
  [Word.of (at_ 71 64 1 + at_ 63 60 c.std + at_ 59 56 x.kind + at_ 55 24 tag + at_ 23 12 x.firstRow + at_ 11 0 x.rows),
    Word.of (at_ 71 36 (x.dataPos / 9) + at_ 35 32 (x.dataPos % 9) + at_ 31 0 len),
    Word.of (at_ 71 36 (c.workA + x.paramOff % 32768)),
    Word.of (at_ 71 36 c.spillA + at_ 35 0 c.spillN)]

/-- PIPES (R218): the declared RECON demand by 1,406 Mpixel/s, rounded up, 1–4. -/
def Dev.pipesFor (m : Dev) (n : Nat) : Nat := max 1 (min 4 (ceilDiv (bits (m.rd (CHAN_DEMAND0_addr n)) 71 56) 1406))

/-- A RECON_DEC block (R233). -/
def State.reconBlock (s : State) (n : Nat) (c : DecCtx) (p : DecPic) (param : Nat) : List Word :=
  let e := s.slotEntry c p.slot
  let refs := (p.info.refs.filterMap (fun (r : Nat) => c.pic r)).take 16
  let grain := match p.grain with | some k => (s.slotEntry c k).1 | none => 0
  [Word.of (at_ 71 64 1 + at_ 63 60 c.std + at_ 59 55 refs.length + at_ 54 52 (s.m.pipesFor n) + at_ 51 20 p.tag),
    Word.of (at_ 71 36 e.1 + at_ 35 24 c.pitchY + at_ 23 12 c.pitchC),
    Word.of (at_ 71 36 e.2 + at_ 35 0 param),
    Word.of (at_ 71 36 grain)] ++
    refs.map (fun r => let q := s.slotEntry c r.slot; Word.of (at_ 71 36 q.1 + at_ 35 0 q.2))

/-- A SEAM block (R364). -/
def State.seamBlock (s : State) (c : DecCtx) (p : DecPic) (param : Nat) : List Word :=
  [Word.of (at_ 71 64 1 + at_ 63 60 c.std + at_ 59 28 p.tag),
    Word.of (at_ 71 36 (s.slotEntry c p.slot).1 + at_ 35 24 c.pitchY + at_ 23 12 c.pitchC),
    Word.of (at_ 71 36 param), 0]

/-- The rectangle of a picture's core that is shown: limited to the conformance or render window (R376, R380). -/
def Region.shown (g : Region) (i : PicInfo) : Rect :=
  rectMeet (g.core i.width i.height g.myCol g.myRow) (i.cropL, i.cropT, i.width - i.cropR, i.height - i.cropB)

/-- An output descriptor (R236), of 7 words in a regional context (R380). -/
def State.descriptor (s : State) (c : DecCtx) (p : DecPic) : List Word :=
  let i := p.info
  let chroma := match c.seq with | some q => q.chroma | none => c.chroma
  let e := s.slotEntry c (p.grain.getD p.slot)
  let w0 := Word.of (at_ 71 40 p.tag + at_ 39 36 c.std + at_ 35 32 chroma + at_ 31 28 i.depth + at_ 27 24 c.packing
    + at_ 23 22 i.field + at_ 21 21 (if 0 < p.concealed then 1 else 0) + at_ 20 20 (if p.grain.isSome then 1 else 0))
  let w1 := Word.of (at_ 71 36 e.1 + at_ 35 24 c.pitchY + at_ 23 12 c.pitchC)
  let w3 := Word.of (at_ 71 64 i.transfer + at_ 63 56 i.primaries + at_ 55 48 i.matrix + at_ 47 47 (if i.full then 1 else 0))
  match c.region with
  | none =>
    [w0, w1, Word.of (at_ 71 56 i.width + at_ 55 40 i.height + at_ 39 30 i.cropL + at_ 29 20 i.cropR + at_ 19 10 i.cropT
      + at_ 9 0 i.cropB), w3, Word.of c.order]
  | some g =>
    let a := g.area c.chroma i.width i.height g.me
    let r := g.shown i
    [w0, w1, Word.of (at_ 71 56 (rectW a) + at_ 55 40 (rectH a)), w3, Word.of c.order,
      Word.of (at_ 71 56 a.1 + at_ 55 40 a.2.1 + at_ 39 28 (r.1 - a.1) + at_ 27 18 (r.2.1 - a.2.1)
        + at_ 17 17 (if p.exact then 1 else 0) + at_ 16 16 (if p.exactLocal then 1 else 0)),
      Word.of (at_ 71 56 (rectW r) + at_ 55 40 (rectH r) + at_ 39 8 i.key)]

/-! ### Discard (R245, R247, R249) -/

/-- Firmware acts on the kinds that the engines recorded in the context (R245): a Play or Bulk channel enters the discard at the
first picture concerned; a Live one has lost a unit. -/
def Dev.actOnHurt (m : Dev) (n : Nat) : Dev :=
  match m.dec n with
  | none => m
  | some c =>
    if c.hurt.isEmpty then m
    else
      let m := m.setDec n (some { c with hurt := [], lost := c.lost || m.isLive n })
      if m.isLive n then m
      else match (c.pics.filter (fun p => smem c.hurt p.tag)).map (·.seq) with
        | [] => m.enterDiscard n c.nextSeq
        | a :: r => m.enterDiscard n (r.foldl min a)

/-- A restored channel enters the discard with no damage (R249). -/
def Dev.actOnRestore (m : Dev) (n pos : Nat) : Dev :=
  if smem m.resync n then
    let m := { m with resync := sremove m.resync n }
    match m.dec n with
    | some c => ((m.decLog n 0 3 c.std pos 0 0xFFFF 0).enterDiscard n c.nextSeq)
    | none => m
  else m

/-! ### DEC_NEXT (R230) -/

/-- DEC_NEXT returns an outcome with no block (R230, R245). -/
def State.nextNone (s : State) (t outcome used w3 tag : Nat) : State :=
  (((((s.res t 2 used).res t 3 w3).res t 4 0).res t 5 tag).res t 6 0).ret t 0 outcome

/-- The decoding number of the picture a unit belongs to. -/
def DecCtx.unitSeq (c : DecCtx) (x : DecUnit) : Nat :=
  if x.pic.isSome then c.nextSeq
  else match c.cur.bind c.pic with | some p => p.seq | none => c.nextSeq

/-- The tag of the picture a unit belongs to; of the next one at its first unit. -/
def DecCtx.unitTag (c : DecCtx) (x : DecUnit) : Nat := if x.pic.isSome then c.nextTag else c.cur.getD 0

/-- Bytes consumed in a discard (R247), counted by DEC_ERR_TOTAL. -/
def State.inDiscard (s : State) (t used : Nat) : State :=
  (s.onM (fun m => m.countK DEC_ERR_TOTAL_DISCARD_KBYTES true used)).nextNone t 6 used 0 0

/-- A damaged header (R245, R246): the log, and a discard or a lost unit. -/
def State.badHeader (s : State) (t used : Nat) (c : DecCtx) (x : DecUnit) : State :=
  let live := s.m.isLive t
  let action := if live then (if x.inSet then 5 else 1) else 3
  let s := s.onM (fun m =>
    let m := m.damage t x.damage action c.std x.bytePos (if x.inSet then 0 else c.unitTag x) 0xFFFF 0
    if live then (if x.inSet then m else m.setDec t (some { c with lost := true })) else m.enterDiscard t (c.unitSeq x))
  s.nextNone t 6 used 0 0

/-- Does the margin payload of a picture bind (R356)? -/
def Region.binds (g : Region) (p : Payload) : Bool :=
  g.colB.all (fun b => smem p.colB b) && g.rowB.all (fun b => smem p.rowB b) && decide (p.marginH ≤ g.marginH) &&
    decide (p.marginV ≤ g.marginV)

/-- The registers that tell of the last picture's payload (R356, R357). -/
def Dev.payloadStatus (m : Dev) (n : Nat) (c : DecCtx) (i : PicInfo) : Dev :=
  match c.region with
  | none => m
  | some g =>
    let v := match i.payload with | none => 0 | some p => if g.binds p then 1 else 2
    let loc := match i.payload with | none => false | some p => g.binds p && p.tileAligned && p.noFilterCross
    (m.p (REGION_CHAN_STATUS_PAYLOAD n) v).pb (REGION_CHAN_STATUS_EXACT_LOCAL n) loc

/-- A new picture of a context (R226, R238, R251): the lowest free slot, and one for the grain; references that are absent
stand for the picture before this one. -/
def DecCtx.newPic (c : DecCtx) (i : PicInfo) (slot : Nat) : DecPic :=
  let prev := (c.pics.find? (fun p => p.seq + 1 == c.nextSeq)).map (·.tag)
  let refs := i.refs.filterMap (fun r => if (c.pic r).isSome then some r else prev)
  let loc := match c.region, i.payload with
    | some g, some p => g.binds p && p.tileAligned && p.noFilterCross
    | _, _ => false
  { tag := c.nextTag, seq := c.nextSeq, slot := slot, grain := if i.grain then c.freeSlot [slot] else none, ref := i.isRef,
    wait := i.shown, exactLocal := loc, info := { i with refs := refs } }

/-- The context once a picture begins (R227, R252): the marks that the standard changes, the pictures due, the earlier picture's
last unit known. -/
def DecCtx.begin_ (c : DecCtx) (live : Bool) (p : DecPic) (unref due : List Nat) : DecCtx :=
  let pics := c.pics.map (fun q =>
    { q with ref := q.ref && !smem unref q.tag, lastUnit := q.lastUnit || c.cur == some q.tag })
  let due := due.filter (fun (d : Nat) => (pics ++ [p]).any (fun q => q.tag == d && q.wait) && !smem c.due d)
  ({ c with pics := pics ++ [p], cur := some p.tag, nextTag := (c.nextTag + 1) % 2 ^ 32, nextSeq := c.nextSeq + 1, due := c.due ++ due }).prune live

/-- DEC_NEXT returns a unit (R230): its ENTROPY_DEC block, and at a picture's first unit the RECON_DEC and SEAM blocks. -/
def State.giveUnit (s : State) (t used : Nat) (c : DecCtx) (x : DecUnit) (fresh : Bool) : State :=
  match c.cur.bind c.pic with
  | none => s.nextNone t 6 used 0 0
  | some p =>
    let cut := match c.gap with
      | some g => if x.dataPos ≤ g ∧ g < x.dataPos + x.dataBytes then g - x.dataPos else x.dataBytes
      | none => x.dataBytes
    let passed := match c.gap with | some g => decide (g < x.dataPos + x.dataBytes) | none => false
    let param := c.workA + x.paramOff % 32768
    let ea := c.workA + x.entOff % 32768
    let ra := c.workA + x.reconOff % 32768
    let sa := c.workA + x.seamOff % 32768
    let rb := s.reconBlock t c p param
    let s := (x.params.filter (fun e => decide (e.1 < 32768))).foldl (fun (s : State) e => s.store .device (c.workA + e.1) e.2 false) s
    let s := s.fw ea (c.entropyBlock p.tag x cut)
    let s := if fresh then s.fw ra rb else s
    let seam := fresh && c.region.isSome
    let s := if seam then s.fw sa (s.seamBlock c p param) else s
    let s := s.onM (fun m =>
      let m := if c.lost then m.incW (DEC_CHAN_ERRORS_RESYNCS t) else m
      m.setDec t (some { c.modPic p.tag (fun q => { q with built := q.built + 1 }) with begun := true, lost := false, gap := (if passed then none else c.gap) }))
    ((((s.res t 2 used).res t 3 ea).res t 4 (if fresh then ra else 0)).res t 5 p.tag).res t 6
      (4 + (if fresh then at_ 15 8 rb.length else 0) + (if seam then at_ 23 16 4 + at_ 71 36 sa else 0)) |>.ret t 0 0

/-- A coded unit (R230, R245, R251). BUSY changes nothing: no slot is free, or a fifth picture would begin. -/
def State.codedUnit (s : State) (t used : Nat) (c : DecCtx) (x : DecUnit) : State :=
  let live := s.m.isLive t
  match x.pic with
  | none => s.giveUnit t used c x false
  | some i =>
    match c.freeSlot [] with
    | none => s.ret t 7 0
    | some k =>
      if 4 ≤ (c.pics.filter (fun p => !p.reported)).length then s.ret t 7 0
      else
        let p := c.newPic i k
        let s := s.onM (fun m =>
          let m := if x.damage = 5 then m.damage t 5 6 c.std x.bytePos p.tag 0xFFFF 0 else m
          m.payloadStatus t c i)
        s.giveUnit t used (c.begin_ live p x.unref x.due) x true

/-- An unsupported sequence's units (R208): consumed, with the item in W3 and an entry in the log. -/
def State.unsupported (s : State) (t used : Nat) (c : DecCtx) (x : DecUnit) (item : Nat) : State :=
  let d := match x.seq with | some q => if item = 6 then q.detail else 0 | none => 0
  (s.onM (fun m => (m.setDec t (some { c with unsupported := item })).decLog t 0 5 c.std x.bytePos 0 0xFFFF d)).nextNone t 5 used item 0

/-- A sequence header (R208, R237). -/
def State.newSequence (s : State) (t used : Nat) (c : DecCtx) (x : DecUnit) (q : SeqInfo) : State :=
  let item := c.seqItem q
  if item ≠ 0 then s.unsupported t used c x item
  else if c.exceeds q then s.nextNone t 4 0 0 0
  else
    let c := match c.cur with | some tag => c.modPic tag (fun p => { p with lastUnit := true }) | none => c
    (s.onM (fun m => m.setDec t (some { c with seq := some q, unsupported := 0, cur := none }))).nextNone t 2 used 0 0

/-- What a parsed unit does outside a discard (R230, R245). -/
def State.takeUnit (s : State) (t used : Nat) (c : DecCtx) (x : DecUnit) : State :=
  let live := s.m.isLive t
  if smem [1, 2, 4, 6] x.damage || (x.damage == 5 && !live) then s.badHeader t used c x
  else
    let s := s.onM (fun m =>
      if x.damage = 3 then m.damage t 3 0 c.std x.bytePos (c.unitTag x) 0xFFFF 0
      else if x.damage = 7 then m.damage t 7 5 c.std x.bytePos (c.unitTag x) 0xFFFF 0 else m)
    match x.what with
    | 0 => if c.unsupported ≠ 0 then s.unsupported t used c x c.unsupported else s.codedUnit t used c x
    | 1 => s.nextNone t 2 used 0 0
    | 2 => s.nextNone t 1 used 0 0
    | 3 =>
      let tag := c.cur.getD 0
      (s.onM (fun m => m.setDec t (some (c.modPic tag (fun p => { p with lastUnit := true }))))).nextNone t 3 used 0 tag
    | 4 => match x.seq with
      | some q => s.newSequence t used c x q
      | none => s.nextNone t 2 used 0 0
    | 5 => (s.onM (fun m => m.incW (DEC_CHAN_COUNTS_SKIPPED t))).nextNone t 7 used 0 0
    | _ =>
      let c := c.modPic x.tag (fun p => { p with wait := !p.bad && !p.out })
      let c := if (c.pics.any (fun p => p.tag == x.tag && p.wait)) && !smem c.due x.tag then { c with due := c.due ++ [x.tag] } else c
      (s.onM (fun m => m.setDec t (some c))).nextNone t 8 used 0 x.tag

/-- A random-access point ends the discard (R247): the marks for reference are cleared, and the log records RESUME. -/
def Dev.resumeAt (m : Dev) (n : Nat) (c : DecCtx) (x : DecUnit) : Dev × DecCtx :=
  let c := ({ c with discard := false, pics := c.pics.map (fun (p : DecPic) => { p with ref := false }) }).prune (m.isLive n)
  ((m.setDec n (some c)).decLog n 0 4 c.std x.bytePos 0 0xFFFF 0, c)

/-- The unit that holds a reported loss begins the discard of a Play or Bulk channel (R254). -/
def State.gapDiscard (s : State) (t pos used : Nat) (x : DecUnit) : State × Bool :=
  match s.m.dec t with
  | some c => match c.gap with
    | some g =>
      if !s.m.isLive t && decide (g < pos + used) then
        (s.onM (fun m => (m.setDec t (some { c with gap := none })).enterDiscard t (c.unitSeq x)), true)
      else (s, false)
    | none => (s, false)
  | none => (s, false)

/-- DEC_NEXT on data the channel holds (R230, R245-R254). -/
def State.nextUnit (s : State) (t : Nat) (x : DecUnit) : State :=
  let pos := (s.m.gateIn t 2).toNat
  let len := (s.m.gateIn t 3).toNat
  let used := min x.consumed len
  let s := s.onM (fun m => (m.actOnHurt t).actOnRestore t x.bytePos)
  let g := s.gapDiscard t pos used x
  let s := g.1
  match s.m.dec t with
  | none => s
  | some c =>
    if c.discard then
      if x.rap && !g.2 then
        let r := s.m.resumeAt t c x
        ({ s with m := r.1 }).takeUnit t used r.2 x
      else s.inDiscard t used
    else s.takeUnit t used c x

/-- DEC_NEXT, gate 17 (R230). BUSY (status 7) changes nothing but W1 (R226, R228): the unit may be offered again. -/
def execDecNext (t : Nat) (x : DecUnit) (s : State) : Host.Outcome State Fault Refusal :=
  .next (s.gate t (fun s =>
    let pos := (s.m.gateIn t 2).toNat
    let len := (s.m.gateIn t 3).toNat
    if (s.m.dec t).isNone || !s.owns t (pos / 9) (max 1 (ceilDiv (pos % 9 + len) 9)) then s.ret t 8 0
    else
      let u := s.nextUnit t x
      if bits ((u.m.th t).rw 1).toNat 7 0 = 7 then s.ret t 7 0 else u))

/-! ### Output (R227, R228, R236) -/

/-- The next picture due for output that may be returned: it has been reported by DEC_PIC_DONE, or the channel is Live and
shows its rows as they come (R38, R219). -/
def Dev.dueNow (m : Dev) (n : Nat) (c : DecCtx) : Option DecPic :=
  match c.due with
  | [] => none
  | tag :: _ => match c.pic tag with
    | some p => if (p.reported || m.isLive n) && p.wait then some p else none
    | none => none

/-- Return a picture for output, if one is due (R228): OUTPUT with its descriptor's address, or NO_OUTPUT. -/
def State.output (s : State) (t off : Nat) : State :=
  match s.m.dec t with
  | none => s.ret t 8 0
  | some c => match s.m.dueNow t c with
    | none => s.ret t 0 0x0A
    | some p =>
      let a := c.workA + off % 32761
      let s := s.fw a (s.descriptor c p)
      let s := s.onM (fun m =>
        let m := if p.info.grain && p.grain.isNone then m.incW (DEC_CHAN_COUNTS_GRAIN_SKIPS t) else m
        let m := if c.region.isSome then m.pb (REGION_CHAN_STATUS_EXACT t) p.exact else m
        m.setDec t (some { c.modPic p.tag (fun q => { q with wait := false, out := true }) with due := c.due.drop 1, order := c.order + 1 }))
      (s.res t 2 a).ret t 0 9

/-- DEC_PIC_DONE, gate 18 (R228): W2 names the picture; one whose RECON_DEC has not completed, or that was reported already, is
REFUSED (DESIGN CHOICE). A dropped picture gives NO_OUTPUT, and its slot goes free (R247). -/
def execDecPicDone (t off : Nat) (s : State) : Host.Outcome State Fault Refusal :=
  .next (s.gate t (fun s =>
    let tag := (s.m.gateIn t 2).toNat
    match s.m.dec t with
    | none => s.ret t 8 0
    | some c => match c.pic tag with
      | none => s.ret t 8 0
      | some p =>
        if p.reported || !p.closed || s.m.hasWork 8 t (tagIs 51 20 tag) then s.ret t 8 0
        else
          let s := s.onM (fun m => (m.setDec t (some (c.modPic tag (fun q => { q with reported := true })))).actOnHurt t)
          let bad := match (s.m.dec t).bind (fun c => c.pic tag) with | some q => q.bad | none => true
          let s := s.onM (fun m => match m.dec t with | some c => m.setDec t (some (c.prune (m.isLive t))) | none => m)
          if bad then s.ret t 0 0x0A else s.output t off))

/-- DEC_OUTPUT, gate 19 (R228). -/
def execDecOutput (t off : Nat) (s : State) : Host.Outcome State Fault Refusal := .next (s.gate t (fun s => s.output t off))

/-- DEC_RELEASE, gate 20 (R228): a tag that is not returned for output is REFUSED. -/
def execDecRelease (t : Nat) (s : State) : Host.Outcome State Fault Refusal :=
  .next (s.gate t (fun s =>
    let tag := (s.m.gateIn t 2).toNat
    match s.m.dec t with
    | none => s.ret t 8 0
    | some c =>
      if c.pics.any (fun p => p.tag == tag && p.out) then
        (s.onM (fun m => m.setDec t (some ((c.modPic tag (fun p => { p with out := false })).prune (m.isLive t))))).ret t 0 0
      else s.ret t 8 0))

/-- Insert a picture by output order. -/
def byPoc (p : DecPic) : List DecPic → List DecPic
  | [] => [p]
  | q :: r => if p.info.poc < q.info.poc then p :: q :: r else q :: byPoc p r

/-- DEC_FLUSH, gate 21 (R228): every picture not yet output becomes due in output order. -/
def execDecFlush (t : Nat) (s : State) : Host.Outcome State Fault Refusal :=
  .next (s.gate t (fun s =>
    match s.m.dec t with
    | none => s.ret t 8 0
    | some c =>
      let rest := (c.pics.filter (fun p => p.wait && !smem c.due p.tag)).foldl (fun l p => byPoc p l) []
      let c := match c.cur with | some tag => c.modPic tag (fun p => { p with lastUnit := true }) | none => c
      (s.onM (fun m => m.setDec t (some { c with due := c.due ++ rest.map (·.tag) }))).ret t 0 0))

/-- DEC_CLOSE, gate 22 (R228): BUSY while work of the channel is incomplete; a regional context sends AWAY first (R374). -/
def execDecClose (t : Nat) (s : State) : Host.Outcome State Fault Refusal :=
  .next (s.gate t (fun s =>
    match s.m.dec t with
    | none => s.ret t 8 0
    | some c =>
      let qs := if c.region.isSome then [0, 1, 8, 0x30] else [0, 1, 8]
      if qs.any (fun q => s.m.queueBusy q t) then s.ret t 7 0
      else (s.onM (fun m => (m.sendAway t).setDec t none)).ret t 0 0))

/-! ### DEC_GAP (R254) -/

/-- DEC_GAP, gate 23 (R254): W2 the byte position, W3 the bytes lost. A position at or after the byte that DEC_NEXT reads next,
as W2 of its last call and what it consumed give it, is not yet consumed; the operand of the gate says which. -/
def State.decGap (s : State) (t : Nat) (consumedPic : Option Nat) : State :=
  let pos := (s.m.gateIn t 2).toNat
  match s.m.dec t with
  | none => s.ret t 8 0
  | some c =>
    if !s.owns t (pos / 9) 1 then s.ret t 8 0
    else
      let live := s.m.isLive t
      let tag := consumedPic.getD 0
      let s := s.onM (fun m =>
        let m := (m.damage t 0x0E (if live then 5 else 3) c.std pos tag 0xFFFF 0).incW (DEC_CHAN_ERRORS_LOSS_GAPS t)
        match consumedPic with
        | none => m.setDec t (some { c with gap := some pos })
        | some k => if live then m else m.enterDiscard t (match c.pic k with | some p => p.seq | none => c.nextSeq))
      s.ret t 0 0

/-- DEC_GAP: `consumed` names the picture that holds the gap where DEC_NEXT has consumed its bytes. -/
def execDecGap (t : Nat) (consumed : Option Nat) (s : State) : Host.Outcome State Fault Refusal :=
  .next (s.gate t (fun s => s.decGap t consumed))

/-! ### REGION_OPEN (R359–R361) -/

/-- Entry i of a table of four 18-bit lanes per word (R11). -/
def State.lane18 (s : State) (a i : Nat) : Nat := (s.dram (a + i / 4)).toNat / 2 ^ (18 * (i % 4)) % 2 ^ 18

/-- The regional part that a record names. -/
def State.regionRecord (s : State) (ws : List Word) : Region :=
  let w0 := nthWord ws 0
  let w1 := nthWord ws 1
  let nc := bits w0 47 42
  let nr := bits w0 41 36
  let lane := fun (i : Nat) => s.lane18 (bits w1 71 36) i
  { group := bits w0 63 48, colB := (List.range nc).map (fun i => lane i % 65536), rowB := (List.range nr).map (fun i => lane (nc + i) % 65536),
    members := (List.range ((nc + 1) * (nr + 1))).map (fun i => s.lane18 (bits w1 35 0) i), myCol := bits w0 35 30, myRow := bits w0 29 24,
    marginH := bits w0 23 12, marginV := bits w0 11 2, fetchOn := bits w0 1 1 == 1, inboxA := bits (nthWord ws 2) 71 36,
    inboxN := bits (nthWord ws 2) 35 0, fetchA := bits (nthWord ws 3) 71 36, fetchN := bits (nthWord ws 3) 35 0 }

/-- Are boundaries strictly rising, multiples of 8, and inside (0, lim)? -/
def gridOk (lim last : Nat) : List Nat → Bool
  | [] => true
  | b :: r => decide (last < b) && decide (b < lim) && b % 8 == 0 && gridOk lim b r

/-- The first failing check of R360; 0 for none. -/
def State.regionItem (s : State) (n : Nat) (ws : List Word) : Nat :=
  let g := s.regionRecord ws
  let w1 := nthWord ws 1
  let nb := ceilDiv (g.colB.length + g.rowB.length) 4
  if bits (nthWord ws 0) 71 64 != 1 || bits (nthWord ws 0) 0 0 != 0 || nthWord ws 4 != 0 ||
      nthWord ws 5 != (ws.take 5).foldl (· + ·) 0 then 1
  else match s.m.dec n with
    | none => 2
    | some c =>
      if c.begun || c.region.isSome then 2
      else if decide (g.colB.length < g.myCol) || decide (g.rowB.length < g.myRow) || !gridOk c.maxW 0 g.colB || !gridOk c.maxH 0 g.rowB then 3
      else if g.members.getD g.me 0 != s.m.ident || decide (g.members.eraseDups.length ≠ g.members.length) ||
          (List.range 512).any (fun k => k != n && (match (s.m.dec k).bind (·.region) with | some h => h.group == g.group | none => false)) then 4
      else if !((nb == 0 || s.owns n (bits w1 71 36) nb) && s.owns n (bits w1 35 0) (ceilDiv g.members.length 4) &&
          s.owns n g.inboxA g.inboxN && s.owns n g.fetchA g.fetchN && decide (4096 ≤ g.inboxN) && decide (8192 ≤ g.fetchN)) then 5
      else if decide (2048 < g.marginH) || decide (512 < g.marginV) then 6 else 0

/-- REGION_OPEN, gate 24 (R359–R361). A record outside the channel's buffers is item 05h (DESIGN CHOICE). -/
def execRegionOpen (t : Nat) (s : State) : Host.Outcome State Fault Refusal :=
  .next (s.gate t (fun s =>
    let a := bits (s.m.gateIn t 2) 35 0
    let ws := s.drams a 6
    let item := if !s.owns t a 6 || s.anyPoison a 6 then 5 else s.regionItem t ws
    if item ≠ 0 then (s.res t 3 item).ret t 8 0
    else match s.m.dec t with
      | none => s.ret t 8 0
      | some c => (s.onM (fun m => m.setDec t (some { c with region := some (s.regionRecord ws) }))).ret t 0 0))

end Sys2Proof.Machine
end

