-- ==== Sys2Proof/Machine/Rate.lean ====
section
/-!
DEFINITION. Machine/Rate.lean: encoder records (R284, R285), rate records and their checks (R305–R307), what the
accelerators measure (R304), the picture decision (R308), the buffer model (R311, R312) and RC_SET (R320).
-/

namespace Sys2Proof.Machine

/-! ### The config record (R284) -/

def EncCtx.w (c : EncCtx) (k : Nat) : Word := nthWord c.ws k
def EncCtx.std (c : EncCtx) : Nat := bits (c.w 0) 63 60
def EncCtx.packing (c : EncCtx) : Nat := bits (c.w 0) 59 56
def EncCtx.chroma (c : EncCtx) : Nat := bits (c.w 0) 55 52
def EncCtx.depth (c : EncCtx) : Nat := bits (c.w 0) 51 48
def EncCtx.width (c : EncCtx) : Nat := bits (c.w 0) 47 32
def EncCtx.height (c : EncCtx) : Nat := bits (c.w 0) 31 16
def EncCtx.level (c : EncCtx) : Nat := bits (c.w 0) 15 8
def EncCtx.profile (c : EncCtx) : Nat := bits (c.w 0) 7 4
def EncCtx.tier (c : EncCtx) : Nat := bits (c.w 0) 1 1
def EncCtx.gopMode (c : EncCtx) : Nat := bits (c.w 1) 71 70
def EncCtx.gopSize (c : EncCtx) : Nat := bits (c.w 1) 69 66
def EncCtx.refs (c : EncCtx) : Nat := bits (c.w 1) 65 62
def EncCtx.idrPeriod (c : EncCtx) : Nat := bits (c.w 1) 61 32
def EncCtx.effort (c : EncCtx) : Nat := bits (c.w 1) 31 30
def EncCtx.unitRows (c : EncCtx) : Nat := bits (c.w 2) 71 64
def EncCtx.wpp (c : EncCtx) : Bool := bits (c.w 2) 57 57 == 1
def EncCtx.refresh (c : EncCtx) : Bool := bits (c.w 2) 56 56 == 1
def EncCtx.period (c : EncCtx) : Nat := bits (c.w 2) 55 40
def EncCtx.colWidth (c : EncCtx) : Nat := bits (c.w 2) 39 32
def EncCtx.regionCols (c : EncCtx) : Nat := bits (c.w 3) 71 64
def EncCtx.regionRows (c : EncCtx) : Nat := bits (c.w 3) 63 56
def EncCtx.workA (c : EncCtx) : Nat := bits (c.w 4) 35 0
def EncCtx.tableA (c : EncCtx) : Nat := bits (c.w 5) 71 36
def EncCtx.slots (c : EncCtx) : Nat := bits (c.w 5) 35 30

/-- The coding-tree size: macroblock, CTB or superblock (R242, R284). -/
def EncCtx.ctb (c : EncCtx) : Nat :=
  if c.std = 0 then 16 else if c.std = 1 then (if bits (c.w 0) 3 2 = 0 then 32 else 64) else 64

/-- CTB columns and rows. -/
def EncCtx.cols (c : EncCtx) : Nat := ceilDiv c.width c.ctb
def EncCtx.rows (c : EncCtx) : Nat := ceilDiv c.height c.ctb

/-- N, the pictures of a sweep that carry an intra column (R274). -/
def EncCtx.sweepLen (c : EncCtx) : Nat := ceilDiv c.cols (max 1 c.colWidth)

/-- The weight of EFFORT, in halves (R271). -/
def EncCtx.weight2 (c : EncCtx) : Nat := if c.effort ≤ 1 then 2 else if c.effort = 2 then 3 else 4

/-! ### The rate record (R305) -/

def EncCtx.r (c : EncCtx) (k : Nat) : Word := nthWord c.rate k
def EncCtx.mode (c : EncCtx) : Nat := bits (c.r 0) 63 62
def EncCtx.hrd (c : EncCtx) : Bool := bits (c.r 0) 61 61 == 1
def EncCtx.bitrate (c : EncCtx) : Nat := 64 * bits (c.r 1) 71 48
def EncCtx.maxRate (c : EncCtx) : Nat := 64 * bits (c.r 1) 47 24
def EncCtx.latency (c : EncCtx) : Nat := bits (c.r 2) 35 12
def EncCtx.qpMin (c : EncCtx) : Nat := bits (c.r 3) 71 66
def EncCtx.qpMax (c : EncCtx) : Nat := bits (c.r 3) 65 60
def EncCtx.qpInit (c : EncCtx) : Nat := bits (c.r 3) 59 54
def EncCtx.maxStep (c : EncCtx) : Nat := bits (c.r 3) 31 28
def EncCtx.statsA (c : EncCtx) : Nat := bits (c.r 4) 71 36
def EncCtx.statsN (c : EncCtx) : Nat := bits (c.r 4) 35 24

/-- R, the model rate in bit/s (R308). -/
def EncCtx.modelRate (c : EncCtx) : Nat := if c.mode = 2 then c.maxRate else c.bitrate

/-- The buffer rate (R310): MAX_BITRATE in VBR and capped CQ. -/
def EncCtx.bufRate (c : EncCtx) : Nat := if c.mode = 1 ∨ c.mode = 2 then c.maxRate else c.bitrate

/-- One picture interval's bits at a rate: rate ÷ f. -/
def EncCtx.perPic (c : EncCtx) (rate : Nat) : Rat :=
  ((rate * bits (c.r 0) 35 12 : Nat) : Rat) / ((max 1 (bits (c.r 0) 59 36) : Nat) : Rat)

/-- Bq (R315). -/
def EncCtx.queueLimit (c : EncCtx) : Rat := ((c.bitrate * c.latency : Nat) : Rat) / 1000000

/-- B, the buffer (R311, R315). -/
def EncCtx.buffer (c : EncCtx) : Rat :=
  if c.mode = 3 then c.queueLimit + c.perPic c.bitrate else ((16 * bits (c.r 2) 71 44 : Nat) : Rat)

/-- D at the start of a buffering period (R311). -/
def EncCtx.initD (c : EncCtx) : Rat := ((bits (c.r 2) 43 36 : Nat) : Rat) * c.buffer / 256

/-- The QP range of a standard (R307). -/
def qpRange (std : Nat) : Nat × Nat := if std = 3 then (1, 63) else (0, 51)

/-- Does a rate record fail R306? `c` holds the record; `live`: its channel is Live. -/
def State.rateBad (s : State) (n : Nat) (live : Bool) (c : EncCtx) : Bool :=
  let lo := (qpRange c.std).1
  let hi := (qpRange c.std).2
  let num := bits (c.r 0) 59 36
  let den := bits (c.r 0) 35 12
  let out := fun (q : Nat) => decide (q < lo) || decide (hi < q)
  let buf := 16 * bits (c.r 2) 71 44
  bits (c.r 0) 71 64 != 1 || bits (c.r 0) 11 0 != 0 || bits (c.r 1) 23 0 != 0 || bits (c.r 2) 11 0 != 0 ||
    bits (c.r 3) 11 0 != 0 || bits (c.r 4) 15 0 != 0 || c.r 5 != 0 ||
    (c.mode == 3 && !live) || num == 0 || den == 0 || decide (240 * den < num) ||
    (c.mode != 2 && c.bitrate == 0) || (c.mode == 1 && decide (c.maxRate < c.bitrate)) ||
    decide (Config.levelRate c.std c.profile c.level c.tier < max c.bitrate (if c.mode = 1 ∨ c.mode = 2 then c.maxRate else 0)) ||
    (c.hrd && decide (Config.levelBuffer c.std c.profile c.level c.tier < buf)) ||
    (c.hrd && c.mode == 2 && c.maxRate == 0) || (decide (c.mode ≤ 1) && buf == 0) || bits (c.r 2) 43 36 == 0 ||
    (c.mode == 3 && (decide (c.latency < 100) || decide (100000 < c.latency))) ||
    decide (c.qpMax < c.qpMin) || out c.qpMin || out c.qpMax || out c.qpInit || out (bits (c.r 3) 53 48) ||
    decide (12 < bits (c.r 3) 35 32) || c.maxStep == 0 || (c.statsN != 0 && !s.owns n c.statsA (4 * c.statsN))

/-! ### ENC_OPEN's checks (R285) -/

/-- Is a standard's profile one of R258, and are the fields valid for the standard? -/
def EncCtx.profileBad (c : EncCtx) : Bool :=
  bits (c.w 0) 71 64 != 1 || !smem [0, 1, 3] c.std || decide ((if c.std = 1 then 2 else 0) < c.profile) ||
    decide (1 < c.packing) || decide (1 < bits (c.w 0) 3 2) || (c.std != 1 && (bits (c.w 0) 3 1 != 0 || c.wpp)) ||
    (c.std == 0 && bits (c.w 2) 63 58 != 0) || bits (c.w 0) 0 0 != 0 || bits (c.w 1) 5 0 != 0 || bits (c.w 2) 31 0 != 0 ||
    bits (c.w 3) 31 0 != 0 || bits (c.w 5) 29 0 != 0 || bits (c.w 7) 35 0 != 0

/-- Is the level at most R258's, with the picture within the level's size? -/
def EncCtx.levelBad (c : EncCtx) : Bool :=
  decide ((if c.std = 0 then 52 else if c.std = 1 then 186 else 17) < c.level) ||
    decide (Config.levelPicture c.std c.level < c.width * c.height)

/-- The chroma formats of a profile (R258). -/
def EncCtx.chromaBad (c : EncCtx) : Bool :=
  !smem (if c.std = 0 then [1] else if c.std = 1 then (if c.profile = 2 then [1, 2] else [1]) else [0, 1]) c.chroma

/-- The depths of a profile (R258). -/
def EncCtx.depthBad (c : EncCtx) : Bool :=
  let top := if c.std = 0 ∨ (c.std = 1 ∧ c.profile = 0) then 8 else 10
  decide (c.depth < 8) || decide (top < c.depth) || (c.packing == 1 && decide (8 < c.depth))

/-- R262. -/
def EncCtx.sizeBad (c : EncCtx) : Bool :=
  let mw := if c.std = 0 then 4096 else 8192
  let mh := if c.std = 0 then 2304 else 4352
  let ms := if c.std = 0 then 9437184 else 35651584
  let persec := if c.std = 0 then 530841600 else if c.std = 1 then 4278190080 else 2139095040
  decide (c.width < 64) || decide (mw < c.width) || decide (c.height < 64) || decide (mh < c.height) ||
    decide (ms < c.width * c.height) || decide (persec * bits (c.r 0) 35 12 < c.width * c.height * bits (c.r 0) 59 36)

/-- GOP fields (R284, R285). -/
def EncCtx.gopBad (c : EncCtx) (live : Bool) : Bool :=
  c.gopMode == 3 || decide (c.refs < 1) || decide (4 < c.refs) ||
    (if c.gopMode = 2 then !smem [2, 4, 8] c.gopSize || live || c.refresh else c.gopSize != 1)

/-- Search fields (R284, R285). -/
def EncCtx.searchBad (c : EncCtx) : Bool :=
  let h := bits (c.w 1) 27 16
  let v := bits (c.w 1) 15 6
  let f := bits (c.w 1) 29 28
  decide (h < 16) || decide (2048 < h) || h % 16 != 0 || decide (v < 8) || decide (512 < v) || v % 8 != 0 ||
    decide (1 < f) || (f == 1 && c.std != 3)

/-- Refresh fields (R274, R285). -/
def EncCtx.refreshBad (c : EncCtx) : Bool :=
  c.refresh && (decide (c.period < 2) || c.colWidth == 0 || decide (c.period < c.sweepLen))

/-- Region fields (R278, R285). -/
def EncCtx.regionBad (c : EncCtx) : Bool :=
  let tiles := Config.levelTiles c.std c.level
  let tc := if c.regionCols ≠ 0 then c.regionCols else bits (c.w 2) 63 58 + 1
  let tr := if c.regionCols ≠ 0 then c.regionRows else if c.std = 3 ∧ c.unitRows ≠ 0 then ceilDiv c.rows c.unitRows else 1
  let cross := bits (c.w 3) 33 33 == 1
  (c.regionCols != 0 && (decide (64 < c.regionCols) || c.regionRows == 0 || decide (64 < c.regionRows) ||
      decide (c.cols < c.regionCols) || decide (c.rows < c.regionRows))) ||
    decide (2048 < bits (c.w 3) 55 44) || decide (512 < bits (c.w 3) 43 34) ||
    (c.std != 0 && (decide (tiles.1 < tc) || decide (tiles.2 < tr))) ||
    (cross && (c.std == 3 || (c.std == 0 && decide (1 < c.regionCols))))

/-- The areas of the record (R285, R231). -/
def State.encAreas (s : State) (n : Nat) (c : EncCtx) : Bool :=
  s.owns n (bits (c.w 4) 71 36) 16384 && s.owns n c.workA 32768 && s.owns n c.tableA (2 * c.slots) &&
    s.owns n (bits (c.w 6) 71 36) (bits (c.w 6) 35 0) && s.owns n (bits (c.w 7) 71 36) 6 &&
    decide (c.slots ≤ 32) && decide (c.refs + 1 ≤ c.slots)

/-- The first failing item of ENC_OPEN (R285, R306); 0 for none. -/
def State.encItem (s : State) (n : Nat) (c : EncCtx) : Nat :=
  let live := s.m.isLive n
  if c.profileBad then 1 else if c.levelBad then 2 else if c.chromaBad then 3 else if c.depthBad then 4
  else if c.sizeBad then 5 else if s.rateBad n live c then 6 else if c.gopBad live then 7 else if c.searchBad then 8
  else if c.refreshBad then 9 else if c.regionBad then 0x0A else if !s.encAreas n c then 0x0B else 0

/-! ### Measurement (R304) -/

/-- A luma sample rounded to 8 bits (R266). -/
def to8 (depth v : Nat) : Nat :=
  if depth ≤ 8 then v else min 255 ((v + 2 ^ (depth - 9)) / 2 ^ (depth - 8))

/-- A luma plane to measure: base, pitch, packing, depth, width and height. -/
structure Plane where
  base : Nat
  pitch : Nat
  packing : Nat
  depth : Nat
  w : Nat
  h : Nat

/-- The 8-bit sample of a plane; positions past an edge take the nearest sample; a poisoned word reads as zero. -/
def State.luma8 (s : State) (p : Plane) (x y : Nat) : Int :=
  ((to8 p.depth ((s.sample p.base p.pitch p.packing p.depth (min x (p.w - 1)) (min y (p.h - 1))).getD 0) : Nat) : Int)

/-- Four values through the Hadamard butterflies. -/
def hadamard4 (a b c d : Int) : List Int := [a + b + c + d, a - b + c - d, a + b - c - d, a - b - c + d]

/-- The sum of the absolute 4 × 4 Hadamard coefficients of a difference (R270), `f` giving it by column and row. -/
def hadamardSum (f : Nat → Nat → Int) : Nat :=
  let rows := (List.range 4).map (fun j => hadamard4 (f 0 j) (f 1 j) (f 2 j) (f 3 j))
  let at' := fun (r c : Nat) => (rows.getD r []).getD c 0
  ((List.range 4).map (fun c => ((hadamard4 (at' 0 c) (at' 1 c) (at' 2 c) (at' 3 c)).map Int.natAbs).sum)).sum

/-- The intra SATD of an 8 × 8 block: on the block less its mean, the mean rounded down (R304, R270). -/
def State.intraSatd (s : State) (p : Plane) (bx by_ : Nat) : Nat :=
  let f := fun (x y : Nat) => s.luma8 p (8 * bx + x) (8 * by_ + y)
  let sum := ((List.range 64).map (fun k => f (k % 8) (k / 8))).sum
  let m := sum / 64
  ((List.range 4).map (fun q => hadamardSum (fun x y => f (x + 4 * (q % 2)) (y + 4 * (q / 2)) - m))).sum / 2

/-- The COST of an 8 × 8 block of reference 0 in a motion field (R269), if the window was not empty. -/
def State.blockCost (s : State) (motion bw bx by_ : Nat) : Option Nat :=
  let w := s.dram (motion + by_ * bw + bx)
  if bits w 19 19 = 1 then none else some (bits w 39 24)

/-- INTRA_CPLX and INTER_CPLX over the 8 × 8 blocks whose column a test takes (R304); `motion` 0 for no field. -/
def State.complexity (s : State) (p : Plane) (motion : Nat) (take : Nat → Bool) : Nat × Nat :=
  let bw := ceilDiv p.w 8
  ((List.range (ceilDiv p.h 8)).flatMap (fun j => (List.range bw).map (fun i => (i, j)))).foldl
    (fun (a : Nat × Nat) q =>
      if take q.1 then
        let x := s.intraSatd p q.1 q.2
        (a.1 + x, a.2 + (if motion = 0 then x else (s.blockCost motion bw q.1 q.2).getD x))
      else a) (0, 0)

/-! ### The picture decision (R308) -/

/-- The type class of the model: 0 intra, 1 P, 2 B used as reference, 3 B not used as reference. AV1's hidden frames are
anchors, counted as P. -/
def rateType (ptype : Nat) : Nat :=
  if ptype ≤ 1 then 0 else if ptype = 2 ∨ ptype = 5 then 1 else if ptype = 3 then 2 else 3

/-- The type weights (R308). -/
def typeWeight (k : Nat) : Rat := if k = 0 then 4 else if k = 1 then 1 else if k = 2 then 3 / 5 else 2 / 5

/-- α of a type (R308). -/
def RateModel.alphaOf (r : RateModel) (k : Nat) : Rat := tget (fun _ => (1 : Rat) / 16) r.alpha k

/-- est(q) (R308): `k` the type used for the estimate, `cn` and `cc` the complexity outside and inside the intra column. -/
def RateModel.est (r : RateModel) (k cn cc : Nat) (colOff : Int) (q : Nat) : Rat :=
  r.alphaOf k * (cn : Nat) * Config.quantK q + r.alphaOf 0 * (cc : Nat) * Config.quantK (q + colOff)

/-- A number clamped to lo … hi. -/
def clampTo (lo hi x : Int) : Int := max lo (min hi x)

/-- cap (R312): D less what is written with the picture, in bits; none without a buffer model and in LIVE_ROW. -/
def EncCtx.cap (c : EncCtx) (header : Nat) : Option Rat :=
  if c.hrd && c.mode != 3 then some (c.model.d - (8 * header : Nat)) else none

/-- T of R308. -/
def EncCtx.targetBits (c : EncCtx) (k : Nat) (cap : Option Rat) : Rat :=
  let rf := c.perPic c.modelRate
  let t := rf * typeWeight k + c.model.e / (if c.mode = 0 ∨ c.mode = 3 then 4 else 32)
  let t := max t (rf / 16)
  match cap with | some x => min t (x * 7 / 8) | none => t

/-- The picture QP (R308). `k`: the picture's type; `ke`: the type of the estimate (R317). -/
def EncCtx.pictureQp (c : EncCtx) (k ke cn cc : Nat) (scene : Bool) (cap : Option Rat) : Nat :=
  let colOff := signedOf 4 (bits (c.r 3) 27 24)
  let est := fun (q : Nat) => c.model.est ke cn cc colOff q
  let lo := c.qpMin
  let hi := c.qpMax
  if c.mode = 2 then
    let base : Int := (bits (c.r 3) 53 48 : Nat) +
      (if k = 0 then signedOf 4 (bits (c.r 3) 47 44) else if 2 ≤ k then signedOf 4 (bits (c.r 3) 43 40) else 0)
    let start := base.toNat
    let q := match cap with
      | some x => ((List.range 64).map (· + start)).find? (fun q => decide (est q ≤ x * 7 / 8) || decide (hi ≤ q)) |>.getD start
      | none => start
    (clampTo lo hi q).toNat
  else
    let t := c.targetBits k cap
    let q := (((List.range 64).filter (fun q => decide (lo ≤ q) && decide (q ≤ hi))).find? (fun q => decide (est q ≤ t))).getD hi
    let last := tget (fun _ => 64) c.model.lastQp k
    let q : Int := if last < 64 ∧ scene = false ∧ smem c.model.exempt k = false then clampTo ((last : Int) - c.maxStep) ((last : Int) + c.maxStep) q else q
    (clampTo lo hi q).toNat

/-- λm in UQ8.8 for a QP (R270): 0.76 × 2^((QP − 12) ÷ 6) to the nearest 1/256, saturated; found by comparing sixth powers. -/
def lambdaM (qp : Nat) : Nat :=
  let le := fun (n : Nat) => decide (((2 * n - 1) * 100) ^ 6 * 2 ^ 12 ≤ (2 * 19456) ^ 6 * 2 ^ qp)
  (List.range 16).foldl (fun (n : Nat) (i : Nat) => let k := n + 2 ^ (15 - i); if le k then k else n) 0

/-! ### After a picture (R308, R311, R319) -/

/-- The model after a coded picture of `bytes`, `fill` of them filler: E, α, D, the last QP (R308, R311). `qp` its QP, `cplx` its
C. -/
def EncCtx.modelAfter (c : EncCtx) (k qp cplx bytes fill : Nat) (newPeriod : Bool) : RateModel × Nat :=
  let r := c.model
  let b : Rat := ((8 * (bytes - fill) : Nat) : Rat)
  let a := if cplx = 0 then r.alphaOf k else r.alphaOf k * 3 / 4 + b / ((cplx : Nat) * Config.quantK qp) / 4
  let d0 := if newPeriod || !r.started then c.initD else r.d
  let d := d0 - b + ((1 + r.dropped : Nat) : Rat) * c.perPic c.bufRate
  let ovr := d - c.buffer
  let fb : Nat := if c.hrd && c.mode == 0 && decide (0 < ovr) then 8 * (ovr / 8).floor.toNat else 0
  ({ r with e := r.e + c.perPic c.modelRate - b - (fb : Nat), d := min d c.buffer, alpha := tput (fun _ => (1 : Rat) / 16) r.alpha k a, lastQp := tput (fun _ => 64) r.lastQp k qp, exempt := sremove r.exempt k, dropped := 0, started := true }, fb)

/-- The model after a dropped picture (R319). -/
def RateModel.afterDrop (r : RateModel) (k qp : Nat) : RateModel :=
  { r with lastQp := tput (fun _ => 64) r.lastQp k (min 63 (qp + 2)), exempt := sinsert r.exempt k, dropped := r.dropped + 1 }

/-! ### RC_SET (R320) -/

/-- Does a new rate record wait for an IDR picture or sweep start in its rate fields (R320)? -/
def EncCtx.rateChange (c : EncCtx) (rec : List Word) : Bool := nthWord rec 1 != c.r 1 || nthWord rec 2 != c.r 2

/-- The new values of a waiting rate record at a PICTURE outcome (R320); `entry`: the picture is an IDR picture or key frame, or
with REFRESH = 1 the start of a sweep. -/
def EncCtx.takeRate (c : EncCtx) (entry : Bool) : EncCtx :=
  match c.nextRate with
  | none => c
  | some rec =>
    if !c.hrd then
      { c with rate := rec, nextRate := none, model := if nthWord rec 1 = c.r 1 then c.model else { c.model with e := 0 } }
    else if entry || !c.rateChange rec then
      { c with rate := rec, nextRate := none, model := if c.rateChange rec then { c.model with e := 0, started := false } else c.model }
    else { c with rate := [nthWord rec 0, c.r 1, c.r 2, nthWord rec 3, nthWord rec 4, nthWord rec 5] }

/-- RC_SET, gate 40 (R320). -/
def execRcSet (t : Nat) (s : State) : Host.Outcome State Fault Refusal :=
  .next (s.gate t (fun s =>
    let a := bits (s.m.gateIn t 2) 35 0
    match s.m.enc t with
    | none => s.ret t 8 0
    | some c =>
      let rec_ := s.drams a 6
      let c' := { c with rate := rec_ }
      if !s.owns t a 6 || s.anyPoison a 6 || s.rateBad t (s.m.isLive t) c' || c'.mode != c.mode || c'.hrd != c.hrd then
        (s.res t 3 6).ret t 8 0
      else (s.onM (fun m => m.setEnc t (some { c with nextRate := some rec_ }))).ret t 0 0))

end Sys2Proof.Machine
end

