-- ==== Sys2Proof/Machine/Encode.lean ====
section
/-!
DEFINITION. Machine/Encode.lean: the encode gates (R282–R292), units and their regions (R272, R286), gradual refresh (R274,
R291), the margin payload (R279, R280) and the statistics ring (R322).
-/

namespace Sys2Proof.Machine

/-! ### Units (R272) -/

/-- Boundary j of n parts of C, as R278 has it. -/
def partAt (C n j : Nat) : Nat := j * C / max 1 n

/-- Cut [a, b) into parts of at most k rows; one part for k = 0. -/
def cutRows (k : Nat) : Nat → Nat → Nat → List (Nat × Nat)
  | 0, _, _ => []
  | fuel + 1, a, b => if b ≤ a then [] else if k = 0 ∨ b - a ≤ k then [(a, b - a)] else (a, k) :: cutRows k fuel (a + k) b

/-- The tile columns and rows of a picture, as boundaries (R272, R278). -/
def EncCtx.tileCols (c : EncCtx) : List (Nat × Nat) :=
  let n := if c.std = 0 then 1 else if c.regionCols ≠ 0 then c.regionCols else bits (c.w 2) 63 58 + 1
  (List.range n).map (fun j => (partAt c.cols n j, partAt c.cols n (j + 1)))

def EncCtx.tileRows (c : EncCtx) : List (Nat × Nat) :=
  if c.regionCols ≠ 0 then (List.range c.regionRows).map (fun j => (partAt c.rows c.regionRows j, partAt c.rows c.regionRows (j + 1)))
  else if c.std = 3 then (cutRows c.unitRows c.rows 0 c.rows).map (fun p => (p.1, p.1 + p.2))
  else [(0, c.rows)]

/-- The units of a picture in coding order: kind, first row, rows, CTBs, and whether the unit ends its tile group (R272). -/
def EncCtx.unitGrid (c : EncCtx) : List (Nat × Nat × Nat × Nat × Bool) :=
  c.tileRows.flatMap (fun r => c.tileCols.flatMap (fun k =>
    let w := k.2 - k.1
    if c.std = 3 then [(1, r.1, r.2 - r.1, w * (r.2 - r.1), k.2 == c.cols)]
    else if c.std = 1 ∧ c.wpp = true then
      (List.range (r.2 - r.1)).map (fun i => (2, r.1 + i, 1, w, true))
    else (cutRows c.unitRows c.rows r.1 r.2).map (fun p => (if c.std = 1 ∧ c.unitRows = 0 then 1 else 0, p.1, p.2, w * p.2, true))))

/-- The units with their regions of the output buffer: what follows the first 1,024 words, divided by CTBs, and limited by the cap
(R286, R312). -/
def EncCtx.encUnits (c : EncCtx) (outN : Nat) (cap : Option Rat) : List EncUnit :=
  let g := c.unitGrid
  let all := max 1 ((g.map (fun u => u.2.2.2.1)).sum)
  let room := 9 * (outN - 1024)
  let total := match cap with | some x => min room (x / 8).floor.toNat | none => room
  (g.foldl (fun (a : Nat × List EncUnit) u =>
    let s0 := total * a.1 / all
    let s1 := total * (a.1 + u.2.2.2.1) / all
    (a.1 + u.2.2.2.1, a.2 ++ [{ kind := u.1, firstRow := u.2.1, rows := u.2.2.1, ctbs := u.2.2.2.1, lastOfGroup := u.2.2.2.2, start := 9216 + s0, len := s1 - s0 }])) (0, [])).2

/-! ### The margin payload (R279, R280) -/

/-- Two bytes of a number, most significant first. -/
def be16 (n : Nat) : List (BitVec 8) := [BitVec.ofNat 8 (n / 256), BitVec.ofNat 8 n]

/-- CRC-16 with polynomial 1021h, initial value FFFFh (R280). -/
def crc16 (bs : List (BitVec 8)) : Nat :=
  bs.foldl (fun (c : Nat) b => (List.range 8).foldl (fun (c : Nat) _ =>
    if 0x8000 ≤ c then Nat.xor (2 * c % 65536) 0x1021 else 2 * c % 65536) (Nat.xor c (b.toNat * 256))) 0xFFFF

/-- The payload's bytes (R280), for a picture at position `sweep` of its sweep. -/
def EncCtx.payloadBytes (c : EncCtx) (sweep : Nat) : List (BitVec 8) :=
  let on := c.regionCols != 0
  let nc := if on then c.regionCols else 1
  let nr := if on then c.regionRows else 1
  let aligned := c.std != 0 || nc == 1
  let flags := 0x80 + (if aligned then 0x40 else 0) + (if bits (c.w 3) 33 33 = 1 then 0x20 else 0) + (if c.refresh then 0x10 else 0)
  let body := ([1, BitVec.ofNat 8 flags] : List (BitVec 8)) ++ be16 (if on then bits (c.w 3) 55 44 else 0) ++
    be16 (if on then bits (c.w 3) 43 34 else 0) ++ [BitVec.ofNat 8 (nc - 1), BitVec.ofNat 8 (nr - 1)] ++
    (List.range (nc - 1)).flatMap (fun j => be16 (partAt c.cols nc (j + 1) * c.ctb)) ++
    (List.range (nr - 1)).flatMap (fun j => be16 (partAt c.rows nr (j + 1) * c.ctb)) ++
    (if c.refresh then be16 c.period ++ be16 (c.colWidth * c.ctb) ++ be16 sweep else [])
  body ++ be16 (crc16 body)

/-- uuid_iso_iec_11578 of the payload (R279). -/
def marginUuid : List (BitVec 8) :=
  [0x7B, 0x3E, 0x91, 0xC4, 0x0D, 0x5A, 0x4F, 0x26, 0x8E, 0x17, 0xA9, 0xC2, 0x5B, 0x60, 0xD3, 0x84]

/-- Emulation prevention: 03h after two zero bytes before a byte of at most 3. -/
def emulate : Nat → List (BitVec 8) → List (BitVec 8)
  | _, [] => []
  | z, b :: r =>
    if z = 2 ∧ b.toNat ≤ 3 then 3 :: b :: emulate (if b = 0 then 1 else 0) r
    else b :: emulate (if b = 0 then z + 1 else 0) r

/-- The unit that carries the payload (R279): a prefix SEI NAL unit, or a metadata OBU. -/
def EncCtx.payloadUnit (c : EncCtx) (sweep : Nat) : List (BitVec 8) :=
  let p := c.payloadBytes sweep
  if c.std = 3 then
    let n := p.length + 2
    let size : List (BitVec 8) := if n < 128 then [BitVec.ofNat 8 n] else [BitVec.ofNat 8 (128 + n % 128), BitVec.ofNat 8 (n / 128)]
    [0x2A] ++ size ++ [24] ++ p ++ [0x80]
  else
    let n := p.length + 16
    let size : List (BitVec 8) := if n < 255 then [BitVec.ofNat 8 n] else [255, BitVec.ofNat 8 (n - 255)]
    let head : List (BitVec 8) := if c.std = 0 then [0x06] else [0x4E, 0x01]
    [0, 0, 0, 1] ++ head ++ emulate 0 ([5] ++ size ++ marginUuid ++ p ++ [0x80])

/-! ### ENC_OPEN -/

/-- ENC_OPEN, gate 32 (R284, R285). A record outside the channel's buffers is item 0Bh (DESIGN CHOICE). -/
def execEncOpen (t : Nat) (s : State) : Host.Outcome State Fault Refusal :=
  .next (s.gate t (fun s =>
    let a := bits (s.m.gateIn t 2) 35 0
    let ws := s.drams a 8
    let c : EncCtx := { ws := ws, rate := s.drams (bits (nthWord ws 7) 71 36) 6 }
    if (s.m.enc t).isSome then s.ret t 8 0
    else
      let item := if !s.owns t a 8 || s.anyPoison a 8 then 0x0B else s.encItem t c
      if item ≠ 0 then (s.res t 3 item).ret t 8 0
      else (s.onM (fun m => m.setEnc t (some { c with model := { d := c.initD } }))).ret t 0 0))

/-! ### ENC_PICTURE (R286) -/

/-- Does a source descriptor fit the context (R286)? -/
def State.sourceOk (s : State) (n : Nat) (c : EncCtx) (a : Nat) : Bool :=
  let w0 := s.dram a
  let w2 := s.dram (a + 2)
  s.owns n a 5 && !s.anyPoison a 5 && bits w2 71 56 == c.width && bits w2 55 40 == c.height && bits w0 35 32 == c.chroma &&
    bits w0 27 24 == c.packing && decide (bits w0 31 28 ≤ c.depth)

/-- The lowest slot that no picture holds (R226, R286). -/
def EncCtx.freeSlot (c : EncCtx) : Option Nat :=
  (List.range c.slots).find? (fun k => !c.pics.any (fun p => p.slot == k && (p.live || p.isRef)))

/-- Is an IDR picture or key frame due (R284, R291, R298)? -/
def EncCtx.idrDue (c : EncCtx) : Bool :=
  c.first || c.forceIdr || c.ask == 1 || (c.idrPeriod != 0 && decide (c.idrPeriod ≤ c.sinceIdr))

/-- The source that is coded now, and the sources that stay (R286): under low delay the one offered, under HIER_B firmware's
choice among those held. -/
def EncCtx.pickSource (c : EncCtx) (code : Option Nat) : Option (EncSource × List EncSource) :=
  let k := if c.gopMode = 2 then code else c.held.head?.map (·.idx)
  match k with
  | none => none
  | some k => match c.held.find? (fun x => x.idx == k) with
    | some x => some (x, c.held.filter (fun y => y.idx != k))
    | none => none

/-- The reference pictures, newest first. -/
def EncCtx.refTags (c : EncCtx) : List Nat := (c.pics.filter (·.isRef)).reverse.map (·.tag)

/-- The TYPE of the picture coded now (R286, R289). -/
def EncCtx.nextType (c : EncCtx) (ptype : Nat) : Nat :=
  if c.idrDue then 0
  else if c.gopMode = 0 then 2 else if c.gopMode = 1 then 3
  else if 2 ≤ ptype ∧ ptype ≤ 5 ∧ (ptype ≠ 5 ∨ c.std = 3) then ptype else 2

/-- The picture that is coded now, with the context that has it (R274, R286, R291). -/
def EncCtx.startPic (c : EncCtx) (x : EncPlan) (src : EncSource) (slot outA outN : Nat) : EncPic × EncCtx :=
  let ty := c.nextType x.ptype
  let idr := ty == 0
  let pos := if c.ask = 2 then 0 else c.sweepPos
  let sweep := if c.refresh && !idr then some pos else none
  let start := sweep == some 0
  let c := c.takeRate (idr || (c.refresh && start))
  let refs := if idr then [] else if c.gopMode = 2 then (x.refs.filter (smem c.refTags)).take c.refs else c.refTags.take c.refs
  let unref := if idr then c.refTags else if c.gopMode = 2 then x.unref else c.refTags.drop (c.refs - 1)
  let need := !(c.mode == 2 && bits (c.r 3) 39 36 == 0 && c.maxRate == 0)
  let pay := (c.regionCols != 0 || c.refresh) && (idr || start || bits (c.w 3) 32 32 == 1)
  let qp := if need then 0 else c.pictureQp (rateType ty) (rateType ty) 0 0 false none
  let p : EncPic := { tag := c.nextTag, ord := c.order, slot := slot, ptype := ty, pts := src.pts, refs := refs, unref := unref, isRef := ty != 4, sweep := sweep, sweepStart := start, forced := c.ask != 0, payload := pay, header := x.headerBytes, outA := outA, outN := outN, units := c.encUnits outN (c.cap x.headerBytes), needSearch := !idr, needRate := need, qp := qp, qpMin := qp, qpMax := qp }
  (p, { c with pics := c.pics ++ [p], nextTag := (c.nextTag + 1) % 2 ^ 32, first := false, forceIdr := false, ask := 0, sinceIdr := if idr then 1 else c.sinceIdr + 1, sweepPos := if idr then 0 else if c.refresh then (pos + 1) % max 1 c.period else 0 })

/-- The two words of an encode slot table entry (R292): LUMA_ADDR, SIDE_ADDR, PYR_ADDR and MOTION_ADDR. -/
def State.encSlot (s : State) (c : EncCtx) (k : Nat) : Nat × Nat × Nat × Nat :=
  let a := s.dram (c.tableA + 2 * k)
  let b := s.dram (c.tableA + 2 * k + 1)
  (bits a 71 36, bits a 35 0, bits b 71 36, bits b 35 0)

/-- PITCH_Y and PITCH_C of a context's slots (R223, R292). -/
def EncCtx.pitches (c : EncCtx) : Nat × Nat :=
  (ceilDiv (ceilDiv c.width (lanesOf c.packing)) 8 * 8,
    if c.chroma = 0 then 0 else ceilDiv (ceilDiv (ceilDiv c.width (chromaSub c.chroma).1) (lanesOf c.packing)) 8 * 8)

/-- A SEARCH block (R293). The engines are the declared SEARCH demand by 703 Mpixel/s, as R218 has it for pipes (DEDUCED). -/
def State.searchBlock (s : State) (n : Nat) (c : EncCtx) (p : EncPic) (desc param : Nat) : List Word :=
  let e := s.encSlot c p.slot
  let w1 := s.dram (desc + 1)
  let refs := p.refs.filterMap (fun (r : Nat) => c.pics.find? (fun q => q.tag == r))
  let engines := max 1 (min 4 (ceilDiv (bits (s.m.rd (CHAN_DEMAND0_addr n)) 23 12) 703))
  let qp := tget (fun _ => c.qpInit) c.model.lastQp (rateType p.ptype)
  [Word.of (at_ 71 64 1 + at_ 63 60 c.std + at_ 55 53 refs.length + at_ 52 51 (engines - 1) + at_ 50 49 (bits (c.w 1) 29 28)
      + at_ 48 17 p.tag + at_ 15 0 (lambdaM qp)),
    Word.of (at_ 71 36 (bits w1 71 36) + at_ 35 24 (bits w1 35 24)),
    Word.of (at_ 71 36 e.2.2.1 + at_ 35 0 e.2.2.2),
    Word.of (at_ 71 36 param + at_ 35 24 (bits (c.w 1) 27 16) + at_ 23 14 (bits (c.w 1) 15 6))] ++
    refs.map (fun r => let q := s.encSlot c r.slot; Word.of (at_ 71 36 q.1 + at_ 35 0 q.2.2.1))

/-- A RATE block (R301). -/
def State.rateBlock (s : State) (c : EncCtx) (p : EncPic) (desc param : Nat) : List Word :=
  let w1 := s.dram (desc + 1)
  [Word.of (at_ 71 64 1 + at_ 63 60 c.std + at_ 59 28 p.tag),
    Word.of (at_ 71 36 (bits w1 71 36) + at_ 35 24 (bits w1 35 24)),
    Word.of (at_ 71 36 (if p.needSearch then (s.encSlot c p.slot).2.2.2 else 0) + at_ 35 0 param), 0]

/-- A RECON_ENC block (R294). -/
def State.reconEncBlock (s : State) (n : Nat) (c : EncCtx) (p : EncPic) (desc param : Nat) : List Word :=
  let e := s.encSlot c p.slot
  let w1 := s.dram (desc + 1)
  let refs := p.refs.filterMap (fun (r : Nat) => c.pics.find? (fun q => q.tag == r))
  [Word.of (at_ 71 64 1 + at_ 63 60 c.std + at_ 59 55 refs.length + at_ 54 52 (s.m.pipesFor n) + at_ 51 20 p.tag
      + at_ 19 18 c.effort),
    Word.of (at_ 71 36 e.1 + at_ 35 24 c.pitches.1 + at_ 23 12 c.pitches.2),
    Word.of (at_ 71 36 e.2.1 + at_ 35 0 param),
    Word.of (at_ 71 36 (bits w1 71 36) + at_ 35 24 (bits w1 35 24) + at_ 23 12 (bits w1 23 12)),
    Word.of (at_ 71 36 e.2.2.2)] ++
    refs.map (fun r => let q := s.encSlot c r.slot; Word.of (at_ 71 36 q.1 + at_ 35 0 q.2.1))

/-- ENC_PICTURE codes a picture now (R286): its blocks, tag and lengths. -/
def State.codeNow (s : State) (t : Nat) (c : EncCtx) (x : EncPlan) (src : EncSource) (slot outA outN : Nat) : State :=
  let r := c.startPic x src slot outA outN
  let p := r.1
  let depth := bits (s.dram src.desc) 31 28
  let c := r.2.modPic p.tag (fun p => { p with srcDepth := depth })
  let param := c.workA + x.paramOff % 32768
  let sa := c.workA + x.searchOff % 32768
  let ra := c.workA + x.rateOff % 32768
  let ea := c.workA + x.reconOff % 32768
  let sb := s.searchBlock t c p src.desc param
  let eb := s.reconEncBlock t c p src.desc param
  let rb := s.rateBlock c p src.desc param
  let s := (x.params.filter (fun e => decide (e.1 < 32768))).foldl (fun (s : State) e => s.store .device (c.workA + e.1) e.2 false) s
  let s := if p.needSearch then s.fw sa sb else s
  let s := if p.needRate then s.fw ra rb else s
  let s := s.fw ea eb
  let s := s.onM (fun m => (if p.forced then m.incW (ENC_CHAN_COUNTS_FORCED t) else m).setEnc t (some c))
  (((((s.res t 2 (if p.needSearch then sa else 0)).res t 3 (if p.needRate then ra else 0)).res t 4 ea).res t 5 p.tag).res t 6
    ((if p.needSearch then sb.length else 0) + (if p.needRate then at_ 15 8 4 else 0) + at_ 23 16 eb.length)).ret t 0 0x0B

/-- ENC_PICTURE, gate 33 (R286). -/
def execEncPicture (t : Nat) (x : EncPlan) (s : State) : Host.Outcome State Fault Refusal :=
  .next (s.gate t (fun s =>
    let desc := (s.m.gateIn t 2).toNat % 2 ^ 36
    let outA := bits (s.m.gateIn t 4) 35 0
    let outN := (s.m.gateIn t 5).toNat
    match s.m.enc t with
    | none => s.ret t 8 0
    | some c =>
      if decide (outN < 2048) || !s.owns t outA outN || (desc != 0 && !s.sourceOk t c desc) then s.ret t 8 0
      else match c.freeSlot with
        | none => s.ret t 7 0
        | some slot =>
          if 4 ≤ (c.pics.filter (·.live)).length then s.ret t 7 0
          else
            let c := if desc = 0 then c else { c with held := c.held ++ [⟨c.nextSrc, desc, s.m.gateIn t 3⟩], nextSrc := c.nextSrc + 1, flushed := false }
            match c.pickSource x.code with
            | some (src, rest) => s.codeNow t { c with held := rest } x src slot outA outN
            | none => (s.onM (fun m => m.setEnc t (some c))).ret t 0 (if desc = 0 then 0x0A else 0x0C)))

/-! ### ENC_NEXT, ENC_UNIT_DONE (R283, R288, R295) -/

/-- ENC_NEXT, gate 34 (R283): W2 names the picture. -/
def execEncNext (t off : Nat) (s : State) : Host.Outcome State Fault Refusal :=
  .next (s.gate t (fun s =>
    let tag := (s.m.gateIn t 2).toNat
    match (s.m.enc t), (s.m.enc t).bind (fun c => c.pic tag) with
    | some c, some p => match p.units[p.given]? with
      | none => (s.res t 5 tag).ret t 0 3
      | some u =>
        let a := c.workA + off % 32766
        let s := s.fw a [Word.of (at_ 71 64 1 + at_ 63 60 c.std + at_ 59 56 u.kind + at_ 55 24 tag + at_ 23 12 u.firstRow + at_ 11 0 u.rows),
          Word.of (at_ 71 36 (p.outA + u.start / 9) + at_ 35 32 (u.start % 9) + at_ 31 0 u.len), Word.of (at_ 71 36 c.workA)]
        let s := s.onM (fun m => m.setEnc t (some (c.modPic tag (fun p => { p with given := p.given + 1 }))))
        ((((s.res t 3 a).res t 4 p.given).res t 5 tag).res t 6 3).ret t 0 0
    | _, _ => s.ret t 8 0))

/-- A fragment (R288) from a byte position and a length. -/
def fragment (byte len : Nat) : Word := Word.of (at_ 71 36 (byte / 9) + at_ 35 32 (byte % 9) + at_ 31 0 len)

/-- Fragments of header bytes in the first 1,024 words of the output buffer (R286). -/
def EncPic.headFrags (p : EncPic) (heads : List (Nat × Nat)) : List Word :=
  (heads.filter (fun h => decide (h.1 + h.2 ≤ 9216))).map (fun h => fragment (9 * p.outA + h.1) h.2)

/-- Header words that firmware writes in the first 1,024 words of the output buffer. -/
def State.headWords (s : State) (p : EncPic) (words : List (Nat × Word)) : State :=
  (words.filter (fun e => decide (e.1 < 1024))).foldl (fun (s : State) e => s.store .device (p.outA + e.1) e.2 false) s

/-- The units of the tile group that unit u ends, u included (R288). -/
def EncPic.group (p : EncPic) (u : Nat) : List EncUnit :=
  let before := (p.units.take u).reverse.takeWhile (fun x => !x.lastOfGroup)
  before.reverse ++ (p.units.drop u).take 1

/-- ENC_UNIT_DONE, gate 35 (R288): `off` and `payAt` are where in the first 1,024 words firmware puts the list and the unit of the
margin payload. -/
def execEncUnitDone (t off payAt : Nat) (heads : List (Nat × Nat)) (words : List (Nat × Word)) (s : State) :
    Host.Outcome State Fault Refusal :=
  .next (s.gate t (fun s =>
    let tag := (s.m.gateIn t 2).toNat
    let k := (s.m.gateIn t 3).toNat
    match (s.m.enc t), (s.m.enc t).bind (fun c => c.pic tag) with
    | some c, some p => match p.units[k]? with
      | none => s.ret t 8 0
      | some u =>
        if u.done.isNone then s.ret t 7 0
        else if !u.lastOfGroup then s.ret t 0 0x0A
        else
          let us := p.group k
          let s := s.headWords p words
          let s := if k + 1 = us.length ∧ p.payload = true then s.putBytes 64 (9 * p.outA + payAt % 8192) (c.payloadUnit (p.sweep.getD 0)) else s
          let frags := p.headFrags heads ++ us.map (fun u => fragment (9 * p.outA + u.start) (match u.done with | some d => d.1 | none => 0))
          let a := p.outA + off % 1024
          let last := k + 1 == p.units.length
          let s := s.fw a (Word.of (at_ 71 40 tag + at_ 39 28 k + at_ 27 16 frags.length + at_ 15 15 (if last then 1 else 0)) :: frags)
          let s := s.onM (fun m => m.setEnc t (some (c.modPic tag (fun p => { p with units := p.units.modify k (fun u => { u with frags := some frags }) }))))
          (s.res t 2 a).ret t 0 9
    | _, _ => s.ret t 8 0))

/-! ### ENC_PIC_DONE (R289, R290, R322) -/

/-- The statistics record (R322). -/
def EncCtx.statWords (c : EncCtx) (p : EncPic) (dropped : Bool) (bytes filler : Nat) (full : Rat) : List Word :=
  [Word.of (at_ 71 40 p.tag + at_ 39 32 p.ptype + at_ 31 26 p.qp + at_ 25 20 p.qpMin + at_ 19 14 p.qpMax
      + at_ 13 13 (if p.scene then 1 else 0) + at_ 12 12 (if dropped then 1 else 0) + at_ 11 11 (if p.overshoot then 1 else 0)
      + at_ 10 10 (if 0 < filler then 1 else 0)),
    Word.of (at_ 71 36 (8 * bytes) + at_ 35 0 (if c.mode = 2 then 0 else p.target.floor.toNat)),
    Word.of (at_ 71 36 full.floor.toNat + at_ 35 0 filler),
    Word.of (at_ 71 36 p.intra + at_ 35 0 p.inter)]

/-- The statistics record is written to the ring (R322). -/
def State.putStats (s : State) (c : EncCtx) (p : EncPic) (dropped : Bool) (bytes filler : Nat) (full : Rat) : State :=
  if c.statsN = 0 then s else s.fw (c.statsA + 4 * (c.order % c.statsN)) (c.statWords p dropped bytes filler full)

/-- The fullness that the rate registers show (R322): D, or Q in LIVE_ROW. -/
def EncCtx.fullness (c : EncCtx) (r : RateModel) : Rat := if c.mode = 3 then r.q else r.d

/-- A dropped picture leaves the stream (R290, R319). -/
def State.encDrop (s : State) (t : Nat) (c : EncCtx) (p : EncPic) : State :=
  let r := c.model.afterDrop (rateType p.ptype) p.qp
  let s := s.putStats c p true 0 0 (c.fullness r)
  let s := s.onM (fun m => (m.incW (ENC_CHAN_COUNTS_DROPPED t)).setEnc t
    (some { c with pics := c.pics.filter (fun q => !(q.tag == p.tag && q.live)), model := r, sweepPos := p.sweep.getD c.sweepPos, forceIdr := c.forceIdr || p.ptype == 0, sinceIdr := c.sinceIdr - 1 }))
  s.ret t 0 0x0D

/-- A finished picture (R289): the references, the rate state, the counters, the descriptor. -/
def State.encFinish (s : State) (t off : Nat) (c : EncCtx) (p : EncPic) (heads : List (Nat × Nat)) (filler : Nat) : State :=
  let frags := p.units.flatMap (fun u => u.frags.getD (if u.lastOfGroup then [fragment (9 * p.outA + u.start) (match u.done with | some d => d.1 | none => 0)] else [])) ++ p.headFrags heads
  let bytes := (frags.map (fun f => bits f 31 0)).sum
  let k := rateType p.ptype
  let period := c.hrd && p.ptype == 0
  let r := c.modelAfter k p.qp (if k = 0 then p.intra else p.inter) bytes filler period
  let rm := { r.1 with prevInter := p.inter }
  let n := c.sweepLen
  let recovered := p.sweep == some (n - 1)
  let a := p.outA + off % 1024
  let s := s.putStats c p false bytes r.2 (c.fullness rm)
  let s := s.fw a ([Word.of (at_ 71 40 p.tag + at_ 39 32 p.ptype + at_ 31 31 (if p.sweepStart then 1 else 0)
      + at_ 30 30 (if recovered then 1 else 0) + at_ 29 29 (if p.payload then 1 else 0) + at_ 28 28 (if p.ptype = 5 then 0 else 1)
      + at_ 27 16 frags.length),
    p.pts, Word.of (at_ 71 40 bytes + at_ 39 0 c.order)] ++ frags)
  let pics := (c.pics.map (fun q => if q.tag == p.tag && q.live then { q with live := false } else if smem p.unref q.tag then { q with isRef := false } else q)).filter (fun q => q.live || q.isRef)
  let s := s.onM (fun m =>
    let m := (m.incW (ENC_CHAN_COUNTS_PICTURES t)).countK (ENC_CHAN_WORK_KBYTES t) false bytes
    let m := if recovered then m.incW (ENC_CHAN_COUNTS_SWEEPS t) else m
    let m := if 0 < r.2 then m.incW (RC_CHAN_COUNTS_FILLER_PICS t) else m
    let m := (m.p (RC_CHAN_STATE_QP_LAST t) p.qp).p (RC_CHAN_STATE_FULLNESS t) ((c.fullness rm) / 16).floor.toNat
    m.setEnc t (some { c with pics := pics, model := rm, order := c.order + 1 }))
  (s.res t 2 a).ret t 0 9

/-- ENC_PIC_DONE, gate 36 (R289): BUSY until the picture's RECON_ENC and every ENTROPY_ENC have completed; DROPPED where one
filled its region or ran without what it needs (R287, R290, R302). `filler`: the filler bytes among the fragments. -/
def execEncPicDone (t off : Nat) (heads : List (Nat × Nat)) (filler : Nat) (words : List (Nat × Word)) (s : State) :
    Host.Outcome State Fault Refusal :=
  .next (s.gate t (fun s =>
    let tag := (s.m.gateIn t 2).toNat
    match (s.m.enc t), (s.m.enc t).bind (fun c => c.pic tag) with
    | some c, some p =>
      if !p.reconDone || !p.units.all (fun u => u.done.isSome) then s.ret t 7 0
      else
        let s := s.headWords p words
        if p.failed then s.encDrop t c p else s.encFinish t off c p heads filler
    | _, _ => s.ret t 8 0))

/-! ### ENC_REFRESH, ENC_FLUSH, ENC_CLOSE (R282, R291) -/

/-- ENC_REFRESH, gate 37 (R291): two requests merge, and an IDR picture wins. -/
def execEncRefresh (t : Nat) (s : State) : Host.Outcome State Fault Refusal :=
  .next (s.gate t (fun s =>
    let sweep := bits (s.m.gateIn t 2) 0 0 == 1
    match s.m.enc t with
    | none => s.ret t 8 0
    | some c =>
      if sweep && !c.refresh then s.ret t 8 0
      else (s.onM (fun m => m.setEnc t (some { c with ask := if !sweep || c.ask == 1 then 1 else 2 }))).ret t 0 0))

/-- ENC_FLUSH, gate 38 (R282). -/
def execEncFlush (t : Nat) (s : State) : Host.Outcome State Fault Refusal :=
  .next (s.gate t (fun s =>
    match s.m.enc t with
    | none => s.ret t 8 0
    | some c => (s.onM (fun m => m.setEnc t (some { c with flushed := true }))).ret t 0 0))

/-- ENC_CLOSE, gate 39 (R282). -/
def execEncClose (t : Nat) (s : State) : Host.Outcome State Fault Refusal :=
  .next (s.gate t (fun s =>
    if (s.m.enc t).isNone then s.ret t 8 0
    else if [2, 3, 9, 0x10, 0x18].any (fun q => s.m.queueBusy q t) then s.ret t 7 0
    else (s.onM (fun m => m.setEnc t none)).ret t 0 0))

end Sys2Proof.Machine
end

