-- ==== Sys2Proof/Machine/Engines.lean ====
section
/-!
DEFINITION. Machine/Engines.lean: what engine instances share (R137, R138, R659, R660): eligibility, order, staging slots (R33, R221),
metering (R220, R299); and the entropy engines (R216, R230, R232, R241, R250, R295).
-/

namespace Sys2Proof.Machine

/-! ### Which work an instance takes (R137, R138) -/

/-- Has the thread's previous ticket on the queue completed, where ORDERED asks it (R138)? -/
def Dev.orderedOk (m : Dev) (e : QEntry) : Bool :=
  !Nat.testBit e.flags 0 || !(m.th e.t).tickets.any (fun k => k.word == e.prev && k.done.isNone)

/-- The units a Live channel may use in one 1 ms window: 1.25 × its declared demand (R220, R299); kind 0 bins, 1 luma sample
positions, 2 search positions, 3 scaler units (R340). -/
def Dev.meterLimit (m : Dev) (n kind : Nat) : Nat :=
  let w := m.rd (CHAN_DEMAND0_addr n)
  (if kind = 0 then bits w 55 40 else if kind = 1 then bits w 71 56 else if kind = 2 then bits w 23 12 else bits w 11 0) * 1250

/-- Has a Live channel used more than that in this window? -/
def Dev.overNow (m : Dev) (n kind : Nat) : Bool := decide (kind < 4) && decide (m.meterLimit n kind < tget (fun _ => 0) m.meter (4 * n + kind))

/-- Meter a Live channel's use (R220, R299). -/
def Dev.meterUse (m : Dev) (n kind x : Nat) : Dev :=
  if n < 512 ∧ m.isLive n = true then { m with meter := tmod (fun _ => 0) m.meter (4 * n + kind) (· + x) } else m

/-- The rank of work: Live first; that of a Live channel over its demand yields to other Live work, and the pipes no longer prefer
it to Play and Bulk work (R137, R220). -/
def Dev.rank (m : Dev) (kind : Nat) (e : QEntry) : Nat :=
  if e.cls ≠ 0 then 2 else if e.t < 512 ∧ m.overNow e.t kind = true then (if kind = 1 then 2 else 1) else 0

/-- The work an instance takes: the best rank, then the oldest ENQ (R137). -/
def Dev.pickWork (m : Dev) (kind : Nat) (l : List QEntry) : Option QEntry :=
  l.foldl (fun b e => match b with
    | none => some e
    | some x => if m.rank kind e < m.rank kind x ∨ (m.rank kind e = m.rank kind x ∧ e.order < x.order) then some e else b) none

/-- The entry leaves its queue: an instance starts it (R659). -/
def Dev.unqueue (m : Dev) (q : Nat) (e : QEntry) : Dev := m.setQueue q ((m.queue q).filter (fun x => x.order != e.order))

/-- The queue, of a list, that holds an entry. -/
def Dev.queueOf (m : Dev) (qs : List Nat) (e : QEntry) : Nat :=
  (qs.find? (fun q => (m.queue q).any (fun x => x.order == e.order))).getD 0

/-- The entries of some queues that may start. -/
def Dev.waiting (m : Dev) (qs : List Nat) : List QEntry := (qs.flatMap m.queue).filter m.orderedOk

/-- Started work that instances take in turns, by queue, thread and a test on the first block word. -/
def Dev.findRun (m : Dev) (q t : Nat) (f : Word → Bool) : Option (Nat × Run) :=
  match m.running.find? (fun k => decide (65536 ≤ k.1) && (match k.2 with
    | some r => r.queue == q && r.e.t == t && f (nthWord r.e.block 0) | none => false)) with
  | some (k, some r) => some (k, r)
  | _ => none

/-- May an engine working for thread t reach these words (R241)? A service context is not bound to a channel's buffers. -/
def State.engOwns (s : State) (t a n : Nat) : Bool := decide (512 ≤ t) || s.owns t a n

/-- Is a word of an area poisoned? -/
def State.poisonIn (s : State) (a n : Nat) : Bool := s.mem.dramBad.any (fun e => decide (a ≤ e.1) && decide (e.1 < a + n) && e.2)

/-- A ticket completes and what waits for the end of the work goes on (R141, R173, R175). -/
def State.finishWork (s : State) (e : QEntry) (status engine result : Nat) : State :=
  let s := s.onM (fun m => (m.complete e status engine result).showEngines e.t)
  let s := s.killPoll e.t
  if e.t < 512 then s.swapPoint e.t else s

/-! ### Staging slots (R33, R221, R264) -/

/-- The key of a picture whose row data lies in a slot. -/
def stageKey (t tag : Nat) (enc : Bool) : Nat := 1 + (t * 2 + (if enc then 1 else 0)) * 2 ^ 32 + tag

/-- LIVE_SLOTS of the usable slots, at most half, serve queue 01h alone (R221): the first ones (DESIGN CHOICE). -/
def Dev.slotsFor (m : Dev) (q : Nat) : List Nat :=
  let l := m.stageSlots
  let k := min (m.g DEC_STAGE_CTRL_LIVE_SLOTS) (l.length / 2)
  if q = 1 then l.take k else l.drop k

/-- The banks of a slot. -/
def Dev.slotBanks (m : Dev) (k : Nat) : List Nat := (List.range m.stageBanks.2.2).map (fun i => m.stageBanks.1 + k * m.stageBanks.2.2 + i)

/-- The lowest slot of a queue that no engine holds. -/
def Dev.stageFree (m : Dev) (q : Nat) : Option Nat :=
  (m.slotsFor q).find? (fun k => (m.slotBanks k).all (fun b => m.g (VAULT_OWNER_OWNER b) == 0xFFF))

/-- A slot's banks pass to an engine, or to none (R33, R452). -/
def Dev.stageGive (m : Dev) (k code : Nat) : Dev := (m.slotBanks k).foldl (fun m b => m.p (VAULT_OWNER_OWNER b) code) m

/-- A slot holds a picture's row data, or none. -/
def Dev.stageMark (m : Dev) (k key : Nat) : Dev := { m with stage := tput (fun _ => 0) m.stage k key }

/-- The lowest slot that holds row data of a picture. -/
def Dev.stageOf (m : Dev) (key : Nat) : Option Nat := (m.stage.find? (fun e => e.2 == key)).map (·.1)

/-- The lowest slot with a picture's row data goes free. -/
def Dev.stageNext (m : Dev) (key : Nat) : Dev :=
  match m.stageOf key with
  | some k => (m.stageGive k 0xFFF).stageMark k 0
  | none => m

/-- Every slot with a picture's row data goes free. -/
def Dev.stageClear (m : Dev) (key : Nat) : Dev :=
  (m.stage.filter (fun e => e.2 == key)).foldl (fun (m : Dev) (e : Nat × Nat) => (m.stageGive e.1 0xFFF).stageMark e.1 0) m

/-- An entropy engine takes a slot for its next row if one is free; it notes the slot plus 1 in its work. -/
def Dev.stageTake (m : Dev) (e q : Nat) : Dev × Nat :=
  match m.stageFree q with
  | some k => (m.stageGive k (0x100 + e), k + 1)
  | none => (m, 0)

/-- An entropy engine lets go of the slot of its present row. -/
def Dev.stageDrop (m : Dev) (r : Run) : Dev := if r.n2 = 0 then m else m.stageGive (r.n2 - 1) 0xFFF

/-! ### Entropy engines -/

/-- ENT_STATUS of an engine that starts or ends a unit. -/
def Dev.entShow (m : Dev) (e : Nat) (r : Option Run) : Dev :=
  match r with
  | none => m.p (ENT_STATUS_BUSY e) 0
  | some r => (((m.p (ENT_STATUS_BUSY e) 1).p (ENT_STATUS_CHANNEL e) (bits r.e.ticket 62 54)).p (ENT_STATUS_STANDARD e)
      (bits (nthWord r.e.block 0) 63 60)).pb (ENT_STATUS_ENCODE e) (decide (2 ≤ r.queue))

/-- The queues an entropy engine serves (R137). -/
def entropyQueues (e : Nat) : List Nat := if e < 20 then [0, 2] else [1, 3]

/-- May a channel's unit start on one more engine (R214, R263)? -/
def Dev.entropyCap (m : Dev) (q t : Nat) : Bool :=
  decide (m.entropyOf (if q ≤ 1 then 0 else 2) (if q ≤ 1 then 1 else 3) t < (if q % 2 = 1 then 4 else 8))

/-- The words that an ENTROPY_DEC block names lie in the channel's buffers (R241). -/
def State.entropyBounds (s : State) (e : QEntry) : Bool :=
  let w1 := nthWord e.block 1
  let w3 := nthWord e.block 3
  s.engOwns e.t (bits w1 71 36) (max 1 (ceilDiv (bits w1 35 32 + bits w1 31 0) 9)) &&
    (bits w3 35 0 == 0 || s.engOwns e.t (bits w3 71 36) (bits w3 35 0)) && s.engOwns e.t (bits (nthWord e.block 2) 71 36) 1

/-- A RECON_DEC whose regional picture has no SEAM work (R364), found when its first ENTROPY_DEC starts (DEDUCED): it completes with
STREAM_ERROR and 27h in [39:32], and the picture is not output. -/
def State.noSeam (s : State) (t tag : Nat) : State :=
  match s.m.dec t with
  | none => s
  | some c =>
    if c.region.isNone || (match c.pic tag with | some p => decide (0 < p.ended) | none => true) || s.m.hasWork 0x30 t (tagIs 59 28 tag) then s
    else
      let gone := (s.m.queue 8).find? (fun e => e.t == t && tagIs 51 20 tag (nthWord e.block 0))
      let s := s.onM (fun m => m.setDec t (some (c.modPic tag (fun p => { p with closed := true, bad := true, wait := false }))))
      match gone, s.m.findRun 8 t (tagIs 51 20 tag) with
      | some e, _ => (s.onM (fun m => m.unqueue 8 e)).finishWork e 1 0 (at_ 39 32 0x27)
      | none, some (k, r) =>
        let s := s.onM (fun m => { (m.setRun k none) with segs := m.segs.filter (fun x => x.2 != r.e.order + 1) })
        s.finishWork r.e 1 r.inst (at_ 39 32 0x27)
      | none, none => s

/-- An entropy engine starts a decode unit (R230, R241). -/
def State.entropyStart (s : State) (e q : Nat) (x : QEntry) : State :=
  let tag := bits (nthWord x.block 0) 55 24
  let s := s.noSeam x.t tag
  if !s.m.hasWork 8 x.t (tagIs 51 20 tag) then (s.onM (fun m => m.unqueue q x)).finishWork x 1 e (at_ 39 32 0x20)
  else if !s.entropyBounds x then (s.onM (fun m => m.unqueue q x)).finishWork x 4 e 0
  else match s.m.stageFree q with
    | none => s
    | some _ => s.onM (fun m =>
      let r := (m.unqueue q x).stageTake e q
      let run : Run := { e := x, queue := q, n2 := r.2 }
      ((r.1.setRun e (some run)).entShow e (some run)).showEngines x.t)

/-- The place of an ENTROPY_ENC block's unit in its picture, by its region. -/
def EncPic.unitAt (p : EncPic) (b : List Word) : Nat :=
  let w1 := nthWord b 1
  p.units.findIdx (fun u => 9 * p.outA + u.start == 9 * bits w1 71 36 + bits w1 35 32)

/-- A unit of an encoded picture is done: its bytes and ERR_KIND (R288, R290, R297). -/
def Dev.unitDone (m : Dev) (x : QEntry) (bytes err : Nat) : Dev :=
  let tag := bits (nthWord x.block 0) 55 24
  match m.enc x.t with
  | none => m
  | some c => m.setEnc x.t (some (c.modPic tag (fun p =>
      { p with failed := p.failed || err != 0, units := p.units.modify (p.unitAt x.block) (fun u => { u with done := some (bytes, err) }) })))

/-- An entropy engine starts an encode unit (R287, R295). -/
def State.entropyEncStart (s : State) (e q : Nat) (x : QEntry) : State :=
  let tag := bits (nthWord x.block 0) 55 24
  let w1 := nthWord x.block 1
  let done := match (s.m.enc x.t).bind (fun c => c.pic tag) with | some p => p.reconDone | none => false
  if !done && !s.m.hasWork 9 x.t (tagIs 51 20 tag) then
    (s.onM (fun m => (m.unqueue q x).unitDone x 0 0x20)).finishWork x 1 e (at_ 39 32 0x20)
  else if !s.engOwns x.t (bits w1 71 36) (max 1 (ceilDiv (bits w1 35 32 + bits w1 31 0) 9)) then
    (s.onM (fun m => (m.unqueue q x).unitDone x 0 0x22)).finishWork x 4 e 0
  else s.onM (fun m =>
    let m := m.unqueue q x
    let m := (m.stage.filter (fun k => k.2 == stageKey x.t tag true)).foldl (fun (m : Dev) (k : Nat × Nat) => m.stageGive k.1 (0x100 + e)) m
    let run : Run := { e := x, queue := q }
    ((m.setRun e (some run)).entShow e (some run)).showEngines x.t)

/-- A free entropy engine takes work. -/
def State.takeEntropy (s : State) (e : Nat) : State :=
  if (s.m.run e).isSome then s
  else
    let qs := entropyQueues e
    let l := (s.m.waiting qs).filter (fun x => s.m.entropyCap (s.m.queueOf qs x) x.t)
    match s.m.pickWork 0 l with
    | none => s
    | some x =>
      let q := s.m.queueOf qs x
      if q ≤ 1 then s.entropyStart e q x else s.entropyEncStart e q x

/-- Bins are counted (ENT_STATUS, DEC_CHAN_WORK, ENC_CHAN_SEARCH) and metered (R220). -/
def Dev.binsUsed (m : Dev) (e : Nat) (r : Run) (bins : Nat) : Dev :=
  let m := m.countK (ENT_STATUS_KBINS e) true bins
  if 512 ≤ r.e.t then m
  else (m.countK (if r.queue ≤ 1 then DEC_CHAN_WORK_KBINS r.e.t else ENC_CHAN_SEARCH_KBINS r.e.t) false bins).meterUse r.e.t 0 bins

/-- An entropy engine is free again, and its ticket completes. -/
def State.entropyEnd (s : State) (e : Nat) (r : Run) (status result : Nat) : State :=
  (s.onM (fun m => ((m.stageDrop r).setRun e none).entShow e none)).finishWork r.e status e result

/-- Abandoned entropy work ends at a row end (R156, R660). -/
def State.entropyCut (s : State) (e : Nat) (r : Run) : State :=
  (s.onM (fun m => ((m.stageDrop r).entShow e none).abandonRun e r)).killPoll r.e.t

/-- A decode row ends (R33, R216, R221): the slot passes to the pipe; data past the slot is written to the spill area. -/
def State.decRowEnd (s : State) (e : Nat) (r : Run) (bins pipe : Nat) (spill : List Word) : State :=
  let w3 := nthWord r.e.block 3
  let tag := bits (nthWord r.e.block 0) 55 24
  let s := s.onM (fun m => m.binsUsed e r bins)
  let r := { r with n1 := r.n1 + bins }
  if bits w3 35 0 < spill.length then s.entropyEnd e r 1 (at_ 55 40 r.rows + at_ 39 32 0x21 + min r.n1 (2 ^ 32 - 1))
  else
    let s := s.fw (bits w3 71 36) spill
    let s := s.onM (fun m =>
      let m := if spill.isEmpty || decide (512 ≤ r.e.t) then m else m.incW (DEC_CHAN_COUNTS_SPILLS r.e.t)
      (m.stageGive (r.n2 - 1) (0x200 + pipe % 8)).stageMark (r.n2 - 1) (stageKey r.e.t tag false))
    let r := { r with rows := r.rows + 1, n2 := 0 }
    if r.abandon then s.entropyCut e r
    else s.onM (fun m =>
      let k := m.stageTake e r.queue
      k.1.setRun e (some { r with n2 := k.2 }))

/-- An encode row ends (R264): the slot that held it goes free. -/
def State.encRowEnd (s : State) (e : Nat) (r : Run) (bins : Nat) : State :=
  let tag := bits (nthWord r.e.block 0) 55 24
  let s := s.onM (fun m => (m.binsUsed e r bins).stageNext (stageKey r.e.t tag true))
  let r := { r with rows := r.rows + 1 }
  if r.abandon then s.entropyCut e r else s.onM (fun m => m.setRun e (some r))

/-- ENTROPY_ROW_END (R33, R264): an engine without a slot takes one first, and waits if none is free. -/
def execEntropyRowEnd (e bins pipe : Nat) (spill : List Word) (s : State) : Host.Outcome State Fault Refusal :=
  .next (if !s.m.coreUp then s else match if e < 24 then s.m.run e else none with
    | none => s
    | some r =>
      if bits (nthWord r.e.block 0) 11 0 ≤ r.rows then s
      else if 2 ≤ r.queue then s.encRowEnd e r bins
      else if r.n2 ≠ 0 then s.decRowEnd e r bins pipe spill
      else
        let k := s.m.stageTake e r.queue
        if k.2 = 0 then s else ({ s with m := k.1 }).decRowEnd e { r with n2 := k.2 } bins pipe spill)

/-- The damage that an entropy engine reports (R244–R246, R250), and the context's record of it. -/
def Dev.unitHurt (m : Dev) (r : Run) (kind row col : Nat) : Dev :=
  let n := r.e.t
  let w0 := nthWord r.e.block 0
  let w1 := nthWord r.e.block 1
  let tag := bits w0 55 24
  if 512 ≤ n then m
  else
    let m := m.damage n kind (if m.isLive n then 2 else 3) (bits w0 63 60) (9 * bits w1 71 36 + bits w1 35 32) tag row col
    match m.dec n with
    | some c => m.setDec n (some { c with hurt := sinsert c.hurt tag })
    | none => m

/-- A unit of a picture has completed (R252). -/
def Dev.unitEnded (m : Dev) (n tag : Nat) : Dev :=
  match m.dec n with
  | some c => m.setDec n (some (c.modPic tag (fun p => { p with ended := p.ended + 1, since := m.now })))
  | none => m

/-- ENTROPY_DEC_DONE (R235, R250): `kind` is 0, or the kind 08h–0Bh with the damaged CTB. A damaged Live unit hands over all its
rows, the lost ones included. -/
def execEntropyDecDone (e kind row col bins : Nat) (s : State) : Host.Outcome State Fault Refusal :=
  .next (if !s.m.coreUp then s else match if e < 24 then s.m.run e else none with
    | none => s
    | some r =>
      let w0 := nthWord r.e.block 0
      let w1 := nthWord r.e.block 1
      let bad := decide (8 ≤ kind) && decide (kind ≤ 0x0B)
      if 2 ≤ r.queue ∨ (bad = false ∧ (kind ≠ 0 ∨ r.rows ≠ bits w0 11 0)) then s
      else
        let poison := s.poisonIn (bits w1 71 36) (ceilDiv (bits w1 35 32 + bits w1 31 0) 9)
        let rows := if bad && r.e.cls == 0 then bits w0 11 0 else r.rows
        let s := s.onM (fun m =>
          let m := m.binsUsed e r bins
          (if bad then m.unitHurt r kind row col else m).unitEnded r.e.t (bits w0 55 24))
        s.entropyEnd e r (if poison then 3 else if bad then 1 else 0)
          (at_ 55 40 rows + at_ 39 32 (if bad then kind else 0) + min (r.n1 + bins) (2 ^ 32 - 1)))

/-- ENTROPY_ENC_DONE (R290, R297): the unit's bytes are written to its region; a unit that fills it ends with OUT_FULL. -/
def execEntropyEncDone (e bins : Nat) (data : List (BitVec 8)) (s : State) : Host.Outcome State Fault Refusal :=
  .next (if !s.m.coreUp then s else match if e < 24 then s.m.run e else none with
    | none => s
    | some r =>
      let w0 := nthWord r.e.block 0
      let w1 := nthWord r.e.block 1
      let room := bits w1 31 0
      let full := decide (room < data.length)
      let data := data.take room
      if r.queue < 2 ∨ (full = false ∧ r.rows ≠ bits w0 11 0) then s
      else
        let err := if full then 0x22 else 0
        let s := s.putBytes (data.length + 1) (9 * bits w1 71 36 + bits w1 35 32) data
        let s := s.onM (fun m =>
          let m := (m.binsUsed e r bins).unitDone r.e data.length err
          if 512 ≤ r.e.t then m
          else
            let count := match (m.enc r.e.t).bind (fun c => c.pic (bits w0 55 24)) with
              | some p => (p.units.filter (fun u => u.done.isSome)).length | none => 0
            m.p (ENC_CHAN_PROGRESS_UNITS_DONE r.e.t) count)
        s.entropyEnd e r (if full then 1 else 0) (at_ 55 40 r.rows + at_ 39 32 err + data.length))

end Sys2Proof.Machine
end

