-- ==== Sys2Proof/Machine/Pipes.lean ====
section
/-!
DEFINITION. Machine/Pipes.lean: the reconstruction pipes (R218, R219, R241, R252, R264, R287, R302, R315), concealment (R253), and the
meter windows (R220, R299). Decoded and coded samples come as operands, by the standards (log entry 9).
-/

namespace Sys2Proof.Machine

/-! ### Turns -/

/-- The segments or bands of one piece of work in progress. -/
def Dev.segsOf (m : Dev) (order : Nat) : Nat := (m.segs.filter (fun e => e.2 == order + 1)).length

/-- Started work of some queues that has a segment or band ready, on fewer instances than its block asks (`most`). -/
def Dev.turns (m : Dev) (qs : List Nat) (ready : List Nat) (most : List Word → Nat) : List QEntry :=
  m.running.filterMap (fun k => match k.2 with
    | some r => if decide (65536 ≤ k.1) && smem qs r.queue && smem ready r.e.order && !r.abandon &&
        decide (m.segsOf r.e.order < most r.e.block) then some r.e else none
    | none => none)

/-- Does a Live segment come before a ready one of other work that the instance was on (R218, R264)? -/
def Dev.preempts (m : Dev) (key : Nat) (x : QEntry) (ready : List Nat) : Bool :=
  let last := tget (fun _ => 0) m.lastSeg key
  x.cls == 0 && last != 0 && last != x.order + 1 && smem ready (last - 1) &&
    (match m.run (workKey (last - 1)) with | some r => r.e.cls != 0 | none => false)

/-- An instance begins a segment or band of started work. -/
def Dev.beginSeg (m : Dev) (key : Nat) (x : QEntry) : Dev :=
  let m := m.setSeg key (x.order + 1)
  let m := { m with lastSeg := tput (fun _ => 0) m.lastSeg key (x.order + 1) }
  let m := match m.run (workKey x.order) with
    | some r => m.setRun (workKey x.order) (some { r with inst := key % 64 })
    | none => m
  m.showEngines x.t

/-- A pipe begins a segment (PIPE_STATUS). -/
def Dev.pipeBegin (m : Dev) (p : Nat) (q : Nat) (x : QEntry) (ready : List Nat) : Dev :=
  let m := if m.preempts (64 + p) x ready then m.incS (PIPE_STATUS_PREEMPTS p) else m
  let m := m.beginSeg (64 + p) x
  (((m.p (PIPE_STATUS_BUSY p) 1).p (PIPE_STATUS_CHANNEL p) (bits x.ticket 62 54)).pb (PIPE_STATUS_LIVE p) (x.cls == 0)).pb
    (PIPE_STATUS_ENCODE p) (q == 9)

/-! ### Slots -/

/-- The chroma format of the sequence in force. -/
def DecCtx.chromaNow (c : DecCtx) : Nat := match c.seq with | some q => q.chroma | none => c.chroma

/-- The CTB rows of a picture. -/
def DecCtx.picRows (c : DecCtx) (p : DecPic) : Nat := let a := c.picArea p; ceilDiv a.2.2.2 c.ctb - a.2.1 / c.ctb

/-- The base of plane k of a slot (R223). -/
def DecCtx.planeBase (c : DecCtx) (luma k : Nat) : Nat :=
  if k = 0 then luma else luma + c.pitchY * c.layH + (k - 1) * c.pitchC * c.layHC

/-- The row pitch of a plane. -/
def DecCtx.planePitch (c : DecCtx) (k : Nat) : Nat := if k = 0 then c.pitchY else c.pitchC

/-- Write one sample of a plane. -/
def State.putPixel (s : State) (base pitch packing x y v : Nat) : State :=
  let a := base + y * pitch + x / lanesOf packing
  s.store .device a (putSample (s.dram a) packing (x % lanesOf packing) v) (s.dramPoison a)

/-! ### Concealment (R253) -/

/-- A sample of a picture's slot, with the edge clamp of R241; a poisoned word reads as zero. -/
def State.slotSample (s : State) (c : DecCtx) (luma k depth w h : Nat) (x y : Int) : Nat :=
  (s.sample (c.planeBase luma k) (c.planePitch k) c.packing depth (clampN x (w - 1)) (clampN y (h - 1))).getD 0

/-- A luma displacement at the scale of a plane, rounded half away from zero (DEDUCED from R253). -/
def planeMove (v : Int) (sub : Nat) : Int :=
  if v < 0 then -(((2 * v.natAbs + sub) / (2 * sub) : Nat) : Int) else (((2 * v.natAbs + sub) / (2 * sub) : Nat) : Int)

/-- The value of a spatially concealed sample: between the last decoded sample above and the first below, by distance (R253). -/
def spatialValue (depth y : Nat) (above below : Option (Nat × Nat)) : Nat :=
  match above, below with
  | some (ya, a), some (yb, b) =>
    let d := yb - ya
    (2 * (a * (yb - y) + b * (y - ya)) + d) / (2 * max 1 d)
  | some (_, a), none => a
  | none, some (_, b) => b
  | none, none => 2 ^ (depth - 1)

/-- One sample of a lost CTB (R253). `src`: the concealment source's slot where the method is motion projection. -/
def State.concealPixel (s : State) (c : DecCtx) (p : DecPic) (luma : Nat) (lost : List LostCtb) (src : Option Nat) (z : LostCtb)
    (k x y : Nat) : State :=
  let a := c.picArea p
  let sub := if k = 0 then (1, 1) else chromaSub c.chromaNow
  let w := ceilDiv (rectW a) sub.1
  let h := ceilDiv (rectH a) sub.2
  let b := if c.std = 3 then 8 else 16
  let gone := fun (yy : Nat) => lost.any (fun q => q.col == (x * sub.1 + a.1) / c.ctb && q.row == (yy * sub.2 + a.2.1) / c.ctb)
  let v := match src with
    | some l =>
      let lx := x * sub.1 + a.1
      let ly := y * sub.2 + a.2.1
      let mv := z.mvs.getD ((ly % c.ctb) / b * max 1 (c.ctb / b) + (lx % c.ctb) / b) (0, 0)
      s.slotSample c l k p.info.depth w h ((x : Int) + planeMove mv.1 sub.1) ((y : Int) + planeMove mv.2 sub.2)
    | none =>
      let get := fun (yy : Nat) => (yy, s.slotSample c luma k p.info.depth w h x yy)
      let up := ((List.range y).reverse.find? (fun yy => !gone yy)).map get
      let down := (((List.range (h - y)).map (· + y)).find? (fun yy => !gone yy)).map get
      spatialValue p.info.depth y up down
  s.putPixel (c.planeBase luma k) (c.planePitch k) c.packing x y v

/-- A lost CTB of a Live picture is concealed (R253). -/
def State.concealCtb (s : State) (c : DecCtx) (p : DecPic) (luma : Nat) (lost : List LostCtb) (z : LostCtb) : State :=
  let prev := (c.pics.find? (fun q => q.seq + 1 == p.seq)).map (fun q => (s.slotEntry c q.slot).1)
  let src := if z.spatial || p.info.refs.isEmpty || s.m.on DEC_ERR_CTRL_SPATIAL_ONLY then none else prev
  let a := c.picArea p
  let x0 := max a.1 (z.col * c.ctb)
  let y0 := max a.2.1 (z.row * c.ctb)
  let x1 := min a.2.2.1 ((z.col + 1) * c.ctb)
  let y1 := min a.2.2.2 ((z.row + 1) * c.ctb)
  (List.range (if c.chromaNow = 0 then 1 else 3)).foldl (fun s k =>
    let sub := if k = 0 then (1, 1) else chromaSub c.chromaNow
    let px := (x0 - a.1) / sub.1
    let py := (y0 - a.2.1) / sub.2
    (List.range (ceilDiv (y1 - y0) sub.2)).foldl (fun s j => (List.range (ceilDiv (x1 - x0) sub.1)).foldl (fun s i =>
      s.concealPixel c p luma lost src z k (px + i) (py + j)) s) s) s

/-- An exactness event of a regional picture (R378). -/
def Dev.exactEvent (m : Dev) (n tag : Nat) : Dev :=
  match m.dec n with
  | some c => if c.region.isSome then m.setDec n (some (c.modPic tag (fun p => { p with exact := false, event := true }))) else m
  | none => m

/-- Does a CTB of a regional picture touch this member's core? -/
def DecCtx.inCore (c : DecCtx) (p : DecPic) (z : LostCtb) : Bool :=
  match c.region with
  | some g => rectSome (rectMeet (g.core p.info.width p.info.height g.myCol g.myRow) (z.col * c.ctb, z.row * c.ctb, (z.col + 1) * c.ctb, (z.row + 1) * c.ctb))
  | none => false

/-- The lost CTBs of a list are concealed, and counted; one of the core makes a regional picture inexact (R378). -/
def State.conceal (s : State) (n tag : Nat) (lost : List LostCtb) : State :=
  match s.m.dec n with
  | none => s
  | some c => match c.pic tag with
    | none => s
    | some p =>
      let luma := (s.slotEntry c p.slot).1
      let s := lost.foldl (fun s z => s.concealCtb c p luma lost z) s
      s.onM (fun m => (m.onlyIf (lost.any (c.inCore p)) (fun m => m.exactEvent n tag)).addSat DEC_ERR_TOTAL_CONCEALED_CTBS lost.length)

/-! ### RECON_DEC -/

/-- Every address of a RECON_DEC block lies in the channel's buffers (R241). -/
def State.reconBounds (s : State) (e : QEntry) : Bool :=
  let b := e.block
  let refs := (List.range (bits (nthWord b 0) 59 55)).map (fun k => nthWord b (4 + k))
  let slot := match s.m.dec e.t with | some c => c.slotWords | none => 1
  let side := match s.m.dec e.t with | some c => c.sideWords | none => 1
  let grain := bits (nthWord b 3) 71 36
  s.engOwns e.t (bits (nthWord b 1) 71 36) slot && s.engOwns e.t (bits (nthWord b 2) 71 36) side &&
    s.engOwns e.t (bits (nthWord b 2) 35 0) 1 && (grain == 0 || s.engOwns e.t grain slot) &&
    refs.all (fun r => s.engOwns e.t (bits r 71 36) slot && s.engOwns e.t (bits r 35 0) side)

/-- Have the pictures that a RECON_DEC refers to completed reconstruction (R216)? -/
def Dev.decReady (m : Dev) (e : QEntry) : Bool :=
  match m.dec e.t with
  | none => true
  | some c => match c.pic (bits (nthWord e.block 0) 51 20) with
    | none => true
    | some p => p.info.refs.all (fun (r : Nat) => match c.pic r with | some q => q.closed | none => true)

/-- PIC_TIMEOUT in nanoseconds (R252, DEC_ERR_CTRL). -/
def Dev.picTimeout (m : Dev) (n : Nat) : Nat :=
  if m.isLive n then max 100 (m.g DEC_ERR_CTRL_PIC_TIMEOUT_LIVE) * 1000 else max 1 (m.g DEC_ERR_CTRL_PIC_TIMEOUT_PB) * 1000000

/-- A pipe starts a RECON_DEC (R241). -/
def State.reconStart (s : State) (p : Nat) (x : QEntry) (ready : List Nat) : State :=
  let tag := bits (nthWord x.block 0) 51 20
  let s := s.onM (fun m => m.unqueue 8 x)
  if !s.reconBounds x then
    let s := s.onM (fun m => match m.dec x.t with
      | some c => m.setDec x.t (some (c.modPic tag (fun q => { q with closed := true, bad := true, wait := false })))
      | none => m)
    s.finishWork x 4 p 0
  else s.onM (fun m =>
    let m := m.setRun (workKey x.order) (some { e := x, queue := 8, inst := p })
    let m := match m.dec x.t with
      | some c => m.setDec x.t (some (c.modPic tag (fun q => { q with started := true, since := (if q.ended = 0 then m.now else q.since), limit := m.picTimeout x.t })))
      | none => m
    let m := if 512 ≤ x.t then m else (m.p (DEC_CHAN_PROGRESS_PIC_TAG x.t) tag).p (DEC_CHAN_PROGRESS_ROWS_DONE x.t) 0
    if smem ready x.order then m.pipeBegin p 8 x ready else m)

/-! ### RECON_ENC -/

/-- What a RECON_ENC lacks (R287, R302): ERR_KIND 23h NO_SEARCH, 24h NO_RATE, 0 for nothing. -/
def Dev.encLacks (m : Dev) (e : QEntry) : Nat :=
  let tag := bits (nthWord e.block 0) 51 20
  match (m.enc e.t).bind (fun c => c.pic tag) with
  | none => 0
  | some p =>
    if p.needSearch && !p.searchDone && !m.hasWork 0x10 e.t (fun w => encTag 0x10 w == some tag) then 0x23
    else if p.needRate && !p.rateDone && !m.hasWork 0x18 e.t (tagIs 59 28 tag) then 0x24 else 0

/-- May a RECON_ENC start, or complete at once: its RATE ticket has completed, and its references are reconstructed (R302)? -/
def Dev.encReady (m : Dev) (e : QEntry) : Bool :=
  m.encLacks e != 0 || (match m.enc e.t with
    | none => true
    | some c => match c.pic (bits (nthWord e.block 0) 51 20) with
      | none => true
      | some p => (!p.needRate || p.rateDone) &&
          p.refs.all (fun (r : Nat) => c.pics.all (fun q => q.tag != r || !q.live || q.reconDone)))

/-- Change the picture of an encode block. -/
def Dev.modEnc (m : Dev) (t tag : Nat) (f : EncPic → EncPic) : Dev :=
  match m.enc t with
  | some c => m.setEnc t (some (c.modPic tag f))
  | none => m

/-- The words of an encode slot: its picture and its side data (R225, R292). -/
def EncCtx.slotWords (c : EncCtx) : Nat :=
  c.pitches.1 * c.height + (if c.chroma = 0 then 0 else 2 * c.pitches.2 * ceilDiv c.height (chromaSub c.chroma).2)

def EncCtx.sideWords (c : EncCtx) : Nat :=
  if c.std = 3 then let b := ceilDiv c.width 8 * ceilDiv c.height 8; b + ceilDiv b 24
  else ceilDiv c.width 16 * ceilDiv c.height 16

/-- The addresses of a RECON_ENC block lie in the channel's buffers (R141). -/
def State.reconEncBounds (s : State) (e : QEntry) : Bool :=
  let b := e.block
  let refs := (List.range (bits (nthWord b 0) 59 55)).map (fun k => nthWord b (5 + k))
  let slot := match s.m.enc e.t with | some c => c.slotWords | none => 1
  let side := match s.m.enc e.t with | some c => c.sideWords | none => 1
  s.engOwns e.t (bits (nthWord b 1) 71 36) slot && s.engOwns e.t (bits (nthWord b 2) 71 36) side &&
    s.engOwns e.t (bits (nthWord b 2) 35 0) 1 && s.engOwns e.t (bits (nthWord b 3) 71 36) 1 &&
    refs.all (fun r => s.engOwns e.t (bits r 71 36) slot && s.engOwns e.t (bits r 35 0) side)

/-- A pipe starts a RECON_ENC (R287, R302). -/
def State.reconEncStart (s : State) (p : Nat) (x : QEntry) (ready : List Nat) : State :=
  let tag := bits (nthWord x.block 0) 51 20
  let lack := s.m.encLacks x
  let ok := s.reconEncBounds x
  let s := s.onM (fun m => m.unqueue 9 x)
  if lack ≠ 0 ∨ ok = false then
    (s.onM (fun m => m.modEnc x.t tag (fun q => { q with failed := true, reconDone := true }))).finishWork x
      (if lack ≠ 0 then 1 else 4) p (at_ 39 32 lack)
  else s.onM (fun m =>
    let m := m.setRun (workKey x.order) (some { e := x, queue := 9, inst := p })
    let m := m.modEnc x.t tag (fun q => { q with began := some m.now })
    let m := if 512 ≤ x.t then m
      else ((m.p (ENC_CHAN_PROGRESS_ENC_TAG x.t) tag).p (ENC_CHAN_PROGRESS_ROWS_DONE x.t) 0).p (ENC_CHAN_PROGRESS_UNITS_DONE x.t) 0
    if smem ready x.order then m.pipeBegin p 9 x ready else m)

/-- A free pipe takes work: a segment of started work that is ready, or a picture to start (R137, R218). `ready`: the places in the
order of acceptance of the work whose next segment has its rows. -/
def State.takePipe (s : State) (p : Nat) (ready : List Nat) : State :=
  if s.m.seg (64 + p) ≠ 0 then s
  else
    let fresh := (s.m.waiting [8, 9]).filter (fun e => if s.m.queueOf [8, 9] e = 8 then s.m.decReady e else s.m.encReady e)
    let more := s.m.turns [8, 9] ready (fun b => bits (nthWord b 0) 54 52)
    match s.m.pickWork 1 (fresh ++ more) with
    | none => s
    | some x => match s.m.run (workKey x.order) with
      | some r => s.onM (fun m => m.pipeBegin p r.queue x ready)
      | none => if s.m.queueOf [8, 9] x = 8 then s.reconStart p x ready else s.reconEncStart p x ready

/-! ### Row segments -/

/-- May a pipe write this word: it lies in the picture's slot, side data or grain slot (R240, R241)? -/
def State.pipeMayWrite (s : State) (r : Run) (a : Nat) : Bool :=
  let b := r.e.block
  let sizes := if r.queue = 8 then (match s.m.dec r.e.t with | some c => (c.slotWords, c.sideWords) | none => (1, 1))
    else (match s.m.enc r.e.t with | some c => (c.slotWords, c.sideWords) | none => (1, 1))
  let luma := bits (nthWord b 1) 71 36
  let side := bits (nthWord b 2) 71 36
  let grain := if r.queue = 8 then bits (nthWord b 3) 71 36 else 0
  let hit := fun (base n : Nat) => decide (base ≤ a) && decide (a < base + n)
  hit luma sizes.1 || hit side sizes.2 || (grain != 0 && hit grain sizes.1)

/-- A row ticket of a Live channel completes toward the compositor (R32, R219). -/
def State.rowTicket (s : State) (r : Run) (all : Bool) : State :=
  let n := r.e.t
  match (if n < 512 ∧ s.m.isLive n = true then s.m.dec n else none) with
  | none => s
  | some c => match c.pic (bits (nthWord r.e.block 0) 51 20) with
    | none => s
    | some p =>
      let luma := (s.slotEntry c (p.grain.getD p.slot)).1
      let s := s.onM (fun m => m.p (DEC_CHAN_PROGRESS_ROWS_DONE n) r.rows)
      s.pictureRows luma (if all then rectH (c.picArea p) else c.ticketLines p r.rows)

/-- A segment of a decoded picture (R218, R241). -/
def State.decSegment (s : State) (r : Run) (samples : Nat) (rowEnd : Bool) (poison : Option Nat) (lost : List LostCtb) :
    State × Run :=
  let n := r.e.t
  let tag := bits (nthWord r.e.block 0) 51 20
  let live := r.e.cls == 0
  let lost := if live then lost else []
  let s := s.onM (fun m => if 512 ≤ n then m else (m.countK (DEC_CHAN_WORK_KPIXELS n) false samples).meterUse n 1 samples)
  let hit := match poison with
    | some _ => !r.bad && ((List.range (bits (nthWord r.e.block 0) 59 55)).any (fun k =>
        s.poisonIn (bits (nthWord r.e.block (4 + k)) 71 36) (match s.m.dec n with | some c => c.slotWords | none => 1)))
    | none => false
  let s := s.onM (fun m =>
    if hit && decide (n < 512) then
      let m := m.damage n 0x0D (if live then 2 else 3) (bits (nthWord r.e.block 0) 63 60) (poison.getD 0) tag r.rows 0
      match m.dec n with
      | some c => if live then m else m.setDec n (some { c with hurt := sinsert c.hurt tag })
      | none => m
    else m)
  let s := s.conceal n tag lost
  let r := { r with n2 := r.n2 + lost.length, bad := r.bad || hit, rows := r.rows + (if rowEnd then 1 else 0) }
  let s := if rowEnd then s.onM (fun m => m.stageNext (stageKey n tag false)) else s
  let last := match (s.m.dec n) with
    | some c => (match c.pic tag with | some p => decide (c.picRows p ≤ r.rows) | none => true) | none => true
  (if rowEnd && !last then s.rowTicket r false else s, r)

/-- The row offset of LIVE_ROW (R315): round(ROW_GAIN × (S − P) ÷ (T ÷ rows)), 2 higher when Q > Bq × 3 ÷ 4, within ±ROW_STEP_MAX. -/
def EncCtx.rowOffset (c : EncCtx) (p : EncPic) (spent : Rat) (row : Nat) (q : Rat) : Int :=
  let total := p.plan.sum
  let plan : Rat := if total = 0 then 0 else p.target * (((p.plan.take row).sum : Nat) : Rat) / (total : Nat)
  let per := p.target / ((max 1 c.rows : Nat) : Rat)
  let raw : Rat := if per = 0 then 0 else (((bits (c.r 3) 23 16 : Nat) : Rat) / 16) * (spent - plan) / per
  let k : Int := (raw + 1 / 2).floor + (if c.queueLimit * 3 / 4 < q then 2 else 0)
  let lim : Int := (bits (c.r 3) 15 12 : Nat)
  clampTo (-lim) lim k

/-- After a row of a LIVE_ROW picture (R315, R316): Q, the next row's QP, and an overshoot. -/
def Dev.liveRow (m : Dev) (n tag spent row : Nat) : Dev :=
  match m.enc n with
  | none => m
  | some c => match c.pic tag with
    | none => m
    | some p =>
      if c.mode ≠ 3 then m
      else
        let t := m.now - p.began.getD m.now
        let q : Rat := max c.model.q (((spent : Nat) : Rat) - ((c.bitrate * t : Nat) : Rat) / 1000000000)
        let ovr := decide (c.queueLimit < q)
        let qp := (clampTo c.qpMin c.qpMax ((p.qp : Int) + c.rowOffset p (spent : Nat) row q)).toNat
        let m := if ovr && !p.overshoot then m.incW (RC_CHAN_COUNTS_OVERSHOOTS n) else m
        let m := ((m.p (RC_CHAN_STATE_QP_ROW n) qp).p (RC_CHAN_STATE_FULLNESS n) (q / 16).floor.toNat).pb (RC_CHAN_STATE_OVER n) ovr
        m.setEnc n (some (c.modPic tag (fun p =>
          { p with q := q, overshoot := p.overshoot || ovr, qpMin := min p.qpMin qp, qpMax := max p.qpMax qp })))

/-- The code of the engine that gets an encode row: the entropy engine that runs a unit of the picture, else the pipe keeps it. -/
def Dev.rowTo (m : Dev) (t tag p : Nat) : Nat :=
  match (List.range 24).find? (fun k => match m.run k with
    | some r => decide (2 ≤ r.queue) && r.e.t == t && tagIs 55 24 tag (nthWord r.e.block 0) | none => false) with
  | some k => 0x100 + k
  | none => 0x200 + p

/-- A segment of a picture being encoded (R263, R264, R315). -/
def State.encSegment (s : State) (p : Nat) (r : Run) (samples spent : Nat) (rowEnd : Bool) : State × Run :=
  let n := r.e.t
  let tag := bits (nthWord r.e.block 0) 51 20
  let effort := bits (nthWord r.e.block 0) 19 18
  let work := samples * (if effort ≤ 1 then 2 else if effort = 2 then 3 else 4) / 2
  let r := { r with rows := r.rows + (if rowEnd then 1 else 0) }
  (s.onM (fun m =>
    let m := if 512 ≤ n then m else (m.countK (ENC_CHAN_WORK_KPIXELS n) false work).meterUse n 1 work
    if !rowEnd then m
    else
      let m := match m.stageFree 2 with
        | some k => (m.stageGive k (m.rowTo n tag p)).stageMark k (stageKey n tag true)
        | none => m
      if 512 ≤ n then m else (m.p (ENC_CHAN_PROGRESS_ROWS_DONE n) r.rows).liveRow n tag spent r.rows), r)

/-- What the core blocks of a segment read makes a regional picture inexact: an inexact reference (`used`, by tag), or a candidate of
R354 (`drift`) (R378). -/
def Dev.exactReads (m : Dev) (n tag : Nat) (used : List Nat) (drift : Bool) : Dev :=
  let m := if drift then m.exactEvent n tag else m
  match m.dec n with
  | some c => if c.region.isSome && c.pics.any (fun q => smem used q.tag && !q.exact) then
      m.setDec n (some (c.modPic tag (fun p => { p with exact := false }))) else m
  | none => m

/-- PIPE_SEGMENT_END (R218): the segment's words are written, and the pipe is free for other work. `rowEnd`: with it the next row of
the picture is complete; `spent`: the bits spent so far (R315); `poison`: a prediction read returned a poisoned word, with the
byte position of the unit; `lost`: the CTBs concealed; `used` and `drift` as above. -/
def execPipeSegmentEnd (p samples spent : Nat) (rowEnd : Bool) (poison : Option Nat) (writes : List (Nat × Word))
    (lost : List LostCtb) (used : List Nat) (drift : Bool) (s : State) : Host.Outcome State Fault Refusal :=
  .next (if !s.m.coreUp || decide (8 ≤ p) || s.m.seg (64 + p) == 0 then s
  else
    let key := workKey (s.m.seg (64 + p) - 1)
    let s := s.onM (fun m => ((m.setSeg (64 + p) 0).p (PIPE_STATUS_BUSY p) 0).incS (PIPE_STATUS_SEGMENTS p))
    match s.m.run key with
    | none => s
    | some r =>
      let s := (writes.filter (fun e => s.pipeMayWrite r e.1)).foldl (fun (s : State) e => s.store .device e.1 e.2 false) s
      let s := if r.queue = 8 then s.onM (fun m => m.exactReads r.e.t (bits (nthWord r.e.block 0) 51 20) used drift) else s
      let q := if r.queue = 8 then s.decSegment r samples rowEnd poison lost else s.encSegment p r samples spent rowEnd
      let s := q.1
      let r := q.2
      if r.abandon && s.m.segsOf r.e.order == 0 then
        let tag := bits (nthWord r.e.block 0) 51 20
        (s.onM (fun m => (m.stageClear (stageKey r.e.t tag (r.queue == 9))).abandonRun key r)).killPoll r.e.t
      else s.onM (fun m => (m.setRun key (some r)).showEngines r.e.t))

/-! ### The end of a picture -/

/-- A regional picture is finished: the one that completes a sweep is exact again if no exactness event arose in the sweep, and the
PRE seams of the picture leave the inbox (R363, R378). -/
def Dev.regionDone (m : Dev) (n tag : Nat) : Dev :=
  match m.dec n with
  | none => m
  | some c => match c.region, c.pic tag with
    | some g, some p =>
      let place := p.info.payload.bind (·.sweep)
      let bad := p.event || (g.sweepBad && place.map (·.1) != some 0)
      let last := match place with | some (i, w) => decide (p.info.width ≤ (i + 1) * w) && !bad | none => false
      let g := { g with sweepBad := bad, inbox := g.inbox.filter (fun w => !(bits (nthWord w 1) 71 40 == p.info.key && bits (nthWord w 1) 39 24 == p.info.hint)) }
      m.setDec n (some { c.modPic tag (fun p => { p with exact := p.exact || last }) with region := some g })
    | _, _ => m

/-- The ticket of a closed RECON_DEC completes, for a regional picture once its SEAM ticket has (R235, R364). -/
def State.reconEnds (s : State) (n tag key : Nat) (r : Run) : State :=
  if r.n3 = 0 ∨ ((s.m.dec n).bind (·.region)).isSome ∧ s.m.hasWork 0x30 n (tagIs 59 28 tag) = true then s
  else
    let s := s.onM (fun m => ((m.setRun key none).stageClear (stageKey n tag false)).regionDone n tag)
    s.finishWork r.e r.n1 r.inst r.partly

/-- The RECON_DEC of a picture, if it is closed, completes. -/
def State.reconTicket (s : State) (n tag : Nat) : State :=
  match s.m.findRun 8 n (tagIs 51 20 tag) with
  | some (key, r) => s.reconEnds n tag key r
  | none => s

/-- A picture in reconstruction closes (R252): the CTBs that no unit delivered are reported, concealed for a Live channel. -/
def State.reconClose (s : State) (key : Nat) (r : Run) (missing row pos : Nat) (lost : List LostCtb) : State :=
  let n := r.e.t
  let tag := bits (nthWord r.e.block 0) 51 20
  let live := r.e.cls == 0
  let lost := if live then lost else []
  let s := if missing = 0 ∨ 512 ≤ n then s
    else s.onM (fun m => m.damage n 0x0C (if live then 2 else 3) (bits (nthWord r.e.block 0) 63 60) pos tag row 0)
  let s := s.conceal n tag lost
  let r := { r with n2 := r.n2 + lost.length, n3 := 1, n1 := if r.bad then 3 else if 0 < missing ∨ 0 < r.n2 + lost.length then 1 else 0 }
  let s := s.rowTicket r true
  let s := s.onM (fun m =>
    let m := m.setRun key (some r)
    let m := if 512 ≤ n then m else m.incW (DEC_CHAN_COUNTS_PICTURES n)
    match m.dec n with
    | some c =>
      let c := c.modPic tag (fun p => { p with closed := true, concealed := r.n2, since := m.now })
      m.setDec n (some (if !live && decide (0 < missing) then { c with hurt := sinsert c.hurt tag } else c))
    | none => m)
  s.reconEnds n tag key r

/-- May a picture close: every CTB row is written, or its last unit is known and every unit built has completed (R252)? -/
def Dev.mayClose (m : Dev) (n tag rows : Nat) : Bool :=
  match m.dec n with
  | none => true
  | some c => match c.pic tag with
    | none => true
    | some p => decide (c.picRows p ≤ rows) || (p.lastUnit && p.built == p.ended)

/-- RECON_DEC_DONE (R235, R252): pipe p wrote the last row. `missing`: the CTBs that no unit delivered, the first in `row`. -/
def execReconDecDone (p n tag missing row pos : Nat) (lost : List LostCtb) (s : State) : Host.Outcome State Fault Refusal :=
  .next (if !s.m.coreUp then s else match s.m.findRun 8 n (tagIs 51 20 tag) with
    | none => s
    | some (key, r) =>
      if s.m.segsOf r.e.order ≠ 0 ∨ r.n3 ≠ 0 ∨ s.m.mayClose n tag r.rows = false then s
      else s.reconClose key { r with inst := p % 8 } missing row pos lost)

/-- PIC_TIMEOUT (R252): the time since the last entropy completion, or since the start, has passed. -/
def execPicTimeout (n tag missing row pos : Nat) (lost : List LostCtb) (s : State) : Host.Outcome State Fault Refusal :=
  .next (if !s.m.coreUp then s else match s.m.findRun 8 n (tagIs 51 20 tag), (s.m.dec n).bind (fun c => c.pic tag) with
    | some (key, r), some p =>
      if r.n3 ≠ 0 then s
      else
        let s := s.onM (fun m => { m.reach (p.since + p.limit) with segs := m.segs.filter (fun x => x.2 != r.e.order + 1) })
        s.reconClose key r missing row pos lost
    | _, _ => s)

/-- RECON_ENC_DONE (R297): `intraPct` of the 8 × 8 blocks were coded intra. -/
def execReconEncDone (p n tag intraPct : Nat) (s : State) : Host.Outcome State Fault Refusal :=
  .next (if !s.m.coreUp then s else match s.m.findRun 9 n (tagIs 51 20 tag) with
    | none => s
    | some (key, r) =>
      let all := match s.m.enc n with | some c => decide (c.rows ≤ r.rows) | none => true
      if s.m.segsOf r.e.order ≠ 0 ∨ all = false then s
      else
        let r := { r with inst := p % 8, n2 := min 100 intraPct }
        let b := r.e.block
        let h := match s.m.enc n with | some c => c.height | none => 1
        let poison := s.poisonIn (bits (nthWord b 3) 71 36) (bits (nthWord b 3) 35 24 * h)
        let s := s.onM (fun m =>
          let m := (m.setRun key none).modEnc n tag (fun q => { q with reconDone := true })
          match m.enc n with
          | some c => match c.pic tag with
            | some q => if c.mode = 3 then m.setEnc n (some { c with model := { c.model with q := q.q } }) else m
            | none => m
          | none => m)
        s.finishWork r.e (if poison then 3 else 0) r.inst r.partly)

/-! ### Meter windows (R220, R299, R340) -/

/-- ENGINE_METER_WINDOW: each 1 ms the Live channels that used more than 1.25 × their declared demand have overrun (R163). -/
def execEngineMeterWindow (s : State) : Host.Outcome State Fault Refusal :=
  .next (s.onM (fun m =>
    if !m.coreUp then m
    else
      let m' := m.each 512 (fun n m =>
        if m.on (CHAN_STATUS_ADMITTED n) && m.isLive n then
          let ovr := (List.range 4).any (m.overNow n)
          let old := tget (fun _ => 0) m.meterOver n
          { m with meterOver := tput (fun _ => 0) m.meterOver n (if ovr then 2 else old - 1) }.liveCheck n
        else m)
      { m' with meter := [] }))

end Sys2Proof.Machine
end

