-- ==== Sys2Proof/Machine/Search.lean ====
section
/-!
DEFINITION. Machine/Search.lean: the search engines (R264–R269, R293, R297) and the rate accelerators (R300–R304, R308, R317).
-/

namespace Sys2Proof.Machine

/-! ### Search -/

/-- The geometry of a SEARCH: of the encoded picture, or in analysis mode as the operand states it. -/
def State.searchGeom (s : State) (e : QEntry) (g : SearchGeom) : SearchGeom :=
  match encTag 0x10 (nthWord e.block 0), s.m.enc e.t with
  | some tag, some c => match c.pic tag with
    | some p => ⟨c.width, c.height, c.packing, p.srcDepth, c.ctb == 64⟩
    | none => g
  | _, _ => g

/-- The 64-line bands of a picture (R264). -/
def geomBands (g : SearchGeom) : Nat := ceilDiv g.h 64

/-- The words of the motion field for one reference (R269). -/
def geomPerRef (g : SearchGeom) : Nat :=
  (([8, 16, 32] ++ (if g.with64 then [64] else [])).map (fun k => ceilDiv g.w k * ceilDiv g.h k)).sum

/-- PITCH_P1 and PITCH_P2 of the pyramid (R292). -/
def geomPitch (g : SearchGeom) (k : Nat) : Nat := ceilDiv (ceilDiv (ceilDiv g.w k) 9) 8 * 8

/-- The words of the pyramid (R292). -/
def geomPyramid (g : SearchGeom) : Nat := geomPitch g 2 * ceilDiv g.h 2 + geomPitch g 4 * ceilDiv g.h 4

/-- A pyramid sample: the k × k box average of the 8-bit source, rounded half up (R266); samples past an edge are the edge's
(DEDUCED). -/
def State.pyrSample (s : State) (p : Plane) (k x y : Nat) : Nat :=
  let sum := ((List.range (k * k)).map (fun i => (s.luma8 p (k * x + i % k) (k * y + i / k)).toNat)).sum
  (2 * sum + k * k) / (2 * (k * k))

/-- A pyramid row as nine-pack words. -/
def State.pyrRow (s : State) (p : Plane) (g : SearchGeom) (k y : Nat) : List Word :=
  let w := ceilDiv g.w k
  (List.range (ceilDiv w 9)).map (fun i =>
    Word.of ((List.range 9).map (fun j => if 9 * i + j < w then at_ (8 * j + 7) (8 * j) (s.pyrSample p k (9 * i + j) y) else 0)).sum)

/-- The rows of a pyramid level that a band of 64 lines gives. -/
def State.pyrBand (s : State) (p : Plane) (g : SearchGeom) (base k band : Nat) : State :=
  (List.range (64 / k)).foldl (fun (st : State) i =>
    let y := 64 / k * band + i
    if y < ceilDiv g.h k then st.fw (base + y * geomPitch g k) (s.pyrRow p g k y) else st) s

/-- The sum of the best 8 × 8 COST of the blocks of a band, over the references (R297). -/
def State.bandCost (s : State) (g : SearchGeom) (motion refs band : Nat) : Nat :=
  let bw := ceilDiv g.w 8
  let rows := (List.range 8).filter (fun i => decide (8 * band + i < ceilDiv g.h 8))
  ((List.range refs).map (fun r => (rows.map (fun i => ((List.range bw).map (fun x =>
    bits (s.dram (motion + r * geomPerRef g + (8 * band + i) * bw + x)) 39 24)).sum)).sum)).sum

/-- The addresses of a SEARCH block lie in the channel's buffers (R141). -/
def State.searchBounds (s : State) (e : QEntry) : Bool :=
  let b := e.block
  let refs := (List.range (bits (nthWord b 0) 55 53)).map (fun k => nthWord b (4 + k))
  s.engOwns e.t (bits (nthWord b 1) 71 36) 1 && s.engOwns e.t (bits (nthWord b 2) 71 36) 1 &&
    s.engOwns e.t (bits (nthWord b 2) 35 0) 1 && (bits (nthWord b 3) 71 36 == 0 || s.engOwns e.t (bits (nthWord b 3) 71 36) 1) &&
    refs.all (fun r => s.engOwns e.t (bits r 71 36) 1 && s.engOwns e.t (bits r 35 0) 1)

/-- A search engine begins a band (SEARCH_STATUS). -/
def Dev.searchBegin (m : Dev) (k : Nat) (x : QEntry) (ready : List Nat) : Dev :=
  let m := if m.preempts (128 + k) x ready then m.incS (SEARCH_STATUS_PREEMPTS k) else m
  let m := m.beginSeg (128 + k) x
  (((m.p (SEARCH_STATUS_BUSY k) 1).p (SEARCH_STATUS_CHANNEL k) (bits x.ticket 62 54)).pb (SEARCH_STATUS_LIVE k) (x.cls == 0)).p
    (SEARCH_STATUS_ANALYSIS k) (bits (nthWord x.block 0) 59 56)

/-- A free search engine takes work: a band of started work that is ready, or a SEARCH to start (R137, R264). -/
def State.takeSearch (s : State) (k : Nat) (ready : List Nat) : State :=
  if s.m.seg (128 + k) ≠ 0 then s
  else
    let more := s.m.turns [0x10] ready (fun b => bits (nthWord b 0) 52 51 + 1)
    match s.m.pickWork 2 (s.m.waiting [0x10] ++ more) with
    | none => s
    | some x => match s.m.run (workKey x.order) with
      | some _ => s.onM (fun m => m.searchBegin k x ready)
      | none =>
        let ok := s.searchBounds x
        let s := s.onM (fun m => m.unqueue 0x10 x)
        if !ok then s.finishWork x 4 k 0
        else s.onM (fun m =>
          let m := m.setRun (workKey x.order) (some { e := x, queue := 0x10, inst := k })
          if smem ready x.order then m.searchBegin k x ready else m)

/-- SEARCH_BAND_END (R264, R269): the band's motion words, as offsets from MOTION_ADDR, and its pyramid rows are written. -/
def execSearchBandEnd (e band : Nat) (g : SearchGeom) (motion : List (Nat × Word)) (s : State) :
    Host.Outcome State Fault Refusal :=
  .next (if !s.m.coreUp || decide (4 ≤ e) || s.m.seg (128 + e) == 0 then s
  else
    let key := workKey (s.m.seg (128 + e) - 1)
    let s := s.onM (fun m => ((m.setSeg (128 + e) 0).p (SEARCH_STATUS_BUSY e) 0).incS (SEARCH_STATUS_BANDS e))
    match s.m.run key with
    | none => s
    | some r =>
      let b := r.e.block
      let g := s.searchGeom r.e g
      let refs := bits (nthWord b 0) 55 53
      let field := bits (nthWord b 2) 35 0
      let pyr := bits (nthWord b 2) 71 36
      let pl : Plane := ⟨bits (nthWord b 1) 71 36, bits (nthWord b 1) 35 24, g.packing, g.depth, g.w, g.h⟩
      let s := (motion.filter (fun q => decide (q.1 < refs * geomPerRef g) && s.engOwns r.e.t (field + q.1) 1)).foldl
        (fun (s : State) q => s.store .device (field + q.1) q.2 false) s
      let s := if s.engOwns r.e.t pyr (geomPyramid g) then
          (s.pyrBand pl g pyr 2 band).pyrBand pl g (pyr + geomPitch g 2 * ceilDiv g.h 2) 4 band else s
      let lines := min 64 (g.h - 64 * band)
      let r : Run := { r with rows := r.rows + 1, n1 := r.n1 + s.bandCost g field refs band }
      let s := s.onM (fun m => if 512 ≤ r.e.t then m
        else (m.countK (ENC_CHAN_SEARCH_KSEARCH r.e.t) false (lines * g.w * refs)).meterUse r.e.t 2 (lines * g.w * refs))
      if r.abandon && s.m.segsOf r.e.order == 0 then (s.onM (fun m => m.abandonRun key r)).killPoll r.e.t
      else s.onM (fun m => (m.setRun key (some r)).showEngines r.e.t))

/-- SEARCH_DONE (R297): the work is named by its thread and its place in the order of acceptance. -/
def execSearchDone (e n order : Nat) (g : SearchGeom) (s : State) : Host.Outcome State Fault Refusal :=
  .next (if !s.m.coreUp then s else match s.m.run (workKey order) with
    | none => s
    | some r =>
      let g := s.searchGeom r.e g
      if r.queue ≠ 0x10 ∨ r.e.t ≠ n ∨ s.m.segsOf order ≠ 0 ∨ r.rows < geomBands g then s
      else
        let b := r.e.block
        let poison := s.poisonIn (bits (nthWord b 1) 71 36) (bits (nthWord b 1) 35 24 * g.h)
        let s := s.onM (fun m =>
          let m := m.setRun (workKey order) none
          match encTag 0x10 (nthWord b 0) with
          | some tag => m.modEnc n tag (fun p => { p with searchDone := true })
          | none => m)
        s.finishWork r.e (if poison then 3 else 0) (e % 4) r.partly)

/-! ### Rate accelerators -/

/-- A free accelerator takes work (R300): a picture whose SEARCH is neither queued nor running (DEDUCED). -/
def State.takeRate (s : State) (a : Nat) : State :=
  if (s.m.run (192 + a)).isSome then s
  else
    let l := (s.m.waiting [0x18]).filter (fun e =>
      !s.m.hasWork 0x10 e.t (fun w => encTag 0x10 w == some (bits (nthWord e.block 0) 59 28)))
    match s.m.pickWork 4 l with
    | none => s
    | some x =>
      let b := x.block
      let ok := s.engOwns x.t (bits (nthWord b 1) 71 36) 1 && s.engOwns x.t (bits (nthWord b 2) 35 0) 1 &&
        (bits (nthWord b 2) 71 36 == 0 || s.engOwns x.t (bits (nthWord b 2) 71 36) 1)
      let s := s.onM (fun m => m.unqueue 0x18 x)
      if !ok then
        (s.onM (fun m => m.modEnc x.t (bits (nthWord b 0) 59 28) (fun p => { p with rateDone := true }))).finishWork x 4 a 0
      else s.onM (fun m =>
        (((m.setRun (192 + a) (some { e := x, queue := 0x18 })).p (RATE_STATUS_BUSY a) 1).p (RATE_STATUS_CHANNEL a)
          (bits x.ticket 62 54)).pb (RATE_STATUS_LIVE a) (x.cls == 0))

/-- The complexity of each CTB row: the sum of min(intra SATD, COST) over its 8 × 8 blocks (R304). -/
def State.rowPlan (s : State) (p : Plane) (motion ctb rows : Nat) : List Nat :=
  let bw := ceilDiv p.w 8
  let k := max 1 (ctb / 8)
  (List.range rows).map (fun r => (((List.range k).filter (fun j => decide (r * k + j < ceilDiv p.h 8))).map (fun j =>
    ((List.range bw).map (fun i =>
      let x := s.intraSatd p i (r * k + j)
      if motion = 0 then x else min x ((s.blockCost motion bw i (r * k + j)).getD x))).sum)).sum)

/-- The picture becomes an IDR picture or key frame (R317, with the effects of R291). -/
def EncCtx.becomeIdr (c : EncCtx) (tag : Nat) : EncCtx :=
  let others := (c.pics.filter (fun (q : EncPic) => q.isRef && q.tag != tag)).map (·.tag)
  { c.modPic tag (fun p => { p with ptype := 0, toIdr := true, refs := [], unref := others, isRef := true, sweep := none, sweepStart := false, payload := c.regionCols != 0 || c.refresh }) with
    sinceIdr := 1, sweepPos := 0, forceIdr := false }

/-- The decisions of a RATE (R303, R304, R308, R317, R318), and its RESULT. -/
def State.rateDecide (s : State) (c : EncCtx) (p : EncPic) (live : Bool) (b : List Word) : EncCtx × Bool × Nat :=
  let pl : Plane := ⟨bits (nthWord b 1) 71 36, bits (nthWord b 1) 35 24, c.packing, p.srcDepth, c.width, c.height⟩
  let motion := bits (nthWord b 2) 71 36
  let all := s.complexity pl motion (fun _ => true)
  let inCol := fun (bx : Nat) => match p.sweep with
    | some i => decide (i < c.sweepLen) && decide (i * c.colWidth ≤ bx * 8 / c.ctb) && decide (bx * 8 / c.ctb < (i + 1) * c.colWidth)
    | none => false
  let col := s.complexity pl motion inCol
  let ratio := bits (c.r 4) 23 16
  let scene := decide (7 * all.1 ≤ 8 * all.2) && decide (ratio * c.model.prevInter < 16 * all.2)
  let intra := rateType p.ptype == 0
  let toIdr := scene && bits (c.r 0) 60 60 == 1 && !live && c.gopMode != 2 && !intra
  let k := if toIdr then 0 else rateType p.ptype
  let useIntra := scene || k == 0
  let cc := if toIdr then 0 else if useIntra then col.1 else col.2
  let cn := (if useIntra then all.1 else all.2) - cc
  let cap := c.cap p.header
  let qp := c.pictureQp k (if scene then 0 else k) cn cc scene cap
  let c := if toIdr then c.becomeIdr p.tag else c
  let plan := s.rowPlan pl motion c.ctb c.rows
  let c := c.modPic p.tag (fun p => { p with rateDone := true, qp := qp, qpMin := qp, qpMax := qp, scene := scene, intra := all.1, inter := all.2, col := cc, target := if c.mode = 2 then 0 else c.targetBits k cap, plan := plan })
  let m22 := fun (n : Nat) => min (n / 1024) (2 ^ 22 - 1)
  (c, scene, at_ 55 50 qp + at_ 49 49 (if scene then 1 else 0) + at_ 48 48 (if toIdr then 1 else 0) + at_ 43 22 (m22 all.1) + m22 all.2)

/-- RATE_DONE (R303): an accelerator writes its decisions. An abandoned one completes CANCELLED. -/
def execRateDone (a : Nat) (s : State) : Host.Outcome State Fault Refusal :=
  .next (if !s.m.coreUp then s else match if a < 4 then s.m.run (192 + a) else none with
    | none => s
    | some r =>
      let b := r.e.block
      let n := r.e.t
      let s := s.onM (fun m => (m.p (RATE_STATUS_BUSY a) 0).incS (RATE_STATUS_PICTURES a))
      if r.abandon then (s.onM (fun m => m.abandonRun (192 + a) r)).killPoll n
      else
        let s := s.onM (fun m => m.setRun (192 + a) none)
        match s.m.enc n with
        | none => s.finishWork r.e 0 a 0
        | some c => match c.pic (bits (nthWord b 0) 59 28) with
          | none => s.finishWork r.e 0 a 0
          | some p =>
            let poison := s.poisonIn (bits (nthWord b 1) 71 36) (bits (nthWord b 1) 35 24 * c.height)
            let d := s.rateDecide c p (s.m.isLive n) b
            let s := s.onM (fun m => (if d.2.1 then m.incW (RC_CHAN_COUNTS_SCENES n) else m).setEnc n (some d.1))
            s.finishWork r.e (if poison then 3 else 0) a d.2.2)

end Sys2Proof.Machine
end

