-- ==== Sys2Proof/Machine/Traffic.lean ====
section
/-!
DEFINITION. Machine/Traffic.lean: the egress ports (R580–R593): gate lists and their swaps, the start of a frame, stopping, the
credit shapers, and the meters of uplink ingress.
-/

namespace Sys2Proof.Machine

/-! ### Gate lists (R583) -/

/-- The effective intervals of a list over one cycle, as (gates, duration): the cycle end cuts the list, and the last entry holds
until it (R583). -/
def Dev.gateSlots (m : Dev) (port list len cycle : Nat) : List (Nat × Nat) :=
  let r := (List.range len).foldl (fun (acc : List (Nat × Nat) × Nat) e =>
    let w := m.rd (GCL_addr port list e)
    let d := if e + 1 = len then cycle - acc.2 else min (bits w 63 32) (cycle - acc.2)
    (if d = 0 then acc.1 else acc.1 ++ [(bits w 71 64, d)], acc.2 + d)) ([], 0)
  r.1

/-- Does the active list act (R583)? -/
def Dev.gatesAct (m : Dev) (port : Nat) : Bool := m.on (GATE_CTRL_GATES_ON port) && m.g (GATE_STATUS_ACTIVE_LEN port) != 0

/-- The effective intervals of the active list. -/
def Dev.activeSlots (m : Dev) (port : Nat) : List (Nat × Nat) :=
  m.gateSlots port (m.g (GATE_STATUS_ACTIVE_LIST port)) (m.g (GATE_STATUS_ACTIVE_LEN port)) (m.g (GATE_STATUS_ACTIVE_CYCLE_NS port))

/-- ACTIVE_BASE (R583). -/
def Dev.activeBase (m : Dev) (port : Nat) : Nat := tget (fun _ => 0) m.tr.gateBase port

/-- The place of a device time in the active cycle. -/
def Dev.gatePos (m : Dev) (port t : Nat) : Nat :=
  (((t : Int) - (m.activeBase port : Int)) % (m.g (GATE_STATUS_ACTIVE_CYCLE_NS port) : Int)).toNat

/-- The intervals from a place in the cycle on, around to that place again: the first is what is left of the one it is in. -/
def slotsFrom : List (Nat × Nat) → Nat → List (Nat × Nat) → List (Nat × Nat)
  | [], _, before => before
  | (g, d) :: r, pos, before =>
    if pos < d then ((g, d - pos) :: r) ++ before ++ (if pos = 0 then [] else [(g, pos)]) else slotsFrom r (pos - d) (before ++ [(g, d)])

/-- The intervals that follow the present moment on a port. -/
def Dev.slotsNow (m : Dev) (port : Nat) : List (Nat × Nat) := slotsFrom (m.activeSlots port) (m.gatePos port m.now) []

/-- Is the gate of a class open now? Every gate is while no list acts (R583). -/
def Dev.gateOpen (m : Dev) (port cls : Nat) : Bool :=
  !m.gatesAct port || (match m.slotsNow port with | (g, _) :: _ => Nat.testBit g cls | [] => true)

/-- How long the gate of a class stays open from now; none when it never closes (R584). -/
def Dev.openLeft (m : Dev) (port cls : Nat) : Option Nat :=
  if !m.gatesAct port then none
  else
    let l := m.slotsNow port
    if l.all (fun x => Nat.testBit x.1 cls) then none
    else some ((l.takeWhile (fun x => Nat.testBit x.1 cls)).map (·.2)).sum

/-- Open time of a class in one cycle (R586). -/
def openTime (l : List (Nat × Nat)) (cls : Nat) : Nat := ((l.filter (fun x => Nat.testBit x.1 cls)).map (·.2)).sum

/-- Runs of equal gate state of a class, in order. -/
def gateRuns (cls : Nat) : List (Nat × Nat) → List (Bool × Nat)
  | [] => []
  | (g, d) :: r =>
    let b := Nat.testBit g cls
    match gateRuns cls r with
    | (b', d') :: r' => if b == b' then (b, d + d') :: r' else (b, d) :: (b', d') :: r'
    | [] => [(b, d)]

/-- The runs around the cycle end: the last joins the first where their states agree (R586, R587). -/
def circularRuns (cls : Nat) (l : List (Nat × Nat)) : List (Bool × Nat) :=
  match gateRuns cls l with
  | (b, d) :: x :: r =>
    let t := (x :: r).getLastD x
    if t.1 == b then (b, d + t.2) :: (x :: r).dropLast else (b, d) :: x :: r
  | l => l

/-- The longest time for which the class 6 gate is closed in a list (R587); without end where it never opens. -/
def liveGap (l : List (Nat × Nat)) : Nat :=
  if !l.isEmpty && l.all (fun x => !Nat.testBit x.1 6) then 65535
  else ((circularRuns 6 l).filter (fun x => !x.1)).foldl (fun a x => max a x.2) 0

/-- MAX_FRAME_NS of a port (R587). -/
def Dev.maxFrameNs (m : Dev) (port : Nat) : Nat :=
  if port < 8 then 370 else if m.on (UPLINK_CTRL_SPLIT ((port - 8) / 4)) then 3000 else 750

/-- The reason a swap request is refused, 0 for none (R586). -/
def Dev.swapCheck (m : Dev) (port list len cycle : Nat) (base : Word) : Nat :=
  let bad := fun e =>
    let w := m.rd (GCL_addr port list e)
    decide (bits w 63 32 < 64) || bits w 31 0 != 0
  let l := m.gateSlots port list len cycle
  let short := fun cls => (circularRuns cls l).any (fun x => x.1 && decide (x.2 < m.maxFrameNs port) && decide (x.2 < cycle))
  if len = 0 ∨ 256 < len then 1
  else if cycle < 1000 ∨ 1000000000 < cycle then 2
  else if (List.range len).any bad then 7
  else if openTime l 7 * 50 < cycle then 3
  else if port < 8 ∧ openTime l 6 * 4 < cycle then 4
  else if m.on (GATE_CTRL_FIT_HOLD port) ∧ (short 6 ∨ short 7) then 5
  else if !timeOk base then 6
  else 0

/-! ### Shapers (R590) -/

/-- The largest credit of a shaper, in 10⁻⁶ bit. -/
def Dev.maxCredit (m : Dev) (port k : Nat) : Int := ((max 1 (m.g (SHAPER_BURST port k)) * 8 * 1000000 : Nat) : Int)

/-- Open time of a class between the first cycle start at or before ACTIVE_BASE and a moment, in ns: the difference of two such
values is the open time between the moments. -/
def Dev.openUntil (m : Dev) (port k t : Nat) : Int :=
  if !m.gatesAct port then (t : Int)
  else
    let l := m.activeSlots port
    let c : Int := (m.g (GATE_STATUS_ACTIVE_CYCLE_NS port) : Int)
    let pos := m.gatePos port t
    let part := (l.foldl (fun (acc : Nat × Nat) x =>
      (acc.1 + (if Nat.testBit x.1 k then min x.2 (pos - acc.2) else 0), acc.2 + x.2)) (0, 0)).1
    ((t : Int) - (m.activeBase port : Int)) / c * (openTime l k : Int) + (part : Int)

/-- The shaper of a class is on; class 7 has none (R582, R590). -/
def Dev.shaped (m : Dev) (port k : Nat) : Bool := decide (k < 7) && m.on (SHAPER_ENABLE port k)

/-- The credit of a shaper now (R590). -/
def Dev.creditNow (m : Dev) (port k : Nat) : Int :=
  match tget (fun _ => none) m.tr.credit (port * 8 + k) with
  | none => m.maxCredit port k
  | some (c, at_ns) => min (m.maxCredit port k) (c + (m.g (SHAPER_RATE port k) : Int) * (m.openUntil port k m.now - m.openUntil port k at_ns))

/-- Store a credit as of now. -/
def Dev.setCredit (m : Dev) (port k : Nat) (c : Int) : Dev :=
  { m with tr.credit := tput (fun _ => none) m.tr.credit (port * 8 + k) (some (c, m.now)) }

/-- Settle every shaper of a port, before what its credit rises by changes. -/
def Dev.settle (m : Dev) (port : Nat) : Dev :=
  m.each 7 (fun k m => if m.shaped port k then m.setCredit port k (m.creditNow port k) else m)

/-- Every shaper of a port starts at full credit (R590, R603). -/
def Dev.fullCredit (m : Dev) (port : Nat) : Dev :=
  m.each 7 (fun k m => if m.shaped port k then m.setCredit port k (m.maxCredit port k) else m)

/-- A write of SHAPER (R590): ENABLE starts at full credit; RATE and BURST apply at once. -/
def Dev.shaperWrite (m : Dev) (port k : Nat) (v : Word) : Dev :=
  let was := m.on (SHAPER_ENABLE port k)
  let m := m.settle port
  let m := (m.wr (SHAPER_addr port k) (Word.of (v.toNat / 256 * 256)))
  if m.shaped port k then m.setCredit port k (if was then min (m.creditNow port k) (m.maxCredit port k) else m.maxCredit port k)
  else { m with tr.credit := terase m.tr.credit (port * 8 + k) }

/-- The moment at which a class has had an open time, by the measure of `openUntil`. -/
def Dev.openMoment (m : Dev) (port k : Nat) (target : Int) : Option Nat :=
  if !m.gatesAct port then some target.toNat
  else
    let l := m.activeSlots port
    let o := openTime l k
    if o = 0 then none
    else
      let q := (target - 1) / (o : Int)
      let r := (target - q * (o : Int)).toNat
      let pos := (l.foldl (fun (acc : Nat × Nat × Bool) x =>
        if acc.2.2 then acc
        else if Nat.testBit x.1 k then
          if r ≤ acc.1 + x.2 then (r, acc.2.1 + (r - acc.1), true) else (acc.1 + x.2, acc.2.1 + x.2, false)
        else (acc.1, acc.2.1 + x.2, false)) (0, 0, false)).2.1
      some (((m.activeBase port : Nat) : Int) + q * ((m.g (GATE_STATUS_ACTIVE_CYCLE_NS port) : Nat) : Int) + (pos : Int)).toNat

/-! ### Stopping (R558, R588, R589) -/

/-- The words of received frames of a class that still wait in the device: `src` 1 + k for chain link k, 9 + q for uplink port
q. -/
def Dev.classWords (m : Dev) (src cls : Nat) : Nat :=
  (m.egress.map (fun e => ((e.2.filter (fun f => f.src == src && bits (nthWord f.words 0) 67 65 == cls)).map (fun f => f.words.length + 1)).sum)).sum

/-- The classes this device has stopped at the sender of a link because a buffer passed its mark. -/
def Dev.stopped (m : Dev) (src : Nat) : Nat := tget (fun _ => 0) m.tr.stopSent src

/-- The STOP_MASK of a source (R558); an uplink port has none. -/
def Dev.stopMask (m : Dev) (src : Nat) : Nat := if src ≤ 8 then m.g (FAB_LINK_CTRL_STOP_MASK (src - 1)) else 0

/-- A STOP or GO for one class leaves toward a source: an ordered set on a chain link, a PFC frame on an uplink with PFC_EN. -/
def Dev.sendStop (m : Dev) (src cls : Nat) (stop : Bool) : Dev :=
  if src ≤ 8 then m.send (.orderedSet (src - 1) stop (2 ^ cls))
  else if m.on (UPLINK_SRC_PFC_EN (src - 9)) then m.send (.pfc (src - 9) (2 ^ cls) stop) else m

/-- The marks of a class buffer (R588): STOP above 10,240 words, GO at 5,120 or fewer; a class under STOP_MASK is stopped
already. -/
def Dev.marks (m : Dev) (src cls : Nat) : Dev :=
  if src = 0 ∨ 7 ≤ cls then m
  else
    let n := m.classWords src cls
    let st := m.stopped src
    let masked := Nat.testBit (m.stopMask src) cls
    if 10240 < n ∧ !Nat.testBit st cls then
      let m := { m with tr.stopSent := tput (fun _ => 0) m.tr.stopSent src (st + 2 ^ cls) }
      if masked then m else m.sendStop src cls true
    else if n ≤ 5120 ∧ Nat.testBit st cls then
      let m := { m with tr.stopSent := tput (fun _ => 0) m.tr.stopSent src (st - 2 ^ cls) }
      if masked then m else m.sendStop src cls false
    else m

/-- Is a class stopped on a port by its peer (R558, R589)? Class 7 never is. -/
def Dev.peerStopped (m : Dev) (port cls : Nat) : Bool :=
  decide (cls < 7) &&
    (if port < 8 then Nat.testBit (m.g (FAB_LINK_STATUS_PEER_STOPPED port)) cls
     else decide (m.now < tget (fun _ => 0) m.tr.pfcUntil (port * 8 + cls)))

/-! ### Starting a frame (R582, R584) -/

/-- Bytes of an uplink frame on the wire: payload, UDP, IP and Ethernet headers with FCS, padded to 64 bytes, with preamble and
interframe gap. -/
def gramBytes (g : Datagram) : Nat := max 64 (g.body.length + 8 + (if g.v6 then 40 else 20) + 18) + 20

/-- Bits of a frame on the wire. -/
def EFrame.wireBits (f : EFrame) : Nat :=
  match f.gram with
  | some g => gramBytes g * 8
  | none => (f.words.length + 1) * 72

/-- Bit/ns of a port (R587, R594). -/
def Dev.portRate (m : Dev) (port : Nat) : Nat :=
  if port < 8 then 200 else if m.on (UPLINK_CTRL_SPLIT ((port - 8) / 4)) then 25 else 100

/-- The time a frame takes on a port, in ns. -/
def Dev.frameNs (m : Dev) (port : Nat) (f : EFrame) : Nat := ceilDiv f.wireBits (m.portRate port)

/-- May a port send at all: a chain link in HELLO, UP or REFUSED, whose frames are then those R553 allows, or an uplink port that
is up; nothing in a halted device (R561, R603). -/
def Dev.egressUp (m : Dev) (port : Nat) : Bool :=
  !m.halted && (if port < 8 then (let st := m.g (FAB_LINK_STATUS_STATE port); st == 3 || st == 4 || st == 5) else m.uplinkUp (port - 8))

/-- Does the first frame of a class meet every condition of R582 but the fit? -/
def Dev.mayStart (m : Dev) (port cls : Nat) : Bool :=
  !(m.eq port cls).isEmpty && m.gateOpen port cls && !m.peerStopped port cls && (!m.shaped port cls || decide (0 ≤ m.creditNow port cls))

/-- Does a frame end before the gate of its class closes (R584)? -/
def Dev.fitsWindow (m : Dev) (port cls : Nat) (f : EFrame) : Bool :=
  match m.openLeft port cls with
  | none => true
  | some d => decide (m.frameNs port f ≤ d)

/-- A frame that does not fit is held, and counted once (R584). -/
def Dev.holdFit (m : Dev) (port cls : Nat) : Dev :=
  match m.eq port cls with
  | f :: r => if f.held then m else (m.setEq port cls ({ f with held := true } :: r)).incW (GATE_COUNTS_FIT_HOLDS port)
  | [] => m

/-- The class a port takes, from class k − 1 down, with the frames held on the way (R582, R584). -/
def Dev.pickClass (m : Dev) (port : Nat) : Nat → Dev × Option Nat
  | 0 => (m, none)
  | k + 1 =>
    match m.eq port k with
    | f :: _ =>
      if m.mayStart port k then
        if m.on (GATE_CTRL_FIT_HOLD port) && !m.fitsWindow port k f then (m.holdFit port k).pickClass port k else (m, some k)
      else m.pickClass port k
    | [] => m.pickClass port k

/-- The first frame of a class leaves (R582): what it counts, the credit it takes, the time its port is busy, and the room it
leaves in the buffer it came from. -/
def Dev.startFrame (m : Dev) (port cls : Nat) : Dev :=
  match m.eq port cls with
  | [] => m
  | f :: r =>
    let m := (m.setEq port cls r).onlyIf (!m.on (GATE_CTRL_FIT_HOLD port) && !m.fitsWindow port cls f) (fun m => m.incW (GATE_COUNTS_OVERRUNS port))
    let m := m.onlyIf (m.shaped port cls) (fun m => m.setCredit port cls (m.creditNow port cls - ((f.wireBits * 1000000 : Nat) : Int)))
    let m := { m with tr.txEnd := tput (fun _ => 0) m.tr.txEnd port (m.now + m.frameNs port f) }
    let m := match f.gram with
      | some g => m.send (.uplinkFrame (port - 8) cls g)
      | none => m.chainSend port f.words (f.lat + (m.now - f.since))
    m.marks f.src (bits (nthWord f.words 0) 67 65)

/-- The transmitter of a port is idle once its last frame has left; then the next one starts (R582). -/
def Dev.egressStart (m : Dev) (port : Nat) : Dev :=
  let m := m.reach (tget (fun _ => 0) m.tr.txEnd port)
  if m.egressUp port then
    match m.pickClass port 8 with
    | (m, some k) => m.startFrame port k
    | (m, none) => m
  else m

/-- The frames queued on a port are dropped, and counted (R603). -/
def Dev.dropQueues (m : Dev) (port : Nat) : Dev :=
  let n := ((List.range 8).map (fun k => (m.eq port k).length)).sum
  let old := m
  let m := (m.each 8 (fun k m => m.setEq port k [])).addWrap (GATE_COUNTS_QUEUE_DROPS port) n
  (List.range 8).foldl (fun (m : Dev) k => (old.eq port k).foldl (fun (m : Dev) f => m.marks f.src (bits (nthWord f.words 0) 67 65)) m) m

/-! ### Swaps (R585) -/

/-- A pending swap of a port. -/
def Dev.gateSwapOf (m : Dev) (port : Nat) : Option GateSwap := tget (fun _ => none) m.tr.gateNext port

/-- Store or discard a pending swap. -/
def Dev.setGateSwap (m : Dev) (port : Nat) (x : Option GateSwap) : Dev :=
  { m with tr.gateNext := tput (fun _ => none) m.tr.gateNext port x }.pb (GATE_STATUS_SWAP_PENDING port) x.isSome

/-- The first moment of the form base + m × cycle, m from 0, at or after now (R585). -/
def swapMoment (now base cycle : Nat) : Nat := if now ≤ base then base else base + ceilDiv (now - base) cycle * cycle

/-- A swap request with the fields of GATE_CTRL (R585, R586). -/
def Dev.swapRequest (m : Dev) (port : Nat) : Dev :=
  let list := m.g (GATE_CTRL_LIST port)
  let len := m.g (GATE_CTRL_LEN port)
  let cycle := m.g (GATE_CTRL_CYCLE_NS port)
  let w := m.rd (GATE_BASE_addr port)
  let why := m.swapCheck port list len cycle w
  let m := m.p (GATE_STATUS_SWAP_RESULT port) why
  if why = 0 then m.setGateSwap port (some ⟨list, len, cycle, timeNs w, swapMoment m.now (timeNs w) cycle⟩) else m

/-- A write of GATE_CTRL (R583, R585): CANCEL discards a pending swap; SWAP_REQ is ignored while one is pending. -/
def Dev.gateCtrl (m : Dev) (port : Nat) (v : Word) : Dev :=
  let pending := (m.gateSwapOf port).isSome
  let m := (m.settle port).commit (GATE_CTRL_addr port) v
  let m := if bits v 68 68 = 1 then m.setGateSwap port none else m
  if bits v 69 69 = 1 ∧ !pending then m.swapRequest port else m

/-- A write of a gate list entry (R585): ignored for the active list and a pending one. -/
def Dev.gclWrite (m : Dev) (port list e : Nat) (v : Word) : Dev :=
  let busy := (m.g (GATE_STATUS_ACTIVE_LEN port) != 0 && m.g (GATE_STATUS_ACTIVE_LIST port) == list) ||
    (match m.gateSwapOf port with | some x => x.list == list | none => false)
  if busy then m else m.wr (GCL_addr port list e) v

/-- A pending list takes effect at its moment (R585, R587). -/
def Dev.swapEffect (m : Dev) (port : Nat) : Dev :=
  match m.gateSwapOf port with
  | none => m
  | some x =>
    let m := ((m.reach x.at_ns).settle port).setGateSwap port none
    let m := ((m.p (GATE_STATUS_ACTIVE_LIST port) x.list).p (GATE_STATUS_ACTIVE_LEN port) x.len).p (GATE_STATUS_ACTIVE_CYCLE_NS port) x.cycle
    let m := { m with tr.gateBase := tput (fun _ => 0) m.tr.gateBase port x.base }
    let gap := liveGap (m.activeSlots port)
    let m := (m.p (GATE_STATUS_LIVE_GAP_NS port) (min gap 65535)).pb (GATE_STATUS_LIVE_GAP_OVER port) (decide (7000 < gap))
    m.wr (GATE_SWAP_TIME_addr port) (timeWord x.at_ns)

/-! ### Meters (R591–R593) -/

/-- The meter of a UDP datagram that arrived on an uplink: the lowest valid one that matches; none for PTP (R591). -/
def Dev.meterOf (m : Dev) (q dstPort : Nat) : Option Nat :=
  if dstPort = 319 ∨ dstPort = 320 then none
  else (List.range 1024).find? (fun i => m.on (METER_MATCH_VALID i) && Nat.testBit (m.g (METER_MATCH_UPLINK_MASK i)) (q / 4) &&
    decide (m.g (METER_MATCH_UDP_PORT i) ≤ dstPort) && decide (dstPort ≤ m.g (METER_MATCH_PORT_LAST i)))

/-- The rates and sizes of a meter: CIR, PIR in units of 8,000 bytes/s, CBS, PBS in 1/125,000 byte (R592). -/
def Dev.meterPars (m : Dev) (i : Nat) : Nat × Nat × Nat × Nat :=
  let cir := max 1 (m.g (METER_RATE_CIR i))
  (cir, max cir (max 1 (m.g (METER_RATE_PIR i))), max 1 (m.g (METER_BURST_CBS i)) * 125000, max 1 (m.g (METER_BURST_PBS i)) * 125000)

/-- The buckets of a meter; full before its first packet (R592). -/
def Dev.meterBuckets (m : Dev) (i now : Nat) : MeterBuckets :=
  let p := m.meterPars i
  match tget (fun _ => none) m.tr.meters i with
  | some b => b
  | none => ⟨p.2.2.1, p.2.2.2, now⟩

/-- A packet of B bytes meets a meter (R592, R593): whether it passes. -/
def Dev.meterPacket (m : Dev) (i len now : Nat) : Dev × Bool :=
  let p := m.meterPars i
  let b := m.meterBuckets i now
  let dt := now - b.last
  let tc := min p.2.2.1 (b.tc + p.1 * dt)
  let tp := min p.2.2.2 (b.tp + p.2.1 * dt)
  let n := len * 125000
  let put := fun (m : Dev) (tc tp : Nat) => { m with tr.meters := tput (fun _ => none) m.tr.meters i (some ⟨tc, tp, max now b.last⟩) }
  if tp < n then ((put m tc tp).incW (METER_COUNTS_RED i), !m.on (METER_MATCH_RED_DROP i))
  else if tc < n then ((put m tc (tp - n)).incW (METER_COUNTS_YELLOW i), !m.on (METER_MATCH_YELLOW_DROP i))
  else ((put m (tc - n) (tp - n)).incW (METER_COUNTS_GREEN i), true)

/-- A UDP datagram on an uplink port passes its meter, if it has one (R591). -/
def Dev.police (m : Dev) (q dstPort ipLen : Nat) : Dev × Bool :=
  match m.meterOf q dstPort with
  | some i => m.meterPacket i ipLen m.now
  | none => (m, true)

/-- A write of METER_MATCH (R592): the buckets are full when VALID goes from 0 to 1. -/
def Dev.meterMatch (m : Dev) (i : Nat) (v : Word) : Dev :=
  let was := m.on (METER_MATCH_VALID i)
  let m := m.commit (METER_MATCH_addr i) v
  if was && m.on (METER_MATCH_VALID i) then m
  else if m.on (METER_MATCH_VALID i) then
    let p := m.meterPars i
    { m with tr.meters := tput (fun _ => none) m.tr.meters i (some ⟨p.2.2.1, p.2.2.2, m.now⟩) }
  else { m with tr.meters := terase m.tr.meters i }

/-! ### Commands -/

/-- GATE_SWAP_REQ (R585): a write of GATE_CTRL. -/
def execGateSwapReq (mst port : Nat) (v : Word) (s : State) : Host.Outcome State Fault Refusal :=
  .next (s.onM (fun m => m.ifWrite mst (GATE_CTRL_addr (port % 24)) (fun m => m.gateCtrl (port % 24) v)))

/-- GATE_CANCEL (R585): a write of GATE_CTRL. -/
def execGateCancel (mst port : Nat) (v : Word) (s : State) : Host.Outcome State Fault Refusal :=
  .next (s.onM (fun m => m.ifWrite mst (GATE_CTRL_addr (port % 24)) (fun m => m.gateCtrl (port % 24) v)))

/-- GATE_SWAP_EFFECT (R585). -/
def execGateSwapEffect (port : Nat) (s : State) : Host.Outcome State Fault Refusal := .next (s.onM (fun m => m.swapEffect port))

/-- GATE_ENTRY_END (R583): device time reaches the end of the present interval of a list that acts. -/
def execGateEntryEnd (port : Nat) (s : State) : Host.Outcome State Fault Refusal :=
  .next (s.onM (fun m =>
    if m.gatesAct port then (match m.slotsNow port with | (_, d) :: _ => m.reach (m.now + d) | [] => m) else m))

/-- EGRESS_FRAME_START (R582, R584). -/
def execEgressFrameStart (port : Nat) (s : State) : Host.Outcome State Fault Refusal := .next (s.onM (fun m => m.egressStart port))

/-- PFC_FRAME (R589): with PFC_EN, priority k pauses class k for its quanta of 512 bit times; class 7 is never paused. -/
def execPfcFrame (q enables : Nat) (quanta : List Nat) (s : State) : Host.Outcome State Fault Refusal :=
  .next (s.onM (fun m =>
    if m.uplinkUp q && m.on (UPLINK_SRC_PFC_EN q) then
      m.each 7 (fun k m =>
        if Nat.testBit enables k then
          let n := ceilDiv (quanta.getD k 0 % 65536 * 512) (m.portRate (8 + q))
          { m with tr.pfcUntil := tput (fun _ => 0) m.tr.pfcUntil ((8 + q) * 8 + k) (if n = 0 then 0 else m.now + n) }
        else m)
    else m))

/-- PFC_PAUSE_END (R589): the pause of a class runs out. -/
def execPfcPauseEnd (port cls : Nat) (s : State) : Host.Outcome State Fault Refusal :=
  .next (s.onM (fun m =>
    let t := tget (fun _ => 0) m.tr.pfcUntil (port * 8 + cls)
    if 0 < t ∧ cls < 7 then { m.reach t with tr.pfcUntil := terase m.tr.pfcUntil (port * 8 + cls) } else m))

/-- SHAPER_CREDIT (R590): a negative credit rises to zero after the open time that its RATE needs. -/
def execShaperCredit (port cls : Nat) (s : State) : Host.Outcome State Fault Refusal :=
  .next (s.onM (fun m =>
    let c := m.creditNow port cls
    let r := m.g (SHAPER_RATE port cls)
    if m.shaped port cls && decide (c < 0) && r != 0 then
      match m.openMoment port cls (m.openUntil port cls m.now + ((ceilDiv (-c).toNat r : Nat) : Int)) with
      | some t =>
        let m := m.reach t
        m.setCredit port cls (m.creditNow port cls)
      | none => m
    else m))

end Sys2Proof.Machine
end

