-- ==== Sys2Proof/Machine/Capture.lean ====
section
/-!
DEFINITION. Machine/Capture.lean: the 24 capture sources (R323–R339, R348): enabling, CSI-2 ports, ST 2110-20 flows, the
completion of frames, slots, and line groups.
-/

namespace Sys2Proof.Machine

/-! ### Geometry (R223, R325) -/

/-- The picture in slot k of a source's ring, from SRC_FORMAT and the ring entry (R325). -/
def State.srcPic (s : State) (i k : Nat) : Pic :=
  let m := s.m
  let w := m.g (SRC_FORMAT_WIDTH i)
  let h := m.g (SRC_FORMAT_HEIGHT i)
  let c := m.g (SRC_FORMAT_CHROMA i)
  let lanes := lanesOf (m.g (SRC_CTRL_PACKING i))
  { chroma := c, depth := m.g (SRC_FORMAT_DEPTH i), packing := m.g (SRC_CTRL_PACKING i), luma := bits (s.dram (m.g (SRC_RING_RING_ADDR i) + k)) 71 36, pitchY := ceilDiv (ceilDiv w lanes) 8 * 8, pitchC := if c = 0 then 0 else ceilDiv (ceilDiv (ceilDiv w (chromaSub c).1) lanes) 8 * 8, slotRows := h, slotRowsC := ceilDiv h (chromaSub c).2, x0 := 0, y0 := 0, w := w, h := h, transfer := m.g (SRC_FORMAT_TRANSFER i), primaries := m.g (SRC_FORMAT_PRIMARIES i), matrix := m.g (SRC_FORMAT_MATRIX i), full := m.on (SRC_FORMAT_FULL_RANGE i), ident := none }

/-- The words of a slot (R223). -/
def Pic.slotWords (p : Pic) : Nat := p.pitchY * p.slotRows + (if p.chroma = 0 then 0 else 2 * p.pitchC * p.slotRowsC)

/-- Width and height of plane k. -/
def Pic.planeW (p : Pic) (k : Nat) : Nat := if k = 0 then p.w else ceilDiv p.w (chromaSub p.chroma).1
def Pic.planeH (p : Pic) (k : Nat) : Nat := if k = 0 then p.h else ceilDiv p.h (chromaSub p.chroma).2

/-- The descriptor address of slot k (R325). -/
def State.srcDesc (s : State) (i k : Nat) : Nat := bits (s.dram (s.m.g (SRC_RING_RING_ADDR i) + k)) 35 0

/-- Samples packed into words (R11, R222); the lanes past the last sample take those of `beyond`, since R223 leaves them
undefined. -/
def packRow (packing : Nat) (beyond : Word) : Nat → List Nat → List Word
  | 0, _ => []
  | n + 1, xs =>
    let l := lanesOf packing
    let w := (List.range l).foldl (fun (w : Word) j => match xs[j]? with | some v => putSample w packing j v | none => w) beyond
    w :: packRow packing beyond n (xs.drop l)

/-- Write a whole row of a plane. -/
def State.putRow (s : State) (p : Pic) (k y : Nat) (xs : List Nat) : State :=
  let n := ceilDiv (p.planeW k) (lanesOf p.packing)
  (s.onM Dev.freeNext).fw (p.plane k + y * p.pitch k) (packRow p.packing s.m.free n (xs.take (p.planeW k)))

/-- The samples of a row of a plane as they are stored. -/
def State.getRow (s : State) (p : Pic) (k y : Nat) : List (Option Nat) :=
  (List.range (p.planeW k)).map (fun x => s.sample (p.plane k) (p.pitch k) p.packing p.depth x y)

/-- What a lost row of a plane takes (R336): the fill reference's samples, or the FILL value where the source has none or the
reference is poisoned. -/
def State.fillRow (s : State) (i k y : Nat) : List Nat :=
  let f := [s.m.g (SRC_FILL_FILL_Y i), s.m.g (SRC_FILL_FILL_CB i), s.m.g (SRC_FILL_FILL_CR i)].getD k 0
  match (s.m.source i).newest with
  | some j => let p := s.srcPic i j; (s.getRow p k y).map (fun v => v.getD f)
  | none => List.replicate ((s.srcPic i 0).planeW k) f

/-! ### Progress (R338, R339) -/

/-- Store the frame under way. -/
def Dev.setFrame (m : Dev) (i : Nat) (f : CapFrame) : Dev := m.setSource i { m.source i with frame := some f }

/-- LINES_DONE of a source's picture advances, and the lamps that wait for its rows follow. -/
def State.srcLines (s : State) (i luma n : Nat) : State :=
  match s.m.progress.find? (fun e => e.writer == i) with
  | some e =>
    if e.lines < n then
      let s := s.onM (fun m => { m with progress := m.progress.map (fun (e : Progress) => if e.writer == i then { e with lines := n } else e) }.p (SRC_PROGRESS_LINES_DONE i) n)
      s.pictureRows luma n
    else s
  | none => s

/-- Rows from the top that are written in full: LINES_DONE advances in line groups (R339). -/
def State.srcRows (s : State) (i luma rows : Nat) : State :=
  let g := 8 * 2 ^ s.m.g (SRC_CTRL_LINE_GROUP i)
  s.srcLines i luma (rows / g * g)

/-! ### Start and end of a frame -/

/-- The mean difference of the last 17 CAPTURE_TIMEs, newest first (R335). -/
def periodOf (l : List Nat) : Nat := if l.length < 17 then 0 else (l.headD 0 - l.getD 16 0) / 16

/-- A frame starts (R326–R328, R334, R335): the lowest FREE slot is filled, or the frame is discarded with NO_SLOT. -/
def Dev.frameStart (m : Dev) (i luma capture rts : Nat) (free : Option Nat) : Dev :=
  let x := m.source i
  let caps := (capture :: x.caps).take 17
  let m := ({ m with lastCap := tput (fun _ => 0) m.lastCap i capture }.p (SRC_STATUS_PERIOD_NS i) (periodOf caps)).p (SRC_STATUS_STATE i) 3
  let serial := x.serial
  let x := { x with serial := (serial + 1) % 2 ^ 32, caps := caps, skip := none }
  let unlocked := m.g FAB_TIME_STATUS_STATE == 2
  match free with
  | none =>
    let m := m.setSource i { x with skip := some rts }
    (m.srcEvent i (srcEventWord 1 i 15 serial (if unlocked then 1 else 0) 2 0)).1.incW (SRC_COUNTS_DISCARDS i)
  | some k =>
    let m := m.setSource i { x.setSlot k 1 with frame := some { slot := k, serial := serial, capture := capture, began := m.now, unlocked := unlocked, rts := rts } }
    let m := { m with progress := m.progress ++ [(⟨i, luma, 0⟩ : Progress)] }
    let m := ((m.p (SRC_PROGRESS_SERIAL i) serial).p (SRC_PROGRESS_LINES_DONE i) 0).p (SRC_PROGRESS_SLOT i) k
    if m.on (SRC_CTRL_START_EVENT i) then (m.srcEvent i (srcEventWord 2 i k serial (if unlocked then 1 else 0) 0 0)).1 else m

/-- The slot a frame that starts now takes (R326, R338). -/
def Dev.freeSlot (m : Dev) (i : Nat) : Option Nat :=
  if 64 ≤ m.progress.length then none else (List.range (m.g (SRC_RING_SLOTS i))).find? (fun k => (m.source i).slot k == 0)

/-- Start a frame of a source. -/
def State.srcStart (s : State) (i capture rts : Nat) : State :=
  let k := s.m.freeSlot i
  s.onM (fun m => m.frameStart i (s.srcPic i (k.getD 0)).luma capture rts k)

/-- The descriptor of a kept frame (R327). -/
def State.srcDescriptor (s : State) (i : Nat) (f : CapFrame) (short : Bool) : List Word :=
  let p := s.srcPic i f.slot
  [Word.of (at_ 71 40 f.serial + at_ 39 36 0xF + at_ 35 32 p.chroma + at_ 31 28 p.depth + at_ 27 24 p.packing
      + at_ 21 21 (if short || decide (0 < f.lost) then 1 else 0)),
    Word.of (at_ 71 36 p.luma + at_ 35 24 p.pitchY + at_ 23 12 p.pitchC),
    Word.of (at_ 71 56 p.w + at_ 55 40 p.h),
    Word.of (at_ 71 64 p.transfer + at_ 63 56 p.primaries + at_ 55 48 p.matrix + at_ 47 47 (if p.full then 1 else 0)),
    Word.of f.serial, timeWord f.capture, timeWord s.m.now]

/-- A kept slot becomes HELD and the fill reference; the older one is FREE if it was released (R326). A lost FRAME event frees
the slot at once (R328). -/
def Source.keep (x : Source) (k : Nat) (posted : Bool) : Source :=
  let x := match x.newest with | some j => if x.slot j = 3 then x.setSlot j 0 else x | none => x
  { x.setSlot k (if posted then 2 else 0) with newest := if posted then some k else none, frame := none }

/-- The frame under way is kept (R326–R328, R336). -/
def State.srcKeep (s : State) (i : Nat) (f : CapFrame) (short : Bool) : State :=
  let p := s.srcPic i f.slot
  let s := s.srcLines i p.luma p.h
  let s := s.fw (s.srcDesc i f.slot) (s.srcDescriptor i f short)
  s.onM (fun m =>
    let m := ((m.progressEnd i false).incW (SRC_COUNTS_FRAMES i)).addWrap (SRC_ERRORS_FILLED_ROWS i) f.filled
    let m := (m.onlyIf short (fun m => m.incW (SRC_COUNTS_SHORTS i))).onlyIf f.isLong (fun m => m.incW (SRC_COUNTS_LONGS i))
    let flags := f.flags (decide (i < 8)) + (if short then 32 else 0)
    let e := m.srcEvent i (srcEventWord 0 i f.slot f.serial flags 0 f.filled)
    e.1.setSource i ((e.1.source i).keep f.slot e.2))

/-- Rows a … b − 1 of the chroma planes that no packet has written, in a port frame: each repeats the row above it, the first
the fill. -/
def State.fixChroma (s : State) (i : Nat) (p : Pic) (written : List Nat) : State :=
  if p.chroma = 0 then s
  else (List.range (p.planeH 1)).foldl (fun s c =>
    if smem written c then s
    else [1, 2].foldl (fun s k => s.putRow p k c
      (if c = 0 then s.fillRow i k 0 else (s.getRow p k (c - 1)).map (fun v => v.getD 0))) s) s

/-- A port's frame ends (R336). -/
def State.portEnd (s : State) (i : Nat) (f : CapFrame) : State :=
  let p := s.srcPic i f.slot
  if 2 * f.last < p.h then s.onM (fun m => m.srcDiscard i 1)
  else if p.h < 2 * f.lost then s.onM (fun m => m.srcDiscard i 3)
  else
    let short := decide (f.last < p.h)
    let s := (List.range (p.h - f.last)).foldl (fun s j => s.putRow p 0 (f.last + j) ((s.getRow p 0 (f.last - 1)).map (fun v => v.getD 0))) s
    let s := s.fixChroma i p f.chromaRows
    s.srcKeep i { f with filled := f.filled + (p.h - f.last) } short

/-! ### Flows (R333) -/

/-- Is sample x of a row among what came? -/
def covered (l : List (Nat × Nat)) (x : Nat) : Bool := l.any (fun e => decide (e.1 ≤ x) && decide (x < e.1 + e.2))

/-- What came of row y. -/
def CapFrame.come (f : CapFrame) (y : Nat) : List (Nat × Nat) := tget (fun _ => []) f.got y

/-- Has every sample of row y come? -/
def CapFrame.whole (f : CapFrame) (w y : Nat) : Bool := (List.range w).all (covered (f.come y))

/-- Row y is resolved: its missing samples take the fill (R333, R336). -/
def State.flowRow (s : State) (i : Nat) (p : Pic) (f : CapFrame) (y : Nat) : State × CapFrame :=
  let c := f.come y
  let whole := f.whole p.w y
  let mend := fun (s : State) (k yy sub : Nat) =>
    let here := s.getRow p k yy
    let fill := s.fillRow i k yy
    s.putRow p k yy ((List.range (p.planeW k)).map (fun x => if covered c (x * sub) then (here.getD x none).getD 0 else fill.getD x 0))
  let s := mend s 0 y 1
  let sub := chromaSub p.chroma
  let s := if p.chroma ≠ 0 ∧ y % sub.2 = 0 then mend (mend s 1 (y / sub.2) sub.1) 2 (y / sub.2) sub.1 else s
  (s, { f with solid := y + 1, got := terase f.got y, lost := f.lost + (if whole then 0 else 1), filled := f.filled + (if whole then 0 else 1) })

/-- Rows are resolved from the top: every whole one, and every one below `upTo` (R333). -/
def State.flowSolid (s : State) (i : Nat) (p : Pic) (upTo : Nat) : Nat → CapFrame → State × CapFrame
  | 0, f => (s, f)
  | n + 1, f =>
    if f.solid < p.h ∧ (f.solid < upTo ∨ f.whole p.w f.solid) then
      let r := s.flowRow i p f f.solid
      r.1.flowSolid i p upTo n r.2
    else (s, f)

/-- A flow's frame ends (R333, R336): rows never reached are lost. Packets of its timestamp that come later find every row
resolved. -/
def State.flowEnd (s : State) (i : Nat) (f : CapFrame) : State :=
  let p := s.srcPic i f.slot
  let r := s.flowSolid i p p.h (p.h + 1) f
  let s := r.1.onM (fun m => m.setFrame i r.2)
  let s := if p.h < 2 * r.2.lost then s.onM (fun m => m.srcDiscard i 3) else s.srcKeep i r.2 false
  s.onM (fun m => m.setSource i { m.source i with skip := some f.rts })

/-- The frame under way ends (R336). -/
def State.srcEnd (s : State) (i : Nat) : State :=
  match (s.m.source i).frame with
  | some f => if i < 8 then s.portEnd i f else s.flowEnd i f
  | none => s

/-- Loss of signal (R329): the frame ends, and STATE reads NO_SIGNAL. -/
def State.noSignal (s : State) (i : Nat) : State :=
  if s.m.on (SRC_CTRL_ENABLE i) then (s.srcEnd i).onM (fun m => (m.setSource i { m.source i with skip := if i < 8 then none else (m.source i).skip }).p (SRC_STATUS_STATE i) 1)
  else s

/-- The samples of one header are written, but where the row is resolved (R333). -/
def State.flowSamples (s : State) (p : Pic) (f : CapFrame) (r : FlowRow) : State × CapFrame :=
  if r.row < f.solid ∨ f.whole p.w r.row then (s, f)
  else
    let sub := chromaSub p.chroma
    let put := fun (s : State) (k x0 y : Nat) (xs : List Nat) =>
      (List.range xs.length).foldl (fun (s : State) j => s.putPixel (p.plane k) (p.pitch k) p.packing (x0 + j) y (xs.getD j 0)) s
    let s := put s 0 r.offset r.row r.luma
    let s := if p.chroma ≠ 0 ∧ r.row % sub.2 = 0 then put (put s 1 (r.offset / sub.1) (r.row / sub.2) r.cb) 2 (r.offset / sub.1) (r.row / sub.2) r.cr else s
    (s, { f with got := tput (fun _ => []) f.got r.row (f.come r.row ++ [(r.offset, r.luma.length)]), top := max f.top (r.row + 1) })

/-- The device time nearest a moment whose count of 90 kHz periods is an RTP timestamp modulo 2^32 (R334). -/
def rtpTime (at_ns rts : Nat) : Nat :=
  let k : Int := ((2 * at_ns * 9 + 100000) / 200000 : Nat)
  let d := signedOf 32 ((((rts : Int) - k) % 4294967296).toNat)
  ceilDiv ((k + d).toNat * 100000) 9

/-- A packet of a flow (R333): a header outside the picture or with a field bit discards it. -/
def State.flowPacket (s : State) (i : Nat) (x : FlowPacket) : State :=
  let src := s.m.source i
  if src.skip = some x.rts then s
  else
    let s := match src.frame with
      | some f => if f.rts = x.rts then s else s.srcEnd i
      | none => s
    let s := if (s.m.source i).frame.isNone then s.srcStart i (rtpTime x.at_ns x.rts) x.rts else s
    match (s.m.source i).frame with
    | none => s
    | some f =>
      let p := s.srcPic i f.slot
      if x.rows.any (fun r => r.field || decide (p.h ≤ r.row) || decide (p.w < r.offset + r.luma.length) || decide (p.w ≤ r.offset)) then
        s.onM (fun m => m.incW (SRC_ERRORS_PKT_ERRORS i))
      else
        let r := x.rows.foldl (fun (a : State × CapFrame) r => a.1.flowSamples p a.2 r) (s, f)
        let r := r.1.flowSolid i p (r.2.top - 4) (p.h + 1) r.2
        let s := (r.1.onM (fun m => m.setFrame i r.2)).srcRows i p.luma r.2.solid
        if x.marker then s.srcEnd i else s

/-- Does a packet belong to an enabled flow (R333)? -/
def Dev.flowTakes (m : Dev) (f : Nat) (x : FlowPacket) : Bool :=
  m.on (SRC_CTRL_ENABLE (8 + f)) && m.uplinkPort (m.g (FLOW_LINK_UPLINK f)) (m.g (FLOW_LINK_SUBPORT f)) == x.q &&
    m.g (FLOW_DST_HI_ADDR f) == x.hi && m.g (FLOW_DST_LO_ADDR f) == x.lo && m.g (FLOW_LINK_UDP_PORT f) == x.dstPort &&
    m.g (FLOW_LINK_PT f) == x.pt && (!m.on (FLOW_LINK_SSRC_MATCH f) || m.g (FLOW_LINK_SSRC f) == x.ssrc)

/-! ### Ports (R331) -/

/-- Does a port take packets: enabled and not without signal? -/
def Dev.portTakes (m : Dev) (p vc : Nat) : Bool :=
  decide (p < 8) && m.on (SRC_CTRL_ENABLE p) && m.g (SRC_STATUS_STATE p) != 1 && m.g (CAP_LINK_VC p) == vc

/-- Row y of a port's frame is lost (R336): it takes the fill, its chroma row with it. -/
def State.portLost (s : State) (i : Nat) (p : Pic) (f : CapFrame) (y : Nat) : State × CapFrame :=
  let sub := chromaSub p.chroma
  let carries := decide (p.chroma ≠ 0) && (y + 1) % sub.2 == 0
  let s := s.putRow p 0 y (s.fillRow i 0 y)
  let s := if carries then [1, 2].foldl (fun s k => s.putRow p k (y / sub.2) (s.fillRow i k (y / sub.2))) s else s
  (s, { f with lost := f.lost + 1, filled := f.filled + 1, chromaRows := if carries then sinsert f.chromaRows (y / sub.2) else f.chromaRows })

/-- Samples brought to a width by repeating the last (R336). -/
def padRow (w : Nat) (xs : List Nat) : List Nat := xs.take w ++ List.replicate (w - xs.length) (xs.getLastD 0)

/-- A row that arrived is written (R331, R336). -/
def State.portRow (s : State) (p : Pic) (f : CapFrame) (luma cb cr : List Nat) : State × CapFrame :=
  let y := f.next
  let sub := chromaSub p.chroma
  let c := decide (p.chroma ≠ 0) && (y + 1) % sub.2 == 0 && !cb.isEmpty && !cr.isEmpty
  let s := s.putRow p 0 y (padRow p.w luma)
  let s := if c then (s.putRow p 1 (y / sub.2) (padRow (p.planeW 1) cb)).putRow p 2 (y / sub.2) (padRow (p.planeW 2) cr) else s
  (s, { f with badWidth := f.badWidth || luma.length != p.w, filled := f.filled + (if luma.length < p.w then 1 else 0), chromaRows := if c then sinsert f.chromaRows (y / sub.2) else f.chromaRows })

/-- A long packet of the port's data type (R331, R336). -/
def State.portPacket (s : State) (i : Nat) (crc : Bool) (luma cb cr : List Nat) : State :=
  let s := if crc then s else s.onM (fun m => m.incW (SRC_ERRORS_PKT_ERRORS i))
  match (s.m.source i).frame with
  | none => s
  | some f =>
    let p := s.srcPic i f.slot
    if p.h ≤ f.next then s.onM (fun m => m.setFrame i { f with isLong := true, next := f.next + 1 })
    else
      let r := if crc && !luma.isEmpty then s.portRow p f luma cb cr else s.portLost i p f f.next
      let g := { r.2 with next := f.next + 1, last := if luma.isEmpty then f.last else f.next + 1 }
      (r.1.onM (fun m => m.setFrame i g)).srcRows i p.luma g.next

/-- A line start packet (R331): rows skipped are lost. -/
def State.lineStart (s : State) (i line : Nat) : State :=
  match (s.m.source i).frame with
  | none => s
  | some f =>
    let p := s.srcPic i f.slot
    let y := line - 1
    if y ≤ f.next then s
    else
      let r := (List.range (min y p.h - f.next)).foldl (fun (a : State × CapFrame) j => a.1.portLost i p a.2 (f.next + j)) (s, f)
      (r.1.onM (fun m => m.setFrame i { r.2 with next := y })).srcRows i p.luma (min y p.h)

/-! ### Enabling (R324) -/

/-- Does the data type of a port agree with its format (R330)? -/
def dtAgrees (dt chroma depth matrix : Nat) : Bool :=
  match dt with
  | 0x18 => chroma == 1 && depth == 8
  | 0x19 => chroma == 1 && depth == 10
  | 0x1E => chroma == 2 && depth == 8
  | 0x1F => chroma == 2 && depth == 10
  | 0x24 => chroma == 3 && depth == 8 && matrix == 0
  | _ => false

/-- Is SRC_FORMAT valid for its source (R324, R330, R332)? -/
def Dev.srcFormatOk (m : Dev) (i : Nat) : Bool :=
  let w := m.g (SRC_FORMAT_WIDTH i)
  let h := m.g (SRC_FORMAT_HEIGHT i)
  let c := m.g (SRC_FORMAT_CHROMA i)
  let d := m.g (SRC_FORMAT_DEPTH i)
  (if i < 8 then dtAgrees (m.g (CAP_LINK_DT i)) c d (m.g (SRC_FORMAT_MATRIX i)) else decide (1 ≤ c ∧ c ≤ 3) && (d == 8 || d == 10)) &&
    decide (16 ≤ w) && decide (w ≤ 8192) && decide (16 ≤ h) && decide (h ≤ 8704) && decide (w * h ≤ 35651584)

/-- The first failing check of R324, 0 for none. -/
def State.srcCheck (s : State) (i : Nat) : Nat :=
  let m := s.m
  let n := m.g (SRC_CTRL_CHANNEL i)
  let slots := m.g (SRC_RING_SLOTS i)
  let st := (m.th n).st
  let ring := decide (1 ≤ slots) && decide (slots ≤ 16) && s.owns n (m.g (SRC_RING_RING_ADDR i)) slots &&
    (List.range slots).all (fun k => let p := s.srcPic i k; s.owns n p.luma p.slotWords && s.owns n (s.srcDesc i k) 7)
  let packing := m.g (SRC_CTRL_PACKING i)
  if st = .empty ∨ st = .isolated then 1
  else if !m.srcFormatOk i then 2
  else if !ring then 3
  else if !(m.chanFifo (m.g (SRC_CTRL_EVENT_FIFO i)) n && m.chanFifo (m.g (SRC_CTRL_RETURN_FIFO i)) n) then 4
  else if !(packing == 0 || (packing == 1 && m.g (SRC_FORMAT_DEPTH i) == 8)) then 5
  else if 8 ≤ i ∧ !m.uplinkUp (m.uplinkPort (m.g (FLOW_LINK_UPLINK (i - 8))) (m.g (FLOW_LINK_SUBPORT (i - 8)))) then 6
  else 0

/-- A source is enabled (R324, R327, R332, R335). -/
def Dev.srcOn (m : Dev) (i : Nat) : Dev :=
  let m := m.setSource i { m.source i with serial := 0, frame := none, caps := [], skip := none }
  let m := ((m.p (SRC_CTRL_ENABLE i) 1).p (SRC_STATUS_ENABLE_REASON i) 0).p (SRC_STATUS_PERIOD_NS i) 0
  let m := m.p (SRC_STATUS_STATE i) (if i < 8 ∧ m.g CLK_STATUS_CAP ≠ 1 then 1 else 2)
  if i < 8 then m
  else m.groupMember (m.uplinkPort (m.g (FLOW_LINK_UPLINK (i - 8))) (m.g (FLOW_LINK_SUBPORT (i - 8)))) (m.g (FLOW_DST_HI_ADDR (i - 8)))
    (m.g (FLOW_DST_LO_ADDR (i - 8))) true

/-- A write of SRC_CTRL (R324, R348): while ENABLE = 1 only ENABLE is taken. -/
def State.srcCtrl (s : State) (i : Nat) (v : Word) : State :=
  if s.m.on (SRC_CTRL_ENABLE i) then (if bits v 71 71 = 0 then s.onM (fun m => m.srcStop i) else s)
  else
    let s := s.onM (fun m => (m.commit (SRC_CTRL_addr i) v).p (SRC_CTRL_ENABLE i) 0)
    if bits v 71 71 = 0 then s
    else
      let why := s.srcCheck i
      if why = 0 then s.onM (fun m => m.srcOn i) else s.onM (fun m => (m.p (SRC_STATUS_STATE i) 4).p (SRC_STATUS_ENABLE_REASON i) why)

/-- A word of a return FIFO (R326). -/
def Dev.slotRelease (m : Dev) (i : Nat) (w : Word) : Dev :=
  let x := m.source i
  let k := bits w 62 59
  if bits w 67 63 ≠ i ∨ x.slot k ≠ 2 then m.incW (SRC_ERRORS_RELEASE_ERRS i)
  else m.setSource i (x.setSlot k (if x.newest = some k then 3 else 0))

/-! ### Commands -/

/-- SRC_ENABLE (R324): a write of SRC_CTRL. -/
def execSrcEnable (mst i : Nat) (v : Word) (s : State) : Host.Outcome State Fault Refusal :=
  .next (s.ifWrite mst (SRC_CTRL_addr (i % 24)) (fun s => s.srcCtrl (i % 24) v))

/-- SRC_DISABLE (R336, R348): a write of SRC_CTRL. -/
def execSrcDisable (mst i : Nat) (v : Word) (s : State) : Host.Outcome State Fault Refusal :=
  .next (s.ifWrite mst (SRC_CTRL_addr (i % 24)) (fun s => s.srcCtrl (i % 24) v))

/-- CSI_FRAME_START (R326, R331, R334): a frame still under way ends first (R336). -/
def execCsiFrameStart (p vc : Nat) (s : State) : Host.Outcome State Fault Refusal :=
  .next (if s.m.portTakes p vc then (s.srcEnd p).srcStart p s.m.now 0 else s)

/-- CSI_LONG_PACKET (R331). -/
def execCsiLongPacket (p vc dt : Nat) (ecc crc : Bool) (luma cb cr : List Nat) (s : State) : Host.Outcome State Fault Refusal :=
  .next (if !ecc then
      (if decide (p < 8) && s.m.on (SRC_CTRL_ENABLE p) && s.m.g (SRC_STATUS_STATE p) != 1 then s.onM (fun m => m.incW (SRC_ERRORS_PKT_ERRORS p)) else s)
    else if !s.m.portTakes p vc then s
    else if dt ≠ s.m.g (CAP_LINK_DT p) then s.onM (fun m => m.incW (SRC_ERRORS_OTHER_PKTS p))
    else s.portPacket p crc luma cb cr)

/-- CSI_LINE_START (R331). -/
def execCsiLineStart (p vc line : Nat) (s : State) : Host.Outcome State Fault Refusal :=
  .next (if s.m.portTakes p vc && s.m.on (CAP_LINK_LINE_NUMBERS p) then s.lineStart p line else s)

/-- CSI_FRAME_END (R336): with no frame started it is counted. -/
def execCsiFrameEnd (p vc : Nat) (s : State) : Host.Outcome State Fault Refusal :=
  .next (if s.m.portTakes p vc then
      let x := s.m.source p
      if x.frame.isSome then s.srcEnd p
      else if x.skip.isSome then s.onM (fun m => m.setSource p { x with skip := none })
      else s.onM (fun m => m.incW (SRC_ERRORS_PKT_ERRORS p))
    else s)

/-- FLOW_PACKET (R333, R591, R595). -/
def execFlowPacket (f : Nat) (x : FlowPacket) (s : State) : Host.Outcome State Fault Refusal :=
  .next (if decide (f < 16) && decide (x.q < 16) && s.m.uplinkUp x.q then
      let r := (s.m.incW (UPLINK_COUNTS_RX_FRAMES x.q)).police x.q x.dstPort x.ipLen
      let s := { s with m := r.1 }
      if !r.2 then s
      else if s.m.flowTakes f x then s.flowPacket (8 + f) x
      else s.onM (fun m => m.incW (UPLINK_COUNTS_RX_OTHER x.q))
    else s)

/-- FRAME_TIMEOUT (R336). -/
def execFrameTimeout (i : Nat) (s : State) : Host.Outcome State Fault Refusal :=
  .next (match (s.m.source i).frame with
    | some f => (s.onM (fun m => m.reach (f.began + max 1 (m.g (SRC_CTRL_FRAME_TIMEOUT i)) * 1000000))).srcEnd i
    | none => s)

/-- CAPTURE_NO_SIGNAL (R329). -/
def execCaptureNoSignal (p : Nat) (s : State) : Host.Outcome State Fault Refusal := .next (if p < 8 then s.noSignal p else s)

/-- CSI_CLOCK_LANE_ACTIVE (R329). -/
def execCsiClockLaneActive (p : Nat) (s : State) : Host.Outcome State Fault Refusal :=
  .next (s.onM (fun m =>
    if decide (p < 8) && m.g (SRC_STATUS_STATE p) == 1 && m.g CLK_STATUS_CAP == 1 then m.p (SRC_STATUS_STATE p) 2 else m))

/-- SLOT_RELEASE (R326): the source takes an entry of its return FIFO. -/
def execSlotRelease (i : Nat) (s : State) : Host.Outcome State Fault Refusal :=
  .next (s.onM (fun m =>
    if decide (i < 24) && (m.on (SRC_CTRL_ENABLE i) || !(m.source i).slots.isEmpty) then
      match m.fifoPop (m.g (SRC_CTRL_RETURN_FIFO i)) with
      | (m, some w) => m.slotRelease i w
      | (m, none) => m
    else m))

end Sys2Proof.Machine
end

