-- ==== Sys2Proof/Machine/Scaler.lean ====
section
/-!
DEFINITION. Machine/Scaler.lean: the four scaler-rotators (R340–R347): bands, AXIS and AFFINE sampling, colour conversion, the checks,
and completion.
-/

namespace Sys2Proof.Machine

/-! ### Kernels of AXIS mode (R343) -/

/-- The integer part of π × 2^96. -/
def piFix : Int := 248902613312231085230521944622

/-- The Taylor terms of the sine from the k-th on: `t` is the present term, y2 the square, all in 1/2^96. -/
def sinTerms : Nat → Int → Int → Nat → Int
  | 0, _, _, _ => 0
  | n + 1, t, y2, k => t + sinTerms n (-(t * y2 / 2 ^ 96) / (((2 * k) * (2 * k + 1) : Nat) : Int)) y2 (k + 1)

/-- sin(π n ÷ d) in 1/2^96. -/
def sinPi (n : Int) (d : Nat) : Int :=
  let r := n % (2 * d : Nat)
  let neg := decide ((d : Int) ≤ r)
  let r := if neg then r - d else r
  let r := if (d : Int) < 2 * r then d - r else r
  let y := piFix * r / d
  let v := sinTerms 24 y (y * y / 2 ^ 96) 1
  if neg then -v else v

/-- sinc(t) × sinc(t ÷ a) at t = n ÷ d, in 1/2^96; zero from |t| = a on. -/
def windowed (a : Nat) (n : Int) (d : Nat) : Int :=
  if n = 0 then 2 ^ 96
  else if a * d ≤ n.natAbs then 0
  else sinPi n d * sinPi n (a * d) * ((a * d * d : Nat) : Int) * 2 ^ 96 / (piFix * piFix * (n * n))

/-- Mitchell–Netravali with B = C = 1/3 at t = n ÷ d, in units of 1 ÷ (18 d³). -/
def mitchellAt (n : Int) (d : Nat) : Int :=
  let a := (n.natAbs : Int)
  let d : Int := d
  if a < d then 21 * a ^ 3 - 36 * a ^ 2 * d + 16 * d ^ 3
  else if a < 2 * d then 36 * a ^ 2 * d - 7 * a ^ 3 - 60 * a * d ^ 2 + 32 * d ^ 3 else 0

/-- The linear kernel at t = n ÷ d, in units of 1 ÷ d. -/
def tentAt (n : Int) (d : Nat) : Int := if n.natAbs < d then (d : Int) - n.natAbs else 0

/-- The taps of AXIS mode at a phase, for a ratio rn ÷ rd of at most 1 (R343). -/
def axisTaps (filter : Nat) (luma : Bool) (rn rd phase : Nat) : List Int :=
  let at_ := fun (h : Int → Nat → Int) (t : Nat) =>
    tapsOf ((List.range t).map (fun (k : Nat) => h ((64 * ((k : Int) - (t / 2 : Nat) + 1) - phase) * rn) (64 * rd)))
  if filter = 0 then (if luma then at_ (windowed 4) 8 else at_ (windowed 2) 4)
  else if filter = 1 then at_ mitchellAt 4 else at_ tentAt 2

/-- The separable filter of AXIS mode at (u, v) in 1/64, by the ratios of the two dimensions: horizontally first, intermediates
rounded half up to the fraction they keep (Config.axisFrac), the result clipped (R343). -/
def axisValue (get : Int → Int → Nat) (filter : Nat) (luma : Bool) (rx ry : Nat × Nat) (depth : Nat) (u v : Int) : Nat :=
  if filter = 3 then get (nearest u) (nearest v)
  else
    let (i, pu) := posSplit u
    let (j, pv) := posSplit v
    let tx := axisTaps filter luma rx.1 rx.2 pu
    let ty := axisTaps filter luma ry.1 ry.2 pv
    let off := fun (t : List Int) => (1 : Int) - (t.length / 2 : Nat)
    let f := min 8 Config.axisFrac
    let row := fun (y : Int) =>
      rdiv (((List.range tx.length).map (fun (c : Nat) => tx.getD c 0 * (get (i + c + off tx) y : Int))).sum) (2 ^ (8 - f))
    clampN (rdiv (((List.range ty.length).map (fun (r : Nat) => ty.getD r 0 * row (j + r + off ty))).sum) (256 * 2 ^ f)) (2 ^ depth - 1)

/-! ### The block (R341) -/

/-- A SCALE command's geometry: the source with its whole size, the crop and the output. -/
structure ScaleJob where
  b : List Word
  src : Pic
  out : Pic
  cx : Nat
  cy : Nat
  cw : Nat
  ch : Nat
  deriving DecidableEq, Repr

/-- The fields of a block, with the source descriptor as it stands. -/
def State.scaleJob (s : State) (n : Nat) (b : List Word) : ScaleJob :=
  let w0 := nthWord b 0
  let w3 := nthWord b 3
  let w4 := nthWord b 4
  let d := bits (nthWord b 1) 71 36
  let p := s.picOf n d
  let src : Pic := { p with x0 := 0, y0 := 0, w := bits (s.dram (d + 2)) 71 56, h := bits (s.dram (d + 2)) 55 40, ident := none }
  let csc := bits w0 55 52
  let h := bits w4 55 40
  let chroma := bits w0 50 49
  let out : Pic := { chroma := chroma, depth := bits w0 48 45, packing := bits w0 44 41, luma := bits w3 71 36, pitchY := bits w3 35 24, pitchC := bits w3 23 12, slotRows := h, slotRowsC := ceilDiv h (chromaSub chroma).2, x0 := 0, y0 := 0, w := bits w4 71 56, h := h, transfer := src.transfer, primaries := src.primaries, matrix := if csc = 1 then 0 else if csc = 2 ∨ csc = 4 then 1 else if csc = 3 ∨ csc = 5 then 9 else src.matrix, full := bits w0 51 51 == 1, ident := none }
  ⟨b, src, out, bits (nthWord b 2) 71 56, bits (nthWord b 2) 55 40, bits (nthWord b 2) 39 24, bits (nthWord b 2) 23 8⟩

/-- Fields of word 0. -/
def ScaleJob.affine (j : ScaleJob) : Bool := bits (nthWord j.b 0) 63 62 == 1
def ScaleJob.rot (j : ScaleJob) : Nat := bits (nthWord j.b 0) 61 60
def ScaleJob.filter (j : ScaleJob) : Nat := bits (nthWord j.b 0) 57 56
def ScaleJob.csc (j : ScaleJob) : Nat := bits (nthWord j.b 0) 55 52

/-- The work of a command (R340). -/
def ScaleJob.work (j : ScaleJob) : Nat := max (j.out.w * j.out.h) (j.cw * j.ch / 4) * (if j.affine then 2 else 1)

/-- Output rows per band (R340). -/
def ScaleJob.bandRows (j : ScaleJob) : Nat := max 1 (min 16 (262144 * j.out.h / max 1 j.work))

/-- The words of a picture's planes lie in the buffers that an engine may reach (R347). -/
def State.picReach (s : State) (t : Nat) (p : Pic) : Bool := p.planes.all (fun k => s.engOwns t (p.plane k) (p.planeWords k))

/-- The words of a source descriptor: 7 when STANDARD is Fh (R327, R346). -/
def State.descLen (s : State) (a : Nat) : Nat := if bits (s.dram a) 39 36 = 15 then 7 else 5

/-- The check of addresses (R347). -/
def State.scaleBounds (s : State) (t : Nat) (j : ScaleJob) : Bool :=
  let d := bits (nthWord j.b 1) 71 36
  s.engOwns t d (s.descLen d) && s.engOwns t (bits (nthWord j.b 1) 35 0) 7 && s.picReach t j.src && s.picReach t j.out

/-- The size of the crop of plane k after rotation. -/
def ScaleJob.rotated (j : ScaleJob) (k : Nat) : Nat × Nat :=
  let sub := if k = 0 then (1, 1) else chromaSub j.src.chroma
  let w := ceilDiv j.cw sub.1
  let h := ceilDiv j.ch sub.2
  if !j.affine && j.rot % 2 == 1 then (h, w) else (w, h)

/-- Is CSC valid for the source (R345)? -/
def ScaleJob.cscOk (j : ScaleJob) : Bool :=
  let ycc := j.src.matrix == 1 || j.src.matrix == 5 || j.src.matrix == 6 || j.src.matrix == 9
  if j.csc = 0 then true else if j.csc = 1 ∨ j.csc = 4 ∨ j.csc = 5 then ycc else if j.csc ≤ 3 then j.src.matrix == 0 else false

/-- The checks that end in PARAM (R347). -/
def ScaleJob.ok (j : ScaleJob) : Bool :=
  let w0 := nthWord j.b 0
  let r := j.rotated 0
  let ratio := fun (o n : Nat) => decide (n ≤ 16 * o) && decide (o ≤ 16 * n)
  let coef := fun (i : Nat) => decide ((signedOf 18 (bits (nthWord j.b 5) (18 * i + 17) (18 * i))).natAbs ≤ 32768)
  let even := fun (x : Nat) => x % 2 == 0
  bits w0 71 64 == 1 && decide (bits w0 63 62 ≤ 1) && bits w0 8 0 == 0 && bits (nthWord j.b 2) 7 0 == 0 && bits (nthWord j.b 3) 11 0 == 0 &&
    bits (nthWord j.b 4) 39 36 == 0 && j.cscOk && j.src.formatOk && j.out.formatOk &&
    decide (16 ≤ j.out.w ∧ j.out.w ≤ 8192 ∧ 16 ≤ j.out.h ∧ j.out.h ≤ 8192) &&
    decide (1 ≤ j.cw ∧ 1 ≤ j.ch ∧ j.cx + j.cw ≤ j.src.w ∧ j.cy + j.ch ≤ j.src.h) &&
    (!(j.src.chroma == 1 || j.src.chroma == 2) || (even j.cx && even j.cw)) && (j.src.chroma != 1 || (even j.cy && even j.ch)) &&
    (if j.affine then (List.range 4).all coef else ratio j.out.w r.1 && ratio j.out.h r.2)

/-! ### Reading the source -/

/-- A sample of a source plane. One that is poisoned, or in a row that its abandoned writer left unwritten (`lines` is the rows
written plus 1), is a free value (R338). -/
def State.scaleSample (s : State) (p : Pic) (lines k x y : Nat) : Nat :=
  let sub := if k = 0 then 1 else (chromaSub p.chroma).2
  let v := if lines ≠ 0 ∧ lines ≤ y * sub + 1 then none else s.sample (p.plane k) (p.pitch k) p.packing p.depth x y
  v.getD (s.m.free.toNat % 2 ^ p.depth)

/-- The cropped, mirrored and rotated plane k (R342), by coordinates inside its size. -/
def State.turned (s : State) (j : ScaleJob) (lines k x y : Nat) : Nat :=
  let w0 := nthWord j.b 0
  let sub := if k = 0 then (1, 1) else chromaSub j.src.chroma
  let w := ceilDiv j.cw sub.1
  let h := ceilDiv j.ch sub.2
  let p := if j.rot = 0 then (x, y) else if j.rot = 1 then (y, h - 1 - x) else if j.rot = 2 then (w - 1 - x, h - 1 - y) else (w - 1 - y, x)
  let px := if bits w0 59 59 = 1 then w - 1 - p.1 else p.1
  let py := if bits w0 58 58 = 1 then h - 1 - p.2 else p.2
  s.scaleSample j.src lines k (j.cx / sub.1 + px) (j.cy / sub.2 + py)

/-- How often pairs are averaged to bring a ratio to 1/2 or above (R342). -/
def halvings : Nat → Nat → Nat → Nat
  | 0, _, _ => 0
  | n + 1, out, size => if 2 * out < size then halvings n out ((size + 1) / 2) + 1 else 0

/-- The size after a number of halvings. -/
def halved : Nat → Nat → Nat
  | 0, size => size
  | n + 1, size => halved n ((size + 1) / 2)

/-- Pairs averaged n times along x, rounding half up; a last sample without a partner pairs with itself. -/
def halveX (get : Nat → Nat → Nat) (size : Nat) : Nat → Nat → Nat → Nat
  | 0, x, y => get x y
  | n + 1, x, y =>
    let top := halved n size - 1
    (halveX get size n (min (2 * x) top) y + halveX get size n (min (2 * x + 1) top) y + 1) / 2

/-- The same along y. -/
def halveY (get : Nat → Nat → Nat) (size : Nat) (n x y : Nat) : Nat := halveX (fun a b => get b a) size n y x

/-- A position that is num ÷ den before n halvings, in 1/64 after them (R342). -/
def halvedPos (num : Int) (den n : Nat) : Int := to64 (2 * num + den - ((2 ^ n * den : Nat) : Int), 2 * den * 2 ^ n)

/-- Plane k of AXIS mode read at the position (nu, nv), each a fraction in samples of the rotated plane, for an output of
size (ow, oh). -/
def State.axisRead (s : State) (j : ScaleJob) (lines k ow oh : Nat) (nu nv : Int × Nat) : Nat :=
  let r := j.rotated k
  let hx := halvings 8 ow r.1
  let hy := halvings 8 oh r.2
  let sx := halved hx r.1
  let sy := halved hy r.2
  let get := fun (x y : Int) =>
    halveY (halveX (s.turned j lines k) r.1 hx) r.2 hy (clampI x 0 ((sx : Int) - 1)) (clampI y 0 ((sy : Int) - 1))
  let ratio := fun (o z : Nat) => if o < z then (o, z) else (1, 1)
  axisValue get j.filter (k == 0) (ratio ow sx) (ratio oh sy) j.src.depth (halvedPos nu.1 nu.2 hx) (halvedPos nv.1 nv.2 hy)

/-- (x + 0.5) × (n ÷ m) − 0.5 for x = a2 ÷ 2 (R342). -/
def axisAt (a2 : Int) (n m : Nat) : Int × Nat := ((a2 + 1) * n - m, 2 * m)

/-- The chroma position of a luma position: less the siting offset in half samples, by the subsampling (R345). -/
def sited (f : Int × Nat) (sub : Nat) (off2 : Int) : Int × Nat := (2 * f.1 - off2 * f.2, 2 * f.2 * sub)

/-- The siting offset of chroma in the rotated crop, in half samples, and its subsampling, for x and y: columns are co-sited, rows
of 4:2:0 lie between (R345). -/
def ScaleJob.siting (j : ScaleJob) : (Int × Nat) × (Int × Nat) :=
  let w0 := nthWord j.b 0
  let sub := chromaSub j.src.chroma
  let flip := fun (on : Bool) (o : Int) (k : Nat) => if on then 2 * ((k : Int) - 1) - o else o
  let o := flip (bits w0 59 59 == 1) 0 sub.1
  let v := flip (bits w0 58 58 == 1) (if sub.2 = 2 then 1 else 0) sub.2
  if j.rot = 0 then ((o, sub.1), (v, sub.2))
  else if j.rot = 1 then ((flip true v sub.2, sub.2), (o, sub.1))
  else if j.rot = 2 then ((flip true o sub.1, sub.1), (flip true v sub.2, sub.2))
  else ((v, sub.2), (flip true o sub.1, sub.1))

/-- Component k at an output luma position (a2 ÷ 2, b2 ÷ 2), at the source depth. -/
def State.scaleAt (s : State) (j : ScaleJob) (lines k : Nat) (a2 b2 : Int) : Nat :=
  let mid := 2 ^ (j.src.depth - 1)
  if k ≠ 0 ∧ j.src.chroma = 0 then mid
  else if j.affine then
    let q := affinePos (nthWord j.b 5) (nthWord j.b 6) a2 b2
    let sub := if k = 0 then (1, 1) else chromaSub j.src.chroma
    let u := if sub.1 = 2 then (q.1 + 1) / 2 else q.1
    let v := if sub.2 = 2 then (q.2 - 32 + 1) / 2 else q.2
    let f := bits (nthWord j.b 4) (35 - 12 * k) (24 - 12 * k)
    let sh := j.out.depth - j.src.depth
    let fill := if j.src.depth ≤ j.out.depth then min ((f + 2 ^ sh / 2) / 2 ^ sh) (2 ^ j.src.depth - 1) else f * 2 ^ (j.src.depth - j.out.depth)
    let w : Int := (ceilDiv j.cw sub.1 : Nat)
    let h : Int := (ceilDiv j.ch sub.2 : Nat)
    let get := fun (x y : Int) =>
      if 0 ≤ x ∧ x < w ∧ 0 ≤ y ∧ y < h then some (s.scaleSample j.src lines k (j.cx / sub.1 + x.toNat) (j.cy / sub.2 + y.toNat)) else some fill
    (filtered get j.filter j.src.depth u v).getD 0
  else
    let r := j.rotated 0
    let u := axisAt a2 r.1 j.out.w
    let v := axisAt b2 r.2 j.out.h
    if k = 0 then
      if r.1 = j.out.w ∧ r.2 = j.out.h then s.turned j lines 0 (a2 / 2).toNat (b2 / 2).toNat else s.axisRead j lines 0 j.out.w j.out.h u v
    else
      let q := j.siting
      s.axisRead j lines k j.out.w j.out.h (sited u q.1.2 q.1.1) (sited v q.2.2 q.2.1)

/-- Do the chroma planes scale as planes of their own: no conversion, the same format, and no 4:2:2 turned on its side (R342)? -/
def ScaleJob.planar (j : ScaleJob) : Bool :=
  !j.affine && j.src.chroma == j.out.chroma && (j.src.chroma != 2 || j.rot % 2 == 0)

/-! ### Colour (R345) -/

/-- A fraction as a luma code. -/
def lumaCode (full : Bool) (depth : Nat) (f : Int × Nat) : Nat :=
  clampN (if full then rdiv (f.1 * (2 ^ depth - 1)) f.2 else rdiv (f.1 * (219 * 2 ^ (depth - 8))) f.2 + 16 * 2 ^ (depth - 8)) (2 ^ depth - 1)

/-- A fraction as a chroma code. -/
def chromaCode (full : Bool) (depth : Nat) (f : Int × Nat) : Nat :=
  clampN (if full then rdiv (f.1 * (2 ^ depth - 1)) f.2 + 2 ^ (depth - 1) else rdiv (f.1 * (224 * 2 ^ (depth - 8))) f.2 + 128 * 2 ^ (depth - 8))
    (2 ^ depth - 1)

/-- Range and depth of one component (R345): a shift rounding half up where the range stays. -/
def rangeDepth (sf df : Bool) (sd dd : Nat) (luma : Bool) (v : Nat) : Nat :=
  if sf = df then
    if sd ≤ dd then v * 2 ^ (dd - sd) else min ((v + 2 ^ (sd - dd) / 2) / 2 ^ (sd - dd)) (2 ^ dd - 1)
  else if luma then lumaCode df dd (lumaFrac sf sd v) else chromaCode df dd (chromaFrac sf sd v)

/-- The Q1.14 rows of H.273 from RGB to Y, Cb and Cr, for BT.709 or BT.2020 (R345). -/
def rgbRows (to2020 : Bool) : List (List Int) :=
  if to2020 then [[4304, 11108, 972], [-2288, -5904, 8192], [8192, -7533, -659]]
  else [[3483, 11718, 1183], [-1877, -6315, 8192], [8192, -7441, -751]]

/-- R, G and B of a YCbCr sample over a common denominator. -/
def yccRgb (p : Pic) (c : Nat × Nat × Nat) : (Int × Int × Int) × Nat :=
  let (kr, gb, gr, kb) := yccCoef p.matrix
  let y := lumaFrac p.full p.depth c.1
  let b := chromaFrac p.full p.depth c.2.1
  let r := chromaFrac p.full p.depth c.2.2
  let base := y.1 * (b.2 * 16384 : Nat)
  ((base + kr * r.1 * y.2, base + (gb * b.1 + gr * r.1) * y.2, base + kb * b.1 * y.2), y.2 * b.2 * 16384)

/-- R, G and B of an RGB sample, whose planes are G, B and R. -/
def rgbRgb (p : Pic) (c : Nat × Nat × Nat) : (Int × Int × Int) × Nat :=
  let f := fun (v : Nat) => lumaFrac p.full p.depth v
  (((f c.2.2).1, (f c.1).1, (f c.2.1).1), (f c.1).2)

/-- A sample at 4:4:4 converted (R345). -/
def ScaleJob.convert (j : ScaleJob) (c : Nat × Nat × Nat) : Nat × Nat × Nat :=
  let o := j.out
  let (rgb, den) := if j.src.matrix = 0 then rgbRgb j.src c else yccRgb j.src c
  if j.csc = 1 then (lumaCode o.full o.depth (rgb.2.1, den), lumaCode o.full o.depth (rgb.2.2, den), lumaCode o.full o.depth (rgb.1, den))
  else
    let m := rgbRows (j.csc == 3 || j.csc == 5)
    let row := fun (i : Nat) => let k := m.getD i []; (k.getD 0 0 * rgb.1 + k.getD 1 0 * rgb.2.1 + k.getD 2 0 * rgb.2.2, den * 16384)
    (lumaCode o.full o.depth (row 0), chromaCode o.full o.depth (row 1), chromaCode o.full o.depth (row 2))

/-- The output sample (x, y) of plane k. -/
def State.scaleOut (s : State) (j : ScaleJob) (lines k x y : Nat) : Nat :=
  let o := j.out
  let sub := if k = 0 then (1, 1) else chromaSub o.chroma
  let luma := k == 0 || j.src.matrix == 0
  let direct := rangeDepth j.src.full o.full j.src.depth o.depth luma
  let a2 : Int := (2 * sub.1 * x : Nat)
  let b2 : Int := (2 * sub.2 * y + (if sub.2 = 2 then 1 else 0) : Nat)
  if j.csc = 0 then
    if k ≠ 0 ∧ j.planar then
      let r := j.rotated k
      let ow := o.planeW k
      let oh := o.planeH k
      if r.1 = ow ∧ r.2 = oh then direct (s.turned j lines k x y)
      else direct (s.axisRead j lines k ow oh (axisAt (2 * x : Nat) r.1 ow) (axisAt (2 * y : Nat) r.2 oh))
    else direct (s.scaleAt j lines k a2 b2)
  else
    let pix := fun (x y : Int) =>
      let px := clampI x 0 ((o.w : Int) - 1)
      let py := clampI y 0 ((o.h : Int) - 1)
      let at_ := fun (i : Nat) => s.scaleAt j lines i (2 * px : Nat) (2 * py : Nat)
      let c := j.convert (at_ 0, at_ 1, at_ 2)
      if k = 0 then c.1 else if k = 1 then c.2.1 else c.2.2
    if sub.1 = 1 then pix x y
    else axisValue pix j.filter false (1, 2) (if sub.2 = 2 then (1, 2) else (1, 1)) o.depth (64 * (2 * x : Nat)) (32 * b2)

/-! ### Bands -/

/-- A scaler begins a band (SCALE_STATUS). -/
def Dev.scaleBegin (m : Dev) (k : Nat) (x : QEntry) (ready : List Nat) : Dev :=
  let m := if m.preempts (256 + k) x ready then m.incS (SCALE_STATUS_PREEMPTS k) else m
  let m := m.beginSeg (256 + k) x
  (((m.p (SCALE_STATUS_BUSY k) 1).p (SCALE_STATUS_CHANNEL k) (bits x.ticket 62 54)).pb (SCALE_STATUS_LIVE k) (x.cls == 0)).pb
    (SCALE_STATUS_AFFINE k) (bits (nthWord x.block 0) 63 62 == 1)

/-- A SCALE starts (R338, R347): its checks, then its progress entry, for which it waits. -/
def State.scaleStart (s : State) (k : Nat) (x : QEntry) (ready : List Nat) : State :=
  let j := s.scaleJob x.t x.block
  if !s.scaleBounds x.t j then (s.onM (fun m => m.unqueue 0x20 x)).finishWork x 4 k 0
  else if !j.ok then (s.onM (fun m => m.unqueue 0x20 x)).finishWork x 1 k (at_ 39 32 0x25)
  else if 64 ≤ s.m.progress.length then s
  else s.onM (fun m =>
    let m := m.unqueue 0x20 x
    let run : Run := { e := x, queue := 0x20, inst := k, n2 := if (m.linesOf j.src.luma).isSome then j.src.luma + 1 else 0 }
    let m := { m.setRun (workKey x.order) (some run) with progress := m.progress ++ [(⟨64 + x.order, j.out.luma, 0⟩ : Progress)] }
    if smem ready x.order then m.scaleBegin k x ready else m)

/-- A free scaler takes work: a band of started work that is ready, or a SCALE to start (R137, R340). -/
def State.takeScale (s : State) (k : Nat) (ready : List Nat) : State :=
  if s.m.seg (256 + k) ≠ 0 then s
  else
    match s.m.pickWork 3 (s.m.waiting [0x20] ++ s.m.turns [0x20] ready (fun _ => 1)) with
    | none => s
    | some x => match s.m.run (workKey x.order) with
      | some _ => s.onM (fun m => m.scaleBegin k x ready)
      | none => s.scaleStart k x ready

/-- The output rows from `row` on are written, with the chroma rows that end in them. -/
def State.scaleRows (s : State) (j : ScaleJob) (lines row n : Nat) : State :=
  let src := s
  let sub := (chromaSub j.out.chroma).2
  let line := fun (s : State) (k y : Nat) => s.putRow j.out k y ((List.range (j.out.planeW k)).map (fun x => src.scaleOut j lines k x y))
  let s := (List.range n).foldl (fun s i => line s 0 (row + i)) s
  if j.out.chroma = 0 then s
  else
    let first := ceilDiv row sub
    let last := ceilDiv (row + n) sub
    (List.range (last - first)).foldl (fun s i => line (line s 1 (first + i)) 2 (first + i)) s

/-- SCALE_BAND_END (R338, R340): the band's rows are written and LINES_DONE advances. -/
def execScaleBandEnd (k : Nat) (s : State) : Host.Outcome State Fault Refusal :=
  .next (if !s.m.coreUp || decide (4 ≤ k) || s.m.seg (256 + k) == 0 then s
  else
    let key := workKey (s.m.seg (256 + k) - 1)
    let s := s.onM (fun m => ((m.setSeg (256 + k) 0).p (SCALE_STATUS_BUSY k) 0).incS (SCALE_STATUS_BANDS k))
    match s.m.run key with
    | none => s
    | some r =>
      let j := s.scaleJob r.e.t r.e.block
      let n := min j.bandRows (j.out.h - r.rows)
      let poison := j.src.planes.any (fun q => s.poisonIn (j.src.plane q) (j.src.planeWords q))
      let s := s.scaleRows j r.n3 r.rows n
      let rows := r.rows + n
      let units := j.work * n / max 1 j.out.h
      let r : Run := { r with rows := rows, n1 := if rows = j.out.h then j.work else r.n1 + units, bad := r.bad || poison }
      let s := s.onM (fun m =>
        let m := m.meterUse r.e.t 3 units
        { m.freeNext with progress := m.progress.map (fun (e : Progress) => if e.writer == 64 + r.e.order then { e with lines := rows } else e) })
      let s := (s.onM (fun m => m.setRun key (some r))).pictureRows j.out.luma rows
      if r.abandon then (s.onM (fun m => m.abandonRun key r)).killPoll r.e.t else s)

/-- SCALE_DONE (R346, R347): the work is named by its thread and its place in the order of acceptance. -/
def execScaleDone (n order : Nat) (s : State) : Host.Outcome State Fault Refusal :=
  .next (if !s.m.coreUp then s else match s.m.run (workKey order) with
    | none => s
    | some r =>
      let j := s.scaleJob r.e.t r.e.block
      if r.queue ≠ 0x20 ∨ r.e.t ≠ n ∨ s.m.segsOf order ≠ 0 ∨ r.rows < j.out.h then s
      else
        let w0 := nthWord r.e.block 0
        let d := bits (nthWord r.e.block 1) 71 36
        let captured := bits (s.dram d) 39 36 == 15
        let o := j.out
        let desc := [Word.of (at_ 71 40 (bits w0 40 9) + at_ 39 36 15 + at_ 35 32 o.chroma + at_ 31 28 o.depth + at_ 27 24 o.packing
            + at_ 21 21 (bits (s.dram d) 21 21)),
          Word.of (at_ 71 36 o.luma + at_ 35 24 o.pitchY + at_ 23 12 o.pitchC), Word.of (at_ 71 56 o.w + at_ 55 40 o.h),
          Word.of (at_ 71 64 o.transfer + at_ 63 56 o.primaries + at_ 55 48 o.matrix + at_ 47 47 (if o.full then 1 else 0)),
          s.dram (d + 4), if captured then s.dram (d + 5) else 0, if captured then s.dram (d + 6) else 0]
        let bad := r.bad || s.anyPoison d (s.descLen d)
        let s := s.fw (bits (nthWord r.e.block 1) 35 0) desc
        let s := s.onM (fun m => (m.setRun (workKey order) none).progressEnd (64 + order) false)
        if bad then s.finishWork r.e 3 r.inst r.partly
        else if r.n3 ≠ 0 then s.finishWork r.e 1 r.inst (r.partly + at_ 39 32 0x26)
        else s.finishWork r.e 0 r.inst r.partly)

end Sys2Proof.Machine
end

