-- ==== Sys2Proof/Machine/Seams.lean ====
section
/-!
DEFINITION. Machine/Seams.lean: the seam movers (R362–R375): the messages a picture owes, what a received message does, concealment,
remote fetches, departed members; and ENGINE_TAKE_WORK, which every kind of engine shares (R137).
-/

namespace Sys2Proof.Machine

/-! ### Seam bands by plane (R350, R362, R363) -/

/-- The subsampling of a plane. -/
def DecCtx.sub (c : DecCtx) (k : Nat) : Nat × Nat := if k = 0 then (1, 1) else chromaSub c.chromaNow

/-- The planes of the sequence in force. -/
def DecCtx.planeNos (c : DecCtx) : List Nat := if c.chromaNow = 0 then [0] else [0, 1, 2]

/-- The core of member i in plane k, rounded inward (R350). -/
def DecCtx.corePlane (c : DecCtx) (g : Region) (p : DecPic) (i k : Nat) : Rect :=
  rectPlane (g.coreOf p.info.width p.info.height i) (c.sub k) false

/-- The area A of member i in plane k, rounded outward (R350). -/
def DecCtx.areaPlane (c : DecCtx) (g : Region) (p : DecPic) (i k : Nat) : Rect :=
  rectPlane (g.area c.chromaNow p.info.width p.info.height i) (c.sub k) true

/-- The POST band that member `src` owes member `dst` in plane k (R362). -/
def DecCtx.postBand (c : DecCtx) (g : Region) (p : DecPic) (src dst k : Nat) : Rect :=
  rectMeet (c.areaPlane g p dst k) (c.corePlane g p src k)

/-- The PRE strip that member `src` owes member `dst` in plane k (R363). -/
def DecCtx.preStrip (c : DecCtx) (g : Region) (p : DecPic) (src dst k : Nat) : Rect :=
  let s := c.sub k
  let pf := seamDepth c.std
  rectMeet (rectGrow (c.corePlane g p dst k) (ceilDiv pf s.1) (ceilDiv pf s.2) (ceilDiv p.info.width s.1) (ceilDiv p.info.height s.2))
    (c.corePlane g p src k)

/-- The band of a code: plane + 4 for PRE. -/
def DecCtx.seamBand (c : DecCtx) (g : Region) (p : DecPic) (src dst code : Nat) : Rect :=
  if code < 4 then c.postBand g p src dst code else c.preStrip g p src dst (code - 4)

/-- The codes of the seams of a picture: PRE seams too unless it is exact-local (R357). -/
def DecCtx.seamCodes (c : DecCtx) (p : DecPic) : List Nat := c.planeNos ++ (if p.exactLocal then [] else c.planeNos.map (· + 4))

/-- Does a member owe another a seam of this picture? -/
def DecCtx.owes (c : DecCtx) (g : Region) (p : DecPic) (src dst : Nat) : Bool :=
  src != dst && (c.seamCodes p).any (fun k => rectSome (c.seamBand g p src dst k))

/-! ### What a picture sends (R362–R365) -/

/-- A rectangle cut into pieces of at most 1,021 payload words. -/
def cutRect (lanes : Nat) (r : Rect) : List Rect :=
  let w := rectW r
  let per := ceilDiv w lanes
  if !rectSome r then []
  else if per ≤ 1021 then
    let n := 1021 / max 1 per
    (List.range (ceilDiv (rectH r) n)).map (fun i => (r.1, r.2.1 + i * n, r.2.2.1, min r.2.2.2 (r.2.1 + (i + 1) * n)))
  else
    let n := 1021 * lanes
    (List.range (rectH r)).flatMap (fun j => (List.range (ceilDiv w n)).map (fun i =>
      (r.1 + i * n, r.2.1 + j, min r.2.2.1 (r.1 + (i + 1) * n), r.2.1 + j + 1)))

/-- The messages of a picture in order: by line range of one CTB row, by receiver, POST and PRE, by plane; each with its receiver, code,
rectangle and LAST. -/
def DecCtx.outgoing (c : DecCtx) (g : Region) (p : DecPic) : List (Nat × Nat × Rect × Bool) :=
  let core := g.core p.info.width p.info.height g.myCol g.myRow
  let first := core.2.1 / c.ctb
  let to_ := (List.range g.members.length).filter (c.owes g p g.me)
  (List.range (ceilDiv core.2.2.2 c.ctb - first)).flatMap (fun r => to_.flatMap (fun i => (c.seamCodes p).flatMap (fun k =>
    let s := c.sub (k % 4)
    let lines : Rect := (0, (first + r) * c.ctb / s.2, 65536, (first + r + 1) * c.ctb / s.2)
    let l := cutRect (lanesOf c.packing) (rectMeet (c.seamBand g p g.me i k) lines)
    l.zipIdx.map (fun e => (i, k, e.1, e.2 + 1 == l.length)))))

/-- The samples of a rectangle of a picture's plane, packed row by row (R365); lanes past a row's end are not stated. -/
def State.seamPayload (s : State) (c : DecCtx) (g : Region) (p : DecPic) (k : Nat) (r : Rect) : List Word :=
  let luma := (s.slotEntry c p.slot).1
  let a := c.areaPlane g p g.me k
  (List.range (rectH r)).flatMap (fun j => packRow c.packing s.m.free (ceilDiv (rectW r) (lanesOf c.packing))
    ((List.range (rectW r)).map (fun i =>
      (s.sample (c.planeBase luma k) (c.planePitch k) c.packing p.info.depth (r.1 + i - a.1) (r.2.1 + j - a.2.1)).getD 0)))

/-- A message of a seam mover is counted (SEAM_STATUS). -/
def Dev.seamCount (m : Dev) (k n : Nat) : Dev :=
  let k := k % 2
  ((m.incS (SEAM_STATUS_MESSAGES k)).p (SEAM_STATUS_CHANNEL k) n).pb (SEAM_STATUS_LIVE k) (m.isLive n)

/-- Message number `r.n1` of a picture's SEAM leaves (R362, R368). `pre`: the payload of a PRE message, whose samples no slot holds. -/
def State.seamNext (s : State) (k : Nat) (r : Run) (pre : List Word) : State :=
  let n := r.e.t
  let tag := bits (nthWord r.e.block 0) 59 28
  match s.m.dec n with
  | none => s
  | some c => match c.region, c.pic tag with
    | some g, some p => match (c.outgoing g p)[r.n1]? with
      | none => s
      | some (i, code, rect, last) =>
        let dest := g.members.getD i 0
        let words := rectH rect * ceilDiv (rectW rect) (lanesOf c.packing)
        let body := if code < 4 then s.seamPayload c g p code rect
          else (List.range words).map (fun j => pre.getD j 0)
        s.onM (fun m =>
          let m := m.freeNext.setRun (workKey r.e.order) (some { r with n1 := r.n1 + 1, inst := k })
          (m.seamCount k n).seamSend n dest (seamMsg (if code < 4 then 1 else 2) g.group m.ident dest (code % 4) c.packing p.info.key p.info.hint 0
            last (!p.exact) rect.1 rect.2.1 (rectW rect) (rectH rect) body))
    | _, _ => s

/-! ### Settled positions and concealment (R367, R373, R374) -/

/-- Do two rectangles share a sample? -/
def rectsTouch (a b : Rect) : Bool := rectSome (rectMeet a b)

/-- The samples of member i's seam of a code that are settled. -/
def DecPic.settledArea (p : DecPic) (i code : Nat) : Nat :=
  ((p.settled.filter (fun e => e.1 == i && e.2.1 == code)).map (fun e => (e.2.2.2.2.1 - e.2.2.1) * (e.2.2.2.2.2 - e.2.2.2.1))).sum

/-- Is any sample of a rectangle settled? -/
def DecPic.touched (p : DecPic) (i code : Nat) (r : Rect) : Bool :=
  p.settled.any (fun e => e.1 == i && e.2.1 == code && rectsTouch (e.2.2.1, e.2.2.2.1, e.2.2.2.2.1, e.2.2.2.2.2) r)

/-- Is one sample settled? -/
def DecPic.settledAt (p : DecPic) (i code x y : Nat) : Bool := p.touched i code (x, y, x + 1, y + 1)

/-- Is member i's seam of a code settled whole? -/
def DecCtx.bandDone (c : DecCtx) (g : Region) (p : DecPic) (i code : Nat) : Bool :=
  let b := c.seamBand g p i g.me code
  !rectSome b || decide (rectW b * rectH b ≤ p.settledArea i code)

/-- Change a picture of a channel's context. -/
def Dev.modDecPic (m : Dev) (n tag : Nat) (f : DecPic → DecPic) : Dev :=
  match m.dec n with
  | some c => m.setDec n (some (c.modPic tag f))
  | none => m

/-- Change a channel's regional context. -/
def Dev.modRegion (m : Dev) (n : Nat) (f : Region → Region) : Dev :=
  match m.dec n with
  | some c => match c.region with
    | some g => m.setDec n (some { c with region := some (f g) })
    | none => m
  | none => m

/-- One margin sample is concealed (R373): the co-located sample of the picture before where that picture's area holds it, else the
nearest sample of the core. -/
def State.concealMargin (s : State) (c : DecCtx) (g : Region) (p : DecPic) (k x y : Nat) : State :=
  let luma := (s.slotEntry c p.slot).1
  let a := c.areaPlane g p g.me k
  let core := c.corePlane g p g.me k
  let prev := c.pics.find? (fun q => q.seq + 1 == p.seq)
  let at_ := fun (q : DecPic) (x y : Nat) =>
    let b := c.areaPlane g q g.me k
    (s.sample (c.planeBase (s.slotEntry c q.slot).1 k) (c.planePitch k) c.packing p.info.depth (x - b.1) (y - b.2.1)).getD 0
  let v := match prev with
    | some q => if rectHas (c.areaPlane g q g.me k) (x, y, x + 1, y + 1) then at_ q x y
      else at_ p (clampI x core.1 ((core.2.2.1 : Int) - 1)) (clampI y core.2.1 ((core.2.2.2 : Int) - 1))
    | none => at_ p (clampI x core.1 ((core.2.2.1 : Int) - 1)) (clampI y core.2.1 ((core.2.2.2 : Int) - 1))
  s.putPixel (c.planeBase luma k) (c.planePitch k) c.packing (x - a.1) (y - a.2.1) v

/-- The missing samples of member i's seam of one code are concealed (R373); those of a PRE seam stand in no slot. -/
def State.concealCode (s : State) (n tag i code : Nat) : State :=
  match s.m.dec n with
  | none => s
  | some c => match c.region, c.pic tag with
    | some g, some p =>
      let b := c.seamBand g p i g.me code
      let s := if 4 ≤ code then s
        else (List.range (rectH b)).foldl (fun s j => (List.range (rectW b)).foldl (fun s q =>
          if p.settledAt i code (b.1 + q) (b.2.1 + j) then s else s.concealMargin c g p code (b.1 + q) (b.2.1 + j)) s) s
      s.onM (fun m => m.modDecPic n tag (fun p =>
        { p with settled := p.settled.filter (fun e => !(e.1 == i && e.2.1 == code)) ++ [(i, code, b.1, b.2.1, b.2.2.1, b.2.2.2)] }))
    | _, _ => s

/-- The seams of member i to a picture that are not settled, by the codes asked: concealed, the picture inexact, and each band
counted: as absent, or as late (R373, R374, R378). A band is a member's POST planes together, or its PRE planes. -/
def State.concealFrom (s : State) (n tag i : Nat) (codes : List Nat) (absent : Bool) : State :=
  match s.m.dec n with
  | none => s
  | some c => match c.region, c.pic tag with
    | some g, some p =>
      let open_ := codes.filter (fun k => !c.bandDone g p i k)
      let bands := (if open_.any (fun k => decide (k < 4)) then 1 else 0) + (if open_.any (fun k => decide (4 ≤ k)) then 1 else 0)
      if bands = 0 then s
      else
        let s := open_.foldl (fun s k => s.concealCode n tag i k) s
        s.onM (fun m =>
          let m := (m.exactEvent n tag).addWrap (if absent then REGION_CHAN_COUNTS_SEAMS_ABSENT n else REGION_CHAN_COUNTS_SEAMS_LATE n) bands
          match m.findRun 0x30 n (tagIs 59 28 tag) with
          | some (key, r) => m.setRun key (some (if absent then { r with n3 := r.n3 + bands } else { r with n2 := r.n2 + bands }))
          | none => m)
    | _, _ => s

/-- Every seam that a member owes to the pictures begun is concealed as absent (R374, R375). -/
def State.concealAway (s : State) (n i : Nat) : State :=
  match s.m.dec n with
  | some c => c.pics.foldl (fun (s : State) (p : DecPic) => if p.bad then s else s.concealFrom n p.tag i (c.seamCodes p) true) s
  | none => s

/-! ### Receiving (R366, R367) -/

/-- The channel whose context has a group open. -/
def Dev.groupChan (m : Dev) (group : Nat) : Option Nat :=
  (List.range 512).find? (fun n => match (m.dec n).bind (·.region) with | some g => g.group == group | none => false)

/-- The picture that a message applies to: the earlier in decoding order of those that match (R366). -/
def DecCtx.keyed (c : DecCtx) (key hint : Nat) : Option DecPic :=
  (c.pics.filter (fun p => p.info.key == key && p.info.hint == hint)).foldl (fun b p => match b with
    | none => some p
    | some q => if p.seq < q.seq then some p else b) none

/-- The rectangle of a message, as edges. -/
def msgRect (ws : List Word) : Rect :=
  let w := nthWord ws 2
  (bits w 71 56, bits w 55 40, bits w 71 56 + bits w 39 24, bits w 55 40 + bits w 23 8)

/-- The sender's place in the member table. -/
def Region.placeOf (g : Region) (ident : Nat) : Option Nat := if smem g.members ident then some (g.members.findIdx (· == ident)) else none

/-- Sample (i, j) of a message's payload. -/
def msgSample (ws : List Word) (packing depth w i j : Nat) : Nat :=
  let per := ceilDiv w (lanesOf packing)
  (nthWord ws (3 + j * per + i / lanesOf packing)).toNat / 2 ^ (laneBits packing * (i % lanesOf packing)) % 2 ^ depth

/-- A POST or PRE message for a picture that has begun (R362, R363, R367). -/
def State.seamApply (s : State) (n i : Nat) (c : DecCtx) (g : Region) (p : DecPic) (ws : List Word) : State :=
  let w0 := nthWord ws 0
  let post := bits w0 71 68 == 1
  let k := bits w0 15 14
  let code := if post then k else k + 4
  let r := msgRect ws
  if !smem (c.seamCodes p) code || !rectHas (c.seamBand g p i g.me code) r || !rectSome r then s.onM (fun m => m.incW (REGION_CHAN_COUNTS_SEAMS_REJECTED n))
  else if p.touched i code r then s.onM (fun m => m.incW (REGION_CHAN_COUNTS_SEAMS_LATE n))
  else
    let luma := (s.slotEntry c p.slot).1
    let a := c.areaPlane g p g.me k
    let packing := bits w0 13 13
    let s := if !post then s
      else (List.range (rectH r)).foldl (fun s j => (List.range (rectW r)).foldl (fun (s : State) x =>
        s.putPixel (c.planeBase luma k) (c.planePitch k) c.packing (r.1 + x - a.1) (r.2.1 + j - a.2.1) (msgSample ws packing p.info.depth (rectW r) x j)) s) s
    s.onM (fun m =>
      let m := m.countK (REGION_CHAN_TRAFFIC_KWORDS_RECEIVED n) false ws.length
      let m := m.modDecPic n p.tag (fun q => { q with settled := q.settled ++ [(i, code, r.1, r.2.1, r.2.2.1, r.2.2.2)] })
      let m := if post then m else m.modRegion n (fun g => { g with inbox := g.inbox ++ [ws] })
      if bits (nthWord ws 1) 22 22 = 1 then m.exactEvent n p.tag else m)

/-- An ABSENT message for a picture that has begun: its seams from the sender are concealed at once (R374). -/
def State.absentApply (s : State) (n i : Nat) (c : DecCtx) (p : DecPic) (ws : List Word) : State :=
  (s.onM (fun m => m.countK (REGION_CHAN_TRAFFIC_KWORDS_RECEIVED n) false ws.length)).concealFrom n p.tag i (c.seamCodes p) true

/-- A message for a picture not begun waits in the inbox, for at most 4 such pictures and INBOX_WORDS (R367). -/
def Dev.inboxPut (m : Dev) (n : Nat) (c : DecCtx) (g : Region) (ws : List Word) : Dev :=
  let name := fun (w : List Word) => bits (nthWord w 1) 71 24
  let ahead := ((g.inbox.filter (fun w => (c.keyed (bits (nthWord w 1) 71 40) (bits (nthWord w 1) 39 24)).isNone)).map name ++ [name ws]).eraseDups
  if 4 < ahead.length ∨ g.inboxN < (g.inbox.map List.length).sum + ws.length then m.incW (REGION_CHAN_COUNTS_SEAMS_LATE n)
  else m.modRegion n (fun g => { g with inbox := g.inbox ++ [ws] })

/-- A SEAM starts on a picture: what waits in the inbox for it is taken, and the seams of members held as away are concealed. -/
def State.inboxTake (s : State) (n tag : Nat) : State :=
  match s.m.dec n with
  | none => s
  | some c => match c.region, c.pic tag with
    | some g, some p =>
      let mine := fun (w : List Word) => bits (nthWord w 1) 71 40 == p.info.key && bits (nthWord w 1) 39 24 == p.info.hint
      let held := g.inbox.filter (fun w => mine w && !(bits (nthWord w 0) 71 68 == 2 && (match g.placeOf (bits (nthWord w 0) 51 34) with
        | some i => p.touched i (bits (nthWord w 0) 15 14 + 4) (msgRect w) | none => false)))
      let s := s.onM (fun m => m.modRegion n (fun g => { g with inbox := g.inbox.filter (fun w => !held.any (· == w)) }))
      let s := held.foldl (fun (s : State) (w : List Word) => match s.m.dec n, g.placeOf (bits (nthWord w 0) 51 34) with
        | some c, some i => match c.region, c.pic tag with
          | some g, some p => if bits (nthWord w 0) 71 68 = 6 then s.absentApply n i c p w else s.seamApply n i c g p w
          | _, _ => s
        | _, _ => s) s
      g.away.foldl (fun (s : State) (d : Nat) => match g.placeOf d with
        | some i => s.concealFrom n tag i (c.seamCodes p) true
        | none => s) s
    | _, _ => s

/-- A member is held as away, and its seams concealed (R374, R375). -/
def State.holdAway (s : State) (n i ident : Nat) : State :=
  (s.onM (fun m => m.modRegion n (fun g => { g with away := sinsert g.away ident }))).concealAway n i

/-! ### Fetches (R369–R372) -/

/-- An outstanding fetch ends without its samples (R372, R375). -/
def Dev.fetchFail (m : Dev) (n : Nat) (f : Fetch) : Dev :=
  let m := (m.modRegion n (fun g => { g with fetches := g.fetches.filter (fun x => x.id != f.id) })).incW (REGION_CHAN_COUNTS_FETCH_FAILS n)
  match m.dec n with
  | some c => match c.pics.find? (fun p => p.seq == f.seq) with
    | some p => m.exactEvent n p.tag
    | none => m
  | none => m

/-- The part of the fetch area, an eighth, that the reply to a new request goes to: the lowest one that no outstanding request
has. DESIGN CHOICE (log entry 137). -/
def Region.freePart (g : Region) : Nat := ((List.range 8).find? (fun k => g.fetches.all (fun f => f.part != k))).getD 0

/-- A read outside A (R358, R369): counted if it breaches a binding payload; a request for the rectangle rounded outward to 8 × 8 luma
samples, unless 8 are outstanding; without fetches the picture is inexact. -/
def Dev.readOutside (m : Dev) (n tag : Nat) (x : FetchNeed) : Dev :=
  match m.dec n with
  | none => m
  | some c => match c.region, c.pic tag with
    | some g, some p =>
      let m := m.onlyIf x.breach (fun m => m.incW (REGION_CHAN_COUNTS_MARGIN_BREACHES n))
      if !g.fetchOn then m.exactEvent n tag
      else if 8 ≤ g.fetches.length ∨ g.members.length ≤ x.owner then m
      else
        let s := c.sub x.plane
        let bx := 8 / s.1
        let by_ := 8 / s.2
        let core := c.corePlane g p x.owner x.plane
        let r := rectMeet (x.x / bx * bx, x.y / by_ * by_, ceilDiv (x.x + x.w) bx * bx, ceilDiv (x.y + x.h) by_ * by_) core
        let owner := g.members.getD x.owner 0
        let id := g.nextReq
        let f : Fetch := { id := id, owner := owner, plane := x.plane, rect := r, seq := p.seq, at_ns := m.now, part := g.freePart }
        if smem g.away owner then (m.incW (REGION_CHAN_COUNTS_FETCH_FAILS n)).exactEvent n tag
        else
          let m := m.modRegion n (fun g => { g with fetches := g.fetches ++ [f], nextReq := (id + 1) % 65536 })
          (m.incW (REGION_CHAN_COUNTS_FETCHES n)).seamSend n owner (seamMsg 3 g.group m.ident owner x.plane c.packing x.key x.hint id true false
            r.1 r.2.1 (rectW r) (rectH r) [])
    | _, _ => m

/-- A FETCH_REQ is answered (R370). -/
def State.fetchServe (s : State) (k n : Nat) (c : DecCtx) (g : Region) (ws : List Word) : State :=
  let w0 := nthWord ws 0
  let w1 := nthWord ws 1
  let plane := bits w0 15 14
  let src := bits w0 51 34
  let r := msgRect ws
  let id := bits w1 15 0
  let s := s.onM (fun m => (m.incS (SEAM_STATUS_FETCHES_SERVED (k % 2))).countK (REGION_CHAN_TRAFFIC_KWORDS_RECEIVED n) false ws.length)
  let nak := s.onM (fun m => (m.seamCount k n).seamSend n src (seamMsg 5 g.group m.ident src plane c.packing (bits w1 71 40) (bits w1 39 24) id true false
    r.1 r.2.1 (rectW r) (rectH r) []))
  match c.keyed (bits w1 71 40) (bits w1 39 24) with
  | none => nak
  | some p =>
    if !smem c.planeNos plane || !rectHas (c.corePlane g p g.me plane) r || !rectSome r then nak
    else
      let l := cutRect (lanesOf c.packing) r
      l.zipIdx.foldl (fun (s : State) (e : Rect × Nat) =>
        let body := s.seamPayload c g p plane e.1
        s.onM (fun m => (m.freeNext.seamCount k n).seamSend n src (seamMsg 4 g.group m.ident src plane c.packing p.info.key p.info.hint id
          (e.2 + 1 == l.length) (!p.exact) e.1.1 e.1.2.1 (rectW e.1) (rectH e.1) body))) s

/-- A FETCH_REPLY (R369, R372): one that answers no outstanding request is discarded. -/
def State.fetchReply (s : State) (n : Nat) (g : Region) (ws : List Word) : State :=
  let w1 := nthWord ws 1
  match g.fetches.find? (fun f => f.id == bits w1 15 0 && f.owner == bits (nthWord ws 0) 51 34) with
  | none => s
  | some f =>
    let part := g.fetchN / 8
    let body := ws.drop 3
    let at_ := g.fetchA + f.part * part + f.have_
    let s := s.fw at_ (body.take (part - f.have_))
    s.onM (fun m =>
      let m := m.countK (REGION_CHAN_TRAFFIC_KWORDS_RECEIVED n) false ws.length
      let m := if bits w1 22 22 = 1 then (match (m.dec n).bind (fun c => c.pics.find? (fun p => p.seq == f.seq)) with
        | some p => m.exactEvent n p.tag | none => m) else m
      m.modRegion n (fun g => { g with fetches := if bits w1 23 23 = 1 then g.fetches.filter (fun x => x.id != f.id) else g.fetches.map (fun x => if x.id == f.id then { x with have_ := x.have_ + body.length } else x) }))

/-! ### A received message -/

/-- A seam message reaches seam mover k (R366, R367): what no open group of this device takes has no counter of a channel. -/
def State.seamReceive (s : State) (k : Nat) (ws : List Word) : State :=
  let w0 := nthWord ws 0
  let kind := bits w0 71 68
  match s.m.groupChan (bits w0 67 52) with
  | none => s
  | some n =>
    let s := s.onM (fun m => m.seamCount k n)
    let reject := s.onM (fun m => m.incW (REGION_CHAN_COUNTS_SEAMS_REJECTED n))
    match s.m.dec n with
    | none => s
    | some c => match c.region with
      | none => s
      | some g =>
        if bits w0 33 16 ≠ s.m.ident ∨ kind = 0 ∨ 7 < kind then reject
        else match g.placeOf (bits w0 51 34) with
          | none => reject
          | some i =>
            let pic := c.keyed (bits (nthWord ws 1) 71 40) (bits (nthWord ws 1) 39 24)
            if kind ≤ 2 then
              let s := s.onM (fun m => m.modRegion n (fun g => { g with away := sremove g.away (bits w0 51 34) }))
              match pic with
              | some p => s.seamApply n i c { g with away := sremove g.away (bits w0 51 34) } p ws
              | none => s.onM (fun m => m.inboxPut n c g ws)
            else if kind = 3 then s.fetchServe k n c g ws
            else if kind = 4 then s.fetchReply n g ws
            else if kind = 5 then
              match g.fetches.find? (fun f => f.id == bits (nthWord ws 1) 15 0 && f.owner == bits w0 51 34) with
              | some f => s.onM (fun m => (m.countK (REGION_CHAN_TRAFFIC_KWORDS_RECEIVED n) false ws.length).fetchFail n f)
              | none => s
            else if kind = 6 then
              match pic with
              | some p => s.absentApply n i c p ws
              | none => s.onM (fun m => m.inboxPut n c g ws)
            else (s.onM (fun m => m.countK (REGION_CHAN_TRAFFIC_KWORDS_RECEIVED n) false ws.length)).holdAway n i (bits w0 51 34)

/-- A row's message is received if it is of that row's kind. -/
def State.seamRow (s : State) (kind k : Nat) (ws : List Word) : State :=
  if s.m.coreUp && bits (nthWord ws 0) 71 68 == kind then s.seamReceive k ws else s

/-- A device has departed (R375): every regional context that has it as a member holds it as away and ends its fetches. -/
def State.memberGone (s : State) (ident : Nat) : State :=
  (List.range 512).foldl (fun (s : State) n => match (s.m.dec n).bind (·.region) with
    | none => s
    | some g => match g.placeOf ident with
      | none => s
      | some i =>
        if ident = s.m.ident then s
        else (s.onM (fun m => (g.fetches.filter (fun f => f.owner == ident)).foldl (fun (m : Dev) f => m.fetchFail n f) m)).holdAway n i ident) s

/-- A departure notice (R561): passed on once, the device counted as departed, its seams held as away (R375). -/
def State.departed (s : State) (ident : Nat) : State :=
  if smem s.m.fab.departed ident || ident == s.m.ident then s
  else
    let s := s.onM (fun m => { m with fab.departed := sinsert m.fab.departed ident }.send (.departNotice (m.g FAB_IDENT_DOMAIN_ID) ident))
    s.memberGone ident

/-! ### Waits -/

/-- SEAM_WAIT in ns (R373). -/
def Dev.seamWait (m : Dev) (n : Nat) : Nat :=
  if m.isLive n then max 20 (m.g REGION_CTRL_SEAM_WAIT_LIVE) * 1000 else max 1 (m.g REGION_CTRL_SEAM_WAIT_PB) * 1000000

/-- FETCH_WAIT in ns (R372). -/
def Dev.fetchWait (m : Dev) (n : Nat) : Nat :=
  if m.isLive n then max 20 (m.g REGION_CTRL_FETCH_WAIT_LIVE) * 1000 else max 1 (m.g REGION_CTRL_FETCH_WAIT_PB) * 1000000

/-- The wait for the POST seams, or for the PRE seams, of a picture expires (R373). -/
def State.seamExpire (s : State) (n tag : Nat) (pre : Bool) : State :=
  match s.m.dec n with
  | none => s
  | some c => match c.region, c.pic tag with
    | some g, some p =>
      if !pre && !p.closed then s
      else
        let s := if pre then s else s.onM (fun m => m.reach (p.since + m.seamWait n))
        let codes := (c.seamCodes p).filter (fun k => decide (4 ≤ k) == pre)
        (List.range g.members.length).foldl (fun s i => if i = g.me then s else s.concealFrom n tag i codes false) s
    | _, _ => s

/-! ### Seam work -/

/-- A free seam mover takes work (R137, R368): a SEAM to start, or a message of started work whose lines are final. -/
def State.takeSeam (s : State) (k : Nat) (ready : List Nat) (pre : List Word) : State :=
  match s.m.pickWork 4 (s.m.waiting [0x30] ++ s.m.turns [0x30] ready (fun _ => 1)) with
  | none => s
  | some x => match s.m.run (workKey x.order) with
    | some r => s.seamNext k r pre
    | none =>
      let s := s.onM (fun m => m.unqueue 0x30 x)
      if !s.engOwns x.t (bits (nthWord x.block 1) 71 36) 1 || !s.engOwns x.t (bits (nthWord x.block 2) 71 36) 1 then s.finishWork x 4 k 0
      else (s.onM (fun m => m.setRun (workKey x.order) (some { e := x, queue := 0x30, inst := k }))).inboxTake x.t (bits (nthWord x.block 0) 59 28)

/-- Has a SEAM nothing left to send or to wait for (R364)? -/
def Dev.seamOver (m : Dev) (n tag : Nat) (r : Run) : Bool :=
  match m.dec n with
  | none => true
  | some c => match c.region, c.pic tag with
    | some g, some p => decide ((c.outgoing g p).length ≤ r.n1) &&
        (List.range g.members.length).all (fun i => i == g.me || c.planeNos.all (c.bandDone g p i))
    | _, _ => true

/-- Is the picture inexact (RESULT of R364)? -/
def Dev.seamInexact (m : Dev) (n tag : Nat) : Bool :=
  match (m.dec n).bind (fun c => c.pic tag) with | some p => !p.exact | none => false

/-! ### The content engine's queue (R523) -/

/-- The content engine takes the next command of a drive, Live first, into a free place. -/
def State.takeContent (s : State) (key : Nat) : State :=
  let d := (key - 384) / 256
  if (s.m.run key).isSome then s
  else match s.m.pickWork 4 ((s.m.waiting [0x38]).filter (fun e => (contentOf e.block).d == d)) with
    | none => s
    | some x => (s.onM (fun m => m.unqueue 0x38 x)).contentStart key x

/-! ### Commands -/

/-- ENGINE_TAKE_WORK (R137): the instance of a key (kind × 64 + instance: 0 entropy, 1 pipe, 2 search, 3 rate, 4 scaler, 5 seam mover; from 384 on a
place of the content engine, 256 for each drive). `ready`: the places in the order of acceptance of started work whose next
segment, band or message has its input; `pre`: the payload of a PRE message; `needs`: the reads outside A of the segment that a
pipe begins, for which it sends its requests (R369). -/
def execEngineTakeWork (key : Nat) (ready : List Nat) (pre : List Word) (needs : List FetchNeed) (s : State) :
    Host.Outcome State Fault Refusal :=
  .next (let k := key % 64
  if !s.m.coreUp then s
  else if 384 ≤ key then (if key < 1408 then s.takeContent key else s)
  else if key < 64 then (if k < 24 then s.takeEntropy k else s)
  else if key < 128 then
    if 8 ≤ k then s
    else
      let s := s.takePipe k ready
      match s.m.run (workKey (s.m.seg (64 + k) - 1)) with
      | some r => if s.m.seg (64 + k) ≠ 0 ∧ r.queue = 8 then
          s.onM (fun m => needs.foldl (fun (m : Dev) x => m.readOutside r.e.t (bits (nthWord r.e.block 0) 51 20) x) m) else s
      | none => s
  else if key < 192 then (if k < 4 then s.takeSearch k ready else s)
  else if key < 256 then (if k < 4 then s.takeRate k else s)
  else if key < 320 then (if k < 4 then s.takeScale k ready else s)
  else if k < 2 then s.takeSeam k ready pre else s)

/-- POST (R362). -/
def execPost (k : Nat) (ws : List Word) (s : State) : Host.Outcome State Fault Refusal := .next (s.seamRow 1 k ws)

/-- PRE (R363). -/
def execPre (k : Nat) (ws : List Word) (s : State) : Host.Outcome State Fault Refusal := .next (s.seamRow 2 k ws)

/-- FETCH_REQ (R370). -/
def execFetchReq (k : Nat) (ws : List Word) (s : State) : Host.Outcome State Fault Refusal := .next (s.seamRow 3 k ws)

/-- FETCH_REPLY (R369). -/
def execFetchReply (k : Nat) (ws : List Word) (s : State) : Host.Outcome State Fault Refusal := .next (s.seamRow 4 k ws)

/-- FETCH_NAK (R372). -/
def execFetchNak (k : Nat) (ws : List Word) (s : State) : Host.Outcome State Fault Refusal := .next (s.seamRow 5 k ws)

/-- ABSENT (R374). -/
def execAbsent (k : Nat) (ws : List Word) (s : State) : Host.Outcome State Fault Refusal := .next (s.seamRow 6 k ws)

/-- AWAY (R374). -/
def execAway (k : Nat) (ws : List Word) (s : State) : Host.Outcome State Fault Refusal := .next (s.seamRow 7 k ws)

/-- SEAM_WAIT_EXPIRY (R373). -/
def execSeamWaitExpiry (n tag : Nat) (pre : Bool) (s : State) : Host.Outcome State Fault Refusal :=
  .next (if s.m.coreUp then s.seamExpire n tag pre else s)

/-- FETCH_WAIT_EXPIRY (R372). -/
def execFetchWaitExpiry (n req : Nat) (s : State) : Host.Outcome State Fault Refusal :=
  .next (if !s.m.coreUp then s
    else match ((s.m.dec n).bind (·.region)).bind (fun g => g.fetches.find? (fun f => f.id == req)) with
    | some f => s.onM (fun m => (m.reach (f.at_ns + m.fetchWait n)).fetchFail n f)
    | none => s)

/-- MEMBER_DEPARTED (R375). -/
def execMemberDeparted (ident : Nat) (s : State) : Host.Outcome State Fault Refusal := .next (if s.m.coreUp then s.departed ident else s)

/-- SEAM_DONE (R364): the picture's RECON_DEC ticket, if closed, follows. -/
def execSeamDone (k n tag : Nat) (s : State) : Host.Outcome State Fault Refusal :=
  .next (if !s.m.coreUp then s else match s.m.findRun 0x30 n (tagIs 59 28 tag) with
    | none => s
    | some (key, r) =>
      if !s.m.seamOver n tag r then s
      else
        let res := r.partly + (if s.m.seamInexact n tag then 2 ^ 15 else 0)
        let s := (s.onM (fun m => m.setRun key none)).finishWork r.e 0 (k % 2) res
        s.reconTicket n tag)

end Sys2Proof.Machine
end

