-- ==== Sys2Proof/Machine/Links.lean ====
section
/-!
DEFINITION. Machine/Links.lean: the chain links (R549–R554, R558), the link map and what follows a change of it (R559–R561,
R563), and device time across the pane (R565–R567).
-/

namespace Sys2Proof.Machine

/-! ### Device time (R565–R567) -/

/-- Does this device take time from an uplink that is locked (R565)? -/
def Dev.timeLocked (m : Dev) : Bool := m.on FAB_TIME_CTRL_UPLINK_PTP && m.fab.ptpLocked

/-- Is one root candidate preferred to another: locked first, then PRIORITY, then identity (R565)? -/
def rootBefore (a b : Bool × Nat × Nat) : Bool :=
  (a.1 && !b.1) || (a.1 == b.1 && (decide (a.2.1 < b.2.1) || (a.2.1 == b.2.1 && decide (a.2.2 < b.2.2))))

/-- The root this device knows to be best, among itself and those its neighbours speak for that it can reach (R565). -/
def Dev.bestRoot (m : Dev) : Nat :=
  let heard := (m.fab.times.filter (fun e => m.linkUp e.1 && (m.hopsTo e.2.rootId).isSome)).map (fun e => (e.2.rootLocked, e.2.rootPri, e.2.rootId))
  (heard.foldl (fun (a : Bool × Nat × Nat) b => if rootBefore b a then b else a) (m.timeLocked, m.g FAB_TIME_CTRL_PRIORITY, m.ident)).2.2

/-- Has the reference that this device ran on gone: the root out of reach, or, for the root, its uplink (R567)? -/
def Dev.referenceLost (m : Dev) : Bool :=
  match m.fab.root with
  | none => false
  | some r => if r = m.ident then decide (8 ≤ m.g FAB_TIME_STATUS_PARENT) && decide (m.g FAB_TIME_STATUS_PARENT < 12) else (m.hopsTo r).isNone

/-- This device is the root (R565, R567). -/
def Dev.timeRoot (m : Dev) : Dev :=
  let lost := m.referenceLost
  let st := m.g FAB_TIME_STATUS_STATE
  let m := { m with fab.root := some m.ident }.p FAB_TIME_STATUS_HOPS 0
  if m.timeLocked then (m.p FAB_TIME_STATUS_STATE 1).p FAB_TIME_STATUS_PARENT (8 + m.g FAB_TIME_CTRL_UPLINK)
  else
    let m := m.p FAB_TIME_STATUS_PARENT 15
    if st = 2 then m
    else if st = 1 ∧ lost = true then (m.p FAB_TIME_STATUS_STATE 2).fabricEvent 0
    else m.p FAB_TIME_STATUS_STATE 1

/-- The time root and parent are chosen anew (R565, R567). -/
def Dev.timeElect (m : Dev) : Dev :=
  if !m.on FAB_CTRL_ENABLE then m
  else
    let r := m.bestRoot
    match (if r = m.ident then none else m.nextHop r), m.hopsTo r with
    | some k, some h => (((m.p FAB_TIME_STATUS_STATE 1).p FAB_TIME_STATUS_PARENT k).p FAB_TIME_STATUS_HOPS (min h 255)).onlyIf true (fun m => { m with fab.root := some r })
    | _, _ => m.timeRoot

/-! ### The map (R559, R560, R563) -/

/-- The pane conditions of R563: at most 256 devices seen in the last 2 s, and no Live channel's members outside the pane. -/
def Dev.compactPane (m : Dev) : Bool :=
  decide ((m.fab.map.filter (fun e => e.dev != m.ident && decide (m.now ≤ e.seen + 2000000000))).length + 1 ≤ 256) &&
    (List.range 512).all (fun n => !(m.on (CHAN_STATUS_ADMITTED n) && m.g (CHAN_CTRL_CLASS n) == 0) ||
      (m.groupMembers n).all (fun d => paneOf d == paneOf m.ident))

/-- Do the present routes keep every two members of a channel within 16 hops (R560, R563)? -/
def Dev.routesOk (m : Dev) (n : Nat) : Bool :=
  let l := m.groupMembers n
  l.all (fun a => let ds := m.distances false a
    l.all (fun b => match ds.find? (fun e => e.1 == b) with | some e => decide (e.2 ≤ 16) | none => false))

/-- The channels that change route are checked (R560); one whose routes hold again is no longer suspended for it. -/
def Dev.rerouteCheck (m old : Dev) : Dev :=
  m.each 512 (fun n m =>
    if m.on (CHAN_STATUS_ADMITTED n) && m.g (CHAN_CTRL_CLASS n) == 0 && !(m.groupMembers n).isEmpty then
      if m.routesOk n then { m with reroute := sremove m.reroute n }
      else if (m.groupMembers n).any (fun d => old.nextHop d != m.nextHop d) then { m with reroute := sinsert m.reroute n }.fabricEvent 1
      else m
    else m)

/-- What follows a change of the map: routes, COMPACT, the guarantees, the time parent (R559, R560, R563, R567). -/
def Dev.mapChanged (m old : Dev) : Dev :=
  let m := m.rerouteCheck old
  ((m.pb FAB_STATUS_COMPACT (m.on FAB_CTRL_ENABLE && m.compactPane)).liveAll).timeElect

/-- This device floods LINK_STATE with the next serial (R557, R559). -/
def Dev.floodOwn (m : Dev) : Dev :=
  let m := { m with fab.serial := (m.fab.serial + 1) % 2 ^ 32 }
  m.floodLinks none 7 { words := m.frame 4 7 0 2 (m.control 3 (at_ 49 42 m.ownMask + at_ 41 10 m.fab.serial)), since := m.now }

/-- A LINK_STATE of another device of the pane (R559): its serial is taken once and passed on. A serial not later than the one
held is old, unless the device has been silent for 2 s. -/
def Dev.linkState (m : Dev) (k dev mask serial : Nat) : Dev :=
  let fresh := match m.fab.map.find? (fun e => e.dev == dev) with
    | some e => (let d := (serial + 2 ^ 32 - e.serial) % 2 ^ 32; decide (0 < d) && decide (d < 2 ^ 31)) || decide (e.seen + 2000000000 < m.now)
    | none => true
  if dev = m.ident ∨ paneOf dev ≠ paneOf m.ident ∨ fresh = false then m
  else
    let old := m
    let m := { m with fab.map := m.fab.map.filter (fun (e : MapEntry) => e.dev != dev) ++ [(⟨dev, mask % 256, serial % 2 ^ 32, m.now⟩ : MapEntry)] }
    let m := { m with fab.departed := sremove m.fab.departed dev }
    let body := [Word.of (at_ 71 68 3 + at_ 67 50 dev + at_ 49 42 mask + at_ 41 10 serial)]
    let m := m.floodLinks (some k) 7 { words := frameHeader 4 7 0 dev 2 200 1 :: body, src := 1 + k, since := m.now }
    m.mapChanged old

/-! ### Links (R552–R554) -/

/-- A link changes state (R552), which is an event (FAB_EVENTS.LINK). -/
def Dev.setLink (m : Dev) (k st : Nat) : Dev :=
  if m.g (FAB_LINK_STATUS_STATE k) = st then m else (m.p (FAB_LINK_STATUS_STATE k) st).fabricEvent 5

/-- What a link that is no longer UP gives up: the stops of its peer, the frames queued on it, its time messages. -/
def Dev.linkQuiet (m : Dev) (k : Nat) : Dev :=
  let m := ((m.p (FAB_LINK_STATUS_PEER_STOPPED k) 0).p (FAB_LINK_STATUS_VERSION k) 0).dropQueues k
  { m with fab.times := m.fab.times.filter (fun e => e.1 != k) }

/-- A link goes DOWN (R552, R554). -/
def Dev.linkLost (m : Dev) (k : Nat) : Dev :=
  let st := m.g (FAB_LINK_STATUS_STATE k)
  if st = 3 ∨ st = 4 ∨ st = 5 then
    let old := m
    ((((m.setLink k 1).incW (FAB_LINK_COUNTS_LINK_DOWNS k)).linkQuiet k).floodOwn).mapChanged old
  else m

/-- A link goes OFF (R552). -/
def Dev.linkOff (m : Dev) (k : Nat) : Dev :=
  let old := m
  if m.g (FAB_LINK_STATUS_STATE k) = 0 then m
  else
    let m := (m.setLink k 0).linkQuiet k
    if old.linkUp k then m.floodOwn.mapChanged old else m

/-- May a link leave OFF: the fabric and the link enabled, a neighbour position inside the pane (R549, R550, R552)? -/
def Dev.linkMay (m : Dev) (k : Nat) : Bool :=
  m.on FAB_CTRL_ENABLE && m.on (FAB_LINK_CTRL_ENABLE k) && (neighbour m.ident k).isSome && !m.halted

/-- A link that may leaves OFF (R552). -/
def Dev.linkStart (m : Dev) (k : Nat) : Dev :=
  if m.linkMay k && m.g (FAB_LINK_STATUS_STATE k) == 0 then m.setLink k 2 else m

/-- The STOP and GO that a change of STOP_MASK sends (R558): a class that a full buffer has stopped is not released. -/
def Dev.stopMaskChange (m : Dev) (k old new : Nat) : Dev :=
  let stop := (new &&& (127 - old % 128)) % 128
  let go := (old &&& (127 - new % 128)) % 128
  let go := go &&& (127 - m.stopped (1 + k) % 128)
  if m.linkUp k then
    let m := if stop = 0 then m else m.send (.orderedSet k true stop)
    if go = 0 then m else m.send (.orderedSet k false go)
  else m

/-- A write of FAB_LINK_CTRL (R552, R558). -/
def Dev.linkCtrl (m : Dev) (k : Nat) (v : Word) : Dev :=
  let old := m.g (FAB_LINK_CTRL_STOP_MASK k)
  let m := m.commit (FAB_LINK_CTRL_addr k) v
  let m := m.stopMaskChange k old (m.g (FAB_LINK_CTRL_STOP_MASK k))
  if m.on (FAB_LINK_CTRL_ENABLE k) then m.linkStart k else m.linkOff k

/-- A write of FAB_CTRL (R550, R579): ENABLE needs LOCK; clearing it departs on every link and takes no further part. -/
def Dev.fabCtrl (m : Dev) (v : Word) : Dev :=
  let was := m.on FAB_CTRL_ENABLE
  let m := (m.commit FAB_CTRL_addr v).pb FAB_CTRL_ENABLE (bits v 71 71 == 1 && m.on FAB_IDENT_LOCK)
  let now_ := m.on FAB_CTRL_ENABLE
  let fresh : Fab := { serial := m.fab.serial, nextClose := m.fab.nextClose, lastHouse := m.now, cutAt := m.now }
  if now_ && !was then
    let m := { m with fab := fresh }.each 8 (fun k m => m.linkStart k)
    m.mapChanged m
  else if was && !now_ then
    let m := m.departAll.each 8 (fun k m => (m.setLink k 0).linkQuiet k)
    let m := (((m.p FAB_STATUS_ROLE 0).p FAB_STATUS_QUORUM 0).p FAB_STATUS_CUT_OFF 0).p FAB_STATUS_COMPACT 0
    let m := (m.p FAB_TIME_STATUS_STATE 0).p FAB_TIME_STATUS_PARENT 15
    ({ m with fab := fresh }.p FAB_TIME_STATUS_HOPS 0).liveAll
  else m

/-- The reason a peer's HELLO fails, 0 for none (R553). -/
def Dev.helloBad (m : Dev) (k ident : Nat) : Nat :=
  if paneOf ident ≠ paneOf m.ident then 1
  else if ident = m.ident then 3
  else if neighbour m.ident k ≠ some ident then 2 else 0

/-- A version as it acts: 00b acts as 01b (FAB_IDENT). -/
def versionOf (v : Nat) : Nat := max 1 (v % 4)

/-- This device's HELLO on a link (R557). -/
def Dev.sayHello (m : Dev) (k : Nat) : Dev :=
  m.sendControl k 1 (at_ 49 48 (versionOf (m.g FAB_IDENT_VERSION_MAX)) + at_ 47 32 (m.g FAB_IDENT_DOMAIN_ID))

/-- A HELLO of the peer (R552, R553). -/
def Dev.hello (m : Dev) (k ident ver dom : Nat) : Dev :=
  let st := m.g (FAB_LINK_STATUS_STATE k)
  if st = 3 then
    let old := m
    let m := m.p (FAB_LINK_STATUS_PEER k) ident
    let why := m.helloBad k ident
    if why = 0 then
      let m := { m with fab.peerDomain := tins (terase m.fab.peerDomain ident) ident dom }
      let m := { m with fab.departed := sremove m.fab.departed ident }
      let m := ((m.p (FAB_LINK_STATUS_REASON k) 0).p (FAB_LINK_STATUS_VERSION k) (min (versionOf (m.g FAB_IDENT_VERSION_MAX)) (versionOf ver))).setLink k 4
      ((m.fullCredit k).floodOwn).mapChanged old
    else ((m.p (FAB_LINK_STATUS_REASON k) why).setLink k 5).sayHello k
  else if st = 5 then m.sayHello k
  else m

/-! ### Commands -/

/-- May the chain links act at all: the core running or halted, the fabric enabled? -/
def Dev.fabricOn (m : Dev) : Bool := m.on FAB_CTRL_ENABLE && m.coreUp

/-- A link event of a fabric that runs. -/
def onLink (f : Dev → Dev) (s : State) : Host.Outcome State Fault Refusal :=
  .next (s.onM (fun m => if m.fabricOn then f m else m))

/-- FAB_ENABLE (R550, R579): a write of FAB_CTRL. -/
def execFabEnable (mst : Nat) (v : Word) (s : State) : Host.Outcome State Fault Refusal :=
  .next (s.onM (fun m => m.ifWrite mst FAB_CTRL_addr (fun m => m.fabCtrl v)))

/-- CHAIN_LINK_ENABLE (R552): a write of FAB_LINK_CTRL. -/
def execChainLinkEnable (mst k : Nat) (v : Word) (s : State) : Host.Outcome State Fault Refusal :=
  .next (s.onM (fun m => m.ifWrite mst (FAB_LINK_CTRL_addr (k % 8)) (fun m => m.linkCtrl (k % 8) v)))

/-- STOP_MASK_WRITE (R558): a write of FAB_LINK_CTRL. -/
def execStopMaskWrite (mst k : Nat) (v : Word) (s : State) : Host.Outcome State Fault Refusal :=
  .next (s.onM (fun m => m.ifWrite mst (FAB_LINK_CTRL_addr (k % 8)) (fun m => m.linkCtrl (k % 8) v)))

/-- CHAIN_LANE_LOCK (R552). -/
def execChainLaneLock (k : Nat) (s : State) : Host.Outcome State Fault Refusal :=
  onLink (fun m => if decide (k < 8) && m.g (FAB_LINK_STATUS_STATE k) == 2 then (m.setLink k 3).sayHello k else m) s

/-- CHAIN_TRAIN_TIMEOUT (R552): training goes on. -/
def execChainTrainTimeout (k : Nat) (s : State) : Host.Outcome State Fault Refusal :=
  onLink (fun m => if decide (k < 8) && m.g (FAB_LINK_STATUS_STATE k) == 2 then m.setLink k 2 else m) s

/-- CHAIN_RETRAIN_TIMER (R552). -/
def execChainRetrainTimer (k : Nat) (s : State) : Host.Outcome State Fault Refusal :=
  onLink (fun m => if decide (k < 8) && m.g (FAB_LINK_STATUS_STATE k) == 1 && m.linkMay k then m.setLink k 2 else m) s

/-- HELLO_TIMER (R552). -/
def execHelloTimer (k : Nat) (s : State) : Host.Outcome State Fault Refusal :=
  onLink (fun m => if decide (k < 8) && m.g (FAB_LINK_STATUS_STATE k) == 3 then m.sayHello k else m) s

/-- HELLO (R552, R553). -/
def execHello (k ident ver dom : Nat) (s : State) : Host.Outcome State Fault Refusal :=
  onLink (fun m => if k < 8 then m.hello k (ident % 2 ^ 18) ver (dom % 65536) else m) s

/-- KEEPALIVE (R554): an arrival, which keeps the link as it is. -/
def execKeepalive (_k : Nat) (s : State) : Host.Outcome State Fault Refusal := onLink (fun m => m) s

/-- KEEPALIVE_TIMEOUT (R554). -/
def execKeepaliveTimeout (k : Nat) (s : State) : Host.Outcome State Fault Refusal :=
  onLink (fun m => if k < 8 then m.linkLost k else m) s

/-- CHAIN_LOCK_LOSS (R554). -/
def execChainLockLoss (k : Nat) (s : State) : Host.Outcome State Fault Refusal :=
  onLink (fun m => if k < 8 then m.linkLost k else m) s

/-- What a DEPART on a link brings (R554, R561): the link DOWN, and a departure notice. -/
def State.depart (s : State) (k ident : Nat) : State :=
  if s.m.linkUp k then (s.onM (fun m => m.linkLost k)).departed ident else s

/-- DEPART (R554, R561). -/
def execDepart (k ident : Nat) (s : State) : Host.Outcome State Fault Refusal :=
  .next (if s.m.fabricOn && decide (k < 8) then s.depart k (ident % 2 ^ 18) else s)

/-- LINK_STATE (R559). -/
def execLinkState (k dev mask serial : Nat) (s : State) : Host.Outcome State Fault Refusal :=
  onLink (fun m => if m.linkUp k then m.linkState k (dev % 2 ^ 18) mask serial else m) s

/-- LINK_STATE_TIMER (R559); the devices heard in the last 2 s are counted anew (R563). -/
def execLinkStateTimer (s : State) : Host.Outcome State Fault Refusal :=
  onLink (fun m => m.floodOwn.mapChanged m) s

/-- STOP (R558): bit 7 is ignored. -/
def execStop (k mask : Nat) (s : State) : Host.Outcome State Fault Refusal :=
  onLink (fun m => if m.linkUp k then m.p (FAB_LINK_STATUS_PEER_STOPPED k) (m.g (FAB_LINK_STATUS_PEER_STOPPED k) ||| mask % 128) else m) s

/-- GO (R558). -/
def execGo (k mask : Nat) (s : State) : Host.Outcome State Fault Refusal :=
  onLink (fun m => if m.linkUp k then m.p (FAB_LINK_STATUS_PEER_STOPPED k) (m.g (FAB_LINK_STATUS_PEER_STOPPED k) &&& (127 - mask % 128)) else m) s

/-- A TIME message heard on a link (R565): the root is chosen anew, and the parent's messages discipline device time. A time
earlier than this device's is a step (R473), and the calendar keeps what it reads; log entry 170. -/
def Dev.timeHeard (m : Dev) (k : Nat) (msg : TimeMsg) : Dev :=
  let m := { m with fab.times := tins (terase m.fab.times k) k msg }.timeElect
  if m.g FAB_TIME_STATUS_STATE = 1 ∧ m.g FAB_TIME_STATUS_PARENT = k then
    (if msg.time < m.now then m.setNow msg.time else { m with now := msg.time }).p FAB_TIME_STATUS_OFFSET (satSigned 32 msg.offset)
  else m

/-- TIME_FRAME (R565–R567). -/
def execTimeFrame (k : Nat) (msg : TimeMsg) (s : State) : Host.Outcome State Fault Refusal :=
  onLink (fun m => if m.linkUp k then m.timeHeard k msg else m) s

/-- UPLINK_REFERENCE_LOSS (R567). -/
def execUplinkReferenceLoss (s : State) : Host.Outcome State Fault Refusal :=
  .next (s.onM (fun m => if m.coreUp then { m with fab.ptpLocked := false }.timeElect else m))

end Sys2Proof.Machine
end

