-- ==== Sys2Proof/Machine/Epochs.lean ====
section
/-!
DEFINITION. Machine/Epochs.lean: commit domains (R568), epoch messages (R569), closes, reports and commits (R570–R573),
failover (R574–R576), partitions (R577).
-/

namespace Sys2Proof.Machine

/-! ### Settings -/

/-- EPOCH_PERIOD in ns (FAB_CTRL). -/
def Dev.epochNs (m : Dev) : Nat := min 1000000 (max 1000 (m.g FAB_CTRL_EPOCH_PERIOD)) * 1000

/-- HOUSE_TIMEOUT in ns (FAB_CTRL). -/
def Dev.houseNs (m : Dev) : Nat := min 35 (max 10 (m.g FAB_CTRL_HOUSE_TIMEOUT)) * 1000000

/-- COMMIT_LEAD in ns. -/
def Dev.leadNs (m : Dev) : Nat := m.g FAB_CTRL_COMMIT_LEAD * 1000

/-- READY_DEADLINE in ns (FAB_CTRL). -/
def Dev.deadlineNs (m : Dev) : Nat := min (m.g FAB_CTRL_READY_DEADLINE * 1000) (m.epochNs - m.leadNs)

/-- The commit domain of this device (R568). -/
def Dev.domain (m : Dev) : Nat := m.g FAB_IDENT_DOMAIN_ID

/-- Is this device the clearing house? -/
def Dev.isHouse (m : Dev) : Bool := m.g FAB_STATUS_ROLE == 2

/-- Is this device healthy, but for its presence (R568)? -/
def Dev.fit (m : Dev) : Bool := m.on FAB_IDENT_ELIGIBLE && m.g FAB_TIME_STATUS_STATE == 1

/-! ### Members and the report tree -/

/-- The devices that this device takes as members of its domain: itself and those of its map, but those a HELLO has told to be
of another domain. -/
def Dev.known (m : Dev) : List Nat :=
  m.ident :: ((m.fab.map.map (·.dev)).filter (fun d => d != m.ident && (match m.fab.peerDomain.find? (fun e => e.1 == d) with
    | some e => e.2 == m.domain | none => true)))

/-- The present members: at the house those it has admitted, elsewhere those known (R568). -/
def Dev.membersNow (m : Dev) : List Nat := if m.isHouse then m.fab.present else m.known

/-- The least of some identities. -/
def lowest (l : List Nat) : Option Nat := l.foldl (fun a d => match a with | some x => some (min x d) | none => some d) none

/-- The device of this pane toward which reports to the house go: the house, or the gateway to its pane (R570). -/
def Dev.reportRoot (m : Dev) : Option Nat :=
  let h := m.g FAB_STATUS_HOUSE
  if paneOf h = paneOf m.ident then some h
  else if m.on (FAB_GATEWAY_VALID (paneOf h)) then some (m.g (FAB_GATEWAY_GATEWAY (paneOf h))) else none

/-- Where an aggregate goes: the next hop toward the house (R570). -/
def Dev.reportNext (m : Dev) : Option Nat :=
  match m.reportRoot with
  | some r => if r = m.ident then some (m.g FAB_STATUS_HOUSE) else (m.nextHop r).bind (fun k => neighbour m.ident k)
  | none => none

/-- Is a device on the route of another toward the root of some distances (R559)? -/
def Dev.onRoute (m : Dev) (ds : List (Nat × Nat)) (d : Nat) : Nat → Nat → Bool
  | 0, _ => false
  | fuel + 1, x => x == d || (match ds.find? (fun e => e.1 == x) with
      | some (_, n) => (match (m.reachable false x).find? (fun e => ds.any (fun y => y.1 == e && y.2 + 1 == n)) with
        | some e => m.onRoute ds d fuel e | none => false)
      | none => false)

/-- The present members routed through a device, itself among them (R570): of another pane's device, the members of that pane. -/
def Dev.subtree (m : Dev) (d : Nat) : List Nat :=
  if paneOf d ≠ paneOf m.ident then m.membersNow.filter (fun x => paneOf x == paneOf d)
  else match m.reportRoot with
    | none => []
    | some r =>
      let ds := m.distances false r
      m.membersNow.filter (fun x => m.onRoute ds d 4096 (if paneOf x = paneOf m.ident then x else m.g (FAB_GATEWAY_GATEWAY (paneOf x))))

/-! ### Messages (R569) -/

/-- Word 0 of an epoch message. -/
def Dev.epochWord (m : Dev) (op epoch : Nat) : Word := Word.of (at_ 71 68 op + at_ 67 52 m.domain + at_ 51 12 epoch)

/-- The word of TERM, HOUSE and STANDBY that CLOSE, COMMIT and TAKEOVER carry. -/
def Dev.houseWord (m : Dev) : Word :=
  Word.of (at_ 71 56 (m.g FAB_EPOCH_TERM) + at_ 55 38 (m.g FAB_STATUS_HOUSE) + at_ 37 20 (m.g FAB_STATUS_STANDBY))

/-- What tells a flooded message from others: OP, DOMAIN_ID, EPOCH, TERM; DROP carries no TERM. -/
def floodKey (ws : List Word) : Nat × Nat × Nat × Nat :=
  let w := nthWord ws 0
  (bits w 71 68, bits w 67 52, bits w 51 12, if bits w 71 68 = 9 then 0 else bits (nthWord ws 2) 71 56)

/-- Pass a flooded message on: every UP link but the one it came on, and the FLOOD gateways (R569). -/
def Dev.floodOn (m : Dev) (from_ : Option Nat) (src : Nat) (ws : List Word) : Dev :=
  let m := { m with fab.seen := floodKey ws :: m.fab.seen }
  let f : EFrame := { words := frameHeader 2 7 0 src 2 200 ws.length :: ws, src := (match from_ with | some k => 1 + k | none => 0), since := m.now }
  (m.floodLinks from_ 7 f).floodGateways 2 7 ws

/-- Flood a message of this device's own. -/
def Dev.floodNew (m : Dev) (ws : List Word) : Dev := m.floodOn none m.ident ws

/-- Send an epoch message to one device. -/
def Dev.epochTo (m : Dev) (dest : Nat) (ws : List Word) : Dev := m.sendTo 2 7 dest ws

/-- Pass a report of another device up the tree, alone (R570). -/
def Dev.passUp (m : Dev) (src : Nat) (ws : List Word) : Dev :=
  match m.reportNext with
  | some d => (m.route { words := frameHeader 2 7 d src 0 200 ws.length :: ws, since := m.now }).1
  | none => m

/-! ### Reports (R570, R572) -/

/-- Two group words become one (R572). -/
def mergeGroup (a b : Word) : Word :=
  let same := bits a 55 8 == bits b 55 8 && bits a 6 6 == 0 && bits b 6 6 == 0
  putBits (putBits a 6 6 (if same then 0 else 1)) 7 7 (bits a 7 7 * bits b 7 7)

/-- A group word joins others. -/
def addGroup (l : List Word) (w : Word) : List Word :=
  if l.any (fun x => bits x 71 56 == bits w 71 56) then l.map (fun x => if bits x 71 56 == bits w 71 56 then mergeGroup x w else x) else l ++ [w]

/-- The pending records of the EPOCH regions tagged with an epoch or lower. -/
def Dev.epochRecs (m : Dev) (e : Nat) : List LayerRec :=
  (m.layers.filter (fun (x : Nat × Layer) => m.layerMode x.1 == 1)).flatMap (fun x => x.2.pending.filter (fun r => decide (r.tag ≤ e)))

/-- Is every EPOCH region of this device ready for an epoch (R400)? -/
def Dev.epochReady (m : Dev) (e : Nat) : Bool := (m.epochRecs e).all (fun r => r.done.isSome)

/-- The pictures this device would show of its groups (R379, R572): of each group the newest pending record. -/
def Dev.ownGroups (m : Dev) (e : Nat) : List Word :=
  let named := (m.epochRecs e).filterMap (fun r => (r.pic.bind (·.ident)).map (fun i => (r.tag, i)))
  let best := named.foldl (fun (l : List (Nat × Nat × Nat × Nat × Bool)) x =>
    match l.find? (fun y => y.2.1 == x.2.1) with
    | some y => if y.1 ≤ x.1 then l.filter (fun y => y.2.1 != x.2.1) ++ [x] else l
    | none => l ++ [x]) []
  best.map (fun x => Word.of (at_ 71 56 x.2.1 + at_ 55 24 x.2.2.1 + at_ 23 8 x.2.2.2.1 + (if x.2.2.2.2 then 2 ^ 7 else 0)))

/-- This device's own report joins the tally once it is ready; a device not admitted takes no part (R570, R576). -/
def Dev.tallySelf (m : Dev) (t : Tally) : Tally :=
  if t.own || !m.fab.admitted || !m.epochReady t.epoch then t
  else { t with own := true, groups := (m.ownGroups t.epoch).foldl addGroup t.groups }

/-- Gathering for an epoch begins (R570). -/
def Dev.newTally (m : Dev) (e close : Nat) : Dev := { m with fab.tally := some (m.tallySelf { epoch := e, close := close }) }

/-- The missed identities of a READY frame. -/
def readyNames (ws : List Word) : List Nat :=
  let w1 := nthWord ws 1
  (List.range (bits w1 21 16)).map (fun i => let w := nthWord ws (2 + bits w1 33 22 + i / 4); bits w (18 * (i % 4) + 17) (18 * (i % 4)))

/-- A READY frame joins the tally (R570, R572): what its sender covers, less those it names. -/
def Dev.tallyAdd (m : Dev) (t : Tally) (src : Nat) (ws : List Word) : Tally :=
  let w1 := nthWord ws 1
  let names := readyNames ws
  let t := { t with frames := (src, ws) :: t.frames }
  if bits w1 15 15 = 1 then { t with got := t.got.filter (fun d => !smem names d) }
  else
    let cover := (sinsert (m.subtree src) src).filter (fun d => !smem names d)
    { t with members := t.members + bits w1 71 53, heldN := t.heldN + bits w1 52 34, got := cover.foldl sinsert t.got,
             groups := ((ws.drop 2).take (bits w1 33 22)).foldl addGroup t.groups }

/-- The members routed through this device that have not reported (R570). -/
def Dev.unreported (m : Dev) (t : Tally) : List Nat := (m.subtree m.ident).filter (fun d => d != m.ident && !smem t.got d)

/-- Identities in the 18-bit lanes of words (R11). -/
def laneWords : Nat → List Nat → List Word
  | 0, _ => []
  | n + 1, l =>
    match l with
    | [] => []
    | _ => Word.of (((List.range 4).map (fun i => at_ (18 * i + 17) (18 * i) (l.getD i 0))).sum) :: laneWords n (l.drop 4)

/-- The further READY frames that name missed members, 32 in each (R570). -/
def Dev.moreFrames (m : Dev) (e : Nat) : Nat → List Nat → List (List Word)
  | 0, _ => []
  | n + 1, l =>
    match l with
    | [] => []
    | _ => ([m.epochWord 2 e, Word.of (at_ 21 16 (min 32 l.length) + at_ 15 15 1)] ++ laneWords 8 (l.take 32)) :: m.moreFrames e n (l.drop 32)

/-- The aggregate of this device leaves (R570). -/
def Dev.sendAggregate (m : Dev) (t : Tally) : Dev :=
  let names := m.unreported t
  let self := if m.fab.admitted then 1 else 0
  let w1 := Word.of (at_ 71 53 (t.members + self) + at_ 52 34 (t.heldN + (if m.fab.admitted && !t.own then 1 else 0)) +
    at_ 33 22 t.groups.length + at_ 21 16 (min 32 names.length))
  let first := [m.epochWord 2 t.epoch, w1] ++ t.groups ++ laneWords 8 (names.take 32)
  let m := { m with fab.tally := some { t with sent := true, named := names } }
  match m.reportNext with
  | some d => (first :: m.moreFrames t.epoch 8192 (names.drop 32)).foldl (fun (m : Dev) ws => m.epochTo d ws) m
  | none => m

/-- The aggregate leaves once everything it covers has reported (R570). -/
def Dev.tryAggregate (m : Dev) : Dev :=
  match m.fab.tally with
  | none => m
  | some t =>
    let t := m.tallySelf t
    let m := { m with fab.tally := some t }
    if m.isHouse || t.sent || !(t.own || !m.fab.admitted) || !(m.unreported t).isEmpty then m else m.sendAggregate t

/-- A READY report arrives (R570). -/
def Dev.ready (m : Dev) (src : Nat) (ws : List Word) : Dev :=
  if bits (nthWord ws 0) 67 52 ≠ m.domain then m
  else match m.fab.tally with
    | none => if m.isHouse then m else m.passUp src ws
    | some t =>
      if bits (nthWord ws 0) 51 12 ≠ t.epoch then (if m.isHouse then m else m.passUp src ws)
      else if t.frames.any (fun f => f == (src, ws)) then m
      else if t.sent then ({ m with fab.tally := some { t with frames := (src, ws) :: t.frames } }).passUp src ws
      else ({ m with fab.tally := some (m.tallyAdd t src ws) }).tryAggregate

/-! ### Whom a device obeys (R568, R576) -/

/-- Does a device obey a message of a TERM and house: the higher TERM, on equal TERM the lower identity (R568, R576)? -/
def Dev.obeys (m : Dev) (w2 : Word) : Bool :=
  let term := bits w2 71 56
  decide (m.g FAB_EPOCH_TERM < term) ||
    (m.g FAB_EPOCH_TERM == term && (m.g FAB_STATUS_ROLE == 0 || decide (bits w2 55 38 ≤ m.g FAB_STATUS_HOUSE)))

/-- The house, its term and its standby, as a message tells them; a house that yields becomes a member that is not admitted
(R576). -/
def Dev.takeHouse (m : Dev) (w2 : Word) : Dev :=
  let house := bits w2 55 38
  let standby := bits w2 37 20
  let was := m.g FAB_STATUS_ROLE
  let role := if house = m.ident then 2 else if standby = m.ident then 3 else 1
  let m := ((m.p FAB_EPOCH_TERM (bits w2 71 56)).p FAB_STATUS_HOUSE house).p FAB_STATUS_STANDBY standby
  let m := m.p FAB_STATUS_ROLE role
  let m := if was = 2 ∧ role ≠ 2 then
    { m.p FAB_STATUS_QUORUM 0 with fab.admitted := false, fab.joins := [], fab.tally := none, fab.awaitAck := none, fab.gather := none } else m
  if role = 3 ∧ was = 3 then m else { m with fab.lastHouse := m.now }

/-- A device that is not admitted sends JOIN (R573, R576, R577). -/
def Dev.askJoin (m : Dev) : Dev :=
  if m.fab.admitted || m.isHouse || smem m.fab.joins m.ident then m
  else { m with fab.joins := [m.ident] }.epochTo (m.g FAB_STATUS_HOUSE) [m.epochWord 8 (m.g FAB_EPOCH_OPEN), Word.of (at_ 71 54 m.ident)]

/-- A standby is named: the lowest present member but this house and one that has failed (R568); none is told by the house's own
identity. -/
def Dev.nameStandby (m : Dev) (but : Nat) : Dev :=
  let l := m.fab.present.filter (fun d => d != m.ident && d != but && !smem m.fab.departed d)
  { m.p FAB_STATUS_STANDBY ((lowest l).getD m.ident) with fab.hbSent := none }

/-! ### CLOSE (R570) -/

/-- The next moment after a time that is a whole second plus a multiple of the period (R570). -/
def closeMoment (now period : Nat) : Nat :=
  let sec := now / 1000000000 * 1000000000
  min (sec + ceilDiv (now - sec) period * period) (sec + (if now = sec then 0 else 1000000000))

/-- The house closes an epoch: admissions, CLOSE flooded, the next one open (R570, R573). -/
def Dev.closeEpoch (m : Dev) (e t : Nat) : Dev :=
  let m := { m with fab.present := m.fab.joins.foldl sinsert m.fab.present, fab.joins := [], fab.nextClose := t, fab.cutAt := t }
  let sb := m.g FAB_STATUS_STANDBY
  let m := if sb = m.ident ∨ smem m.fab.departed sb = true ∨ smem m.fab.present sb = false then m.nameStandby sb else m
  let m := m.floodNew [m.epochWord 1 e, timeWord t, m.houseWord]
  (m.p FAB_EPOCH_OPEN (e + 1)).newTally e t

/-- A CLOSE or COMMIT of the domain has come (R577). -/
def Dev.heard (m : Dev) : Dev := { m.p FAB_STATUS_CUT_OFF 0 with fab.cutAt := m.now }

/-- A CLOSE of a house that this device obeys (R570, R573, R576). -/
def Dev.close (m : Dev) (ws : List Word) : Dev :=
  let w2 := nthWord ws 2
  let e := bits (nthWord ws 0) 51 12
  if bits (nthWord ws 0) 67 52 ≠ m.domain ∨ m.obeys w2 = false ∨ bits w2 55 38 = m.ident then m
  else
    let m := (m.takeHouse w2).heard
    let m := if !m.fab.admitted && smem m.fab.joins m.ident then { m with fab.admitted := true, fab.joins := [] } else m.askJoin
    ((m.p FAB_EPOCH_OPEN (e + 1)).newTally e (timeNs (nthWord ws 1))).tryAggregate

/-! ### COMMIT (R571–R573) -/

/-- A commit is held for latching, once (R571, R572). -/
def Dev.holdCommit (m : Dev) (ws : List Word) : Dev :=
  let e := bits (nthWord ws 0) 51 12
  let t := timeNs (nthWord ws 1)
  let w3 := nthWord ws 3
  let groups := (ws.drop 4).take (bits w3 52 41)
  let m := m.p FAB_STATUS_PRESENT (bits w3 71 53)
  let m := { m with fab.recent := ws :: m.fab.recent.take 7 }
  let m := groups.foldl (fun (m : Dev) w => { m with fab.groups := tins (terase m.fab.groups (bits w 71 56)) (bits w 71 56) w }) m
  let m := (m.p FAB_STATUS_LOCAL_ONLY 0).p COMP_STATUS_LOCAL_ONLY 0
  if e ≤ m.g FAB_COMMITTED_LAST_COMMITTED ∨ m.fab.commits.any (fun c => c.epoch == e) = true then m
  else
    let r : CommitRec := ⟨e, t, decide (t < m.now), groups⟩
    { m with fab.commits := m.fab.commits.filter (fun c => decide (c.epoch < e)) ++ [r] ++ m.fab.commits.filter (fun c => decide (e < c.epoch)) }

/-- A COMMIT of a house that this device obeys (R571, R576, R577). -/
def Dev.commitMsg (m : Dev) (ws : List Word) : Dev :=
  let w2 := nthWord ws 2
  if bits (nthWord ws 0) 67 52 ≠ m.domain ∨ m.obeys w2 = false ∨ bits w2 55 38 = m.ident then m
  else (((m.takeHouse w2).heard).holdCommit ws).askJoin

/-- A COMMIT that the house has logged here (R571). -/
def Dev.logCommit (m : Dev) (src : Nat) (ws : List Word) : Dev :=
  let w2 := nthWord ws 2
  if bits (nthWord ws 0) 67 52 ≠ m.domain ∨ m.obeys w2 = false ∨ bits w2 55 38 ≠ src ∨ src = m.ident then m
  else
    let m := m.takeHouse w2
    { m with fab.logged := some ws, fab.lastHouse := m.now }.epochTo src [m.epochWord 4 (bits (nthWord ws 0) 51 12)]

/-- Do some devices give quorum (R575)? -/
def Dev.quorum (m : Dev) (count : Nat) (cover : List Nat) : Bool :=
  let all := if m.fab.last.isEmpty then m.membersNow else m.fab.last
  let p := if m.fab.last.isEmpty then m.g FAB_STATUS_PRESENT else m.fab.last.length
  let n := if m.fab.last.isEmpty then count else (cover.filter (fun d => smem m.fab.last d)).length
  decide (p < 2 * n) || (p == 2 * n && (match lowest all with | some d => smem cover d | none => true))

/-- Members dropped, up to the four of one DROP (R573). -/
def State.dropMembers (s : State) : State :=
  let gone := ((s.m.fab.present.filter (fun d => decide (3 ≤ tget (fun _ => 0) s.m.fab.misses d))).take 4)
  if gone.isEmpty then s
  else
    let s := s.onM (fun m =>
      let m := m.floodNew (m.epochWord 9 (m.g FAB_EPOCH_OPEN) :: laneWords 1 gone)
      let m := { m with fab.present := m.fab.present.filter (fun d => !smem gone d), fab.misses := gone.foldl terase m.fab.misses }
      m.fabricEvent 3)
    gone.foldl (fun s d => s.memberGone d) s

/-- The house floods a commit and takes it itself; members missed three times are dropped (R571, R573). -/
def State.commitFlood (s : State) (ws : List Word) : State :=
  (s.onM (fun m =>
    let m := { m with fab.awaitAck := none, fab.cutAt := m.now }
    (m.floodNew ws).holdCommit ws)).dropMembers

/-- The group words of a commit (R572): the picture reported, or the one committed before. -/
def Dev.commitGroups (m : Dev) (t : Tally) : List Word :=
  t.groups.filterMap (fun w => if bits w 6 6 = 0 then some w else (m.fab.groups.find? (fun e => e.1 == bits w 71 56)).map (·.2))

/-- Who has not reported of those present, and counts as missed (R570, R573). -/
def Dev.missing (m : Dev) (t : Tally) : List Nat := m.fab.present.filter (fun d => d != m.ident && !smem t.got d)

/-- Have all reported whom the house waits for (R571, R573)? -/
def Dev.allIn (m : Dev) (t : Tally) : Bool := t.own && (m.missing t).all (fun d => smem m.fab.departed d)

/-- The house issues a commit, or finds no quorum (R571, R573, R575). -/
def State.commitIssue (s : State) : State :=
  let m := s.m
  match m.fab.tally with
  | none => s
  | some t =>
    let t := m.tallySelf t
    let m := if m.allIn t then m else m.reach (t.close + m.deadlineNs)
    let t := m.tallySelf t
    let cover := sinsert t.got m.ident
    if !m.quorum cover.length cover then { s with m := { m.p FAB_STATUS_QUORUM 0 with fab.tally := none } }
    else
      let missed := m.missing t
      let m := (m.p FAB_STATUS_QUORUM 1).addWrap FAB_EPOCH_COUNTS_MISSES missed.length
      let miss := missed.foldl (fun l d => tput (fun _ => 0) l d (tget (fun _ => 0) m.fab.misses d + 1)) []
      let groups := m.commitGroups t
      let w3 := Word.of (at_ 71 53 m.fab.present.length + at_ 52 41 groups.length)
      let ws := [m.epochWord 3 t.epoch, timeWord (m.now + m.leadNs), m.houseWord, w3] ++ groups
      let m := { m with fab.tally := none, fab.misses := miss, fab.last := m.fab.present }
      if m.g FAB_STATUS_STANDBY = m.ident then { s with m := m }.commitFlood ws
      else { s with m := { m with fab.awaitAck := some ws }.epochTo (m.g FAB_STATUS_STANDBY) ws }

/-- The LOG_ACK that a commit waits for has come (R571). -/
def State.logAck (s : State) (src : Nat) (ws : List Word) : State :=
  if !s.m.isHouse || bits (nthWord ws 0) 67 52 != s.m.domain || src != s.m.g FAB_STATUS_STANDBY then s
  else
    let s := s.onM (fun m => { m with fab.hbSent := none })
    match s.m.fab.awaitAck with
    | some c => if bits (nthWord c 0) 51 12 = bits (nthWord ws 0) 51 12 then s.commitFlood c else s
    | none => s

/-- The commit as the house now names its standby. -/
def Dev.renamed (m : Dev) (ws : List Word) : List Word := ws.set 2 m.houseWord

/-- A DROP (R573): the members named leave; this device, if named, sends JOIN. -/
def State.drop (s : State) (ws : List Word) : State :=
  if bits (nthWord ws 0) 67 52 ≠ s.m.domain then s
  else
    let w := nthWord ws 1
    let gone := ((List.range 4).map (fun i => bits w (18 * i + 17) (18 * i))).filter (fun d => d != 0)
    let s := s.onM (fun m => if smem gone m.ident then { m.fabricEvent 3 with fab.admitted := false, fab.joins := [] }.askJoin else m)
    gone.foldl (fun s d => s.memberGone d) s

/-! ### Failover (R574) -/

/-- The epoch of the commit in this device's log, with its T. -/
def Dev.logEpoch (m : Dev) : Nat × Word :=
  match m.fab.logged with
  | some ws => if m.g FAB_COMMITTED_LAST_COMMITTED < bits (nthWord ws 0) 51 12 then (bits (nthWord ws 0) 51 12, nthWord ws 1)
    else (m.g FAB_COMMITTED_LAST_COMMITTED, m.rd FAB_COMMIT_TIME_addr)
  | none => (m.g FAB_COMMITTED_LAST_COMMITTED, m.rd FAB_COMMIT_TIME_addr)

/-- This device floods TAKEOVER and begins to gather (R574). -/
def Dev.takeover (m : Dev) : Dev :=
  let m := (m.p FAB_EPOCH_TERM (m.g FAB_EPOCH_TERM + 1)).p FAB_STATUS_HOUSE m.ident
  let m := ((m.p FAB_STATUS_STANDBY m.ident).incW FAB_EPOCH_COUNTS_TAKEOVERS).fabricEvent 4
  let g : Gather := ⟨1, [m.ident], m.logEpoch.1, m.logEpoch.2, m.g FAB_EPOCH_OPEN⟩
  { m with fab.gather := some g, fab.tookAt := m.now, fab.tally := none }.floodNew [m.epochWord 6 (m.g FAB_EPOCH_OPEN), 0, m.houseWord]

/-- A device with no house forms its domain (R568). -/
def Dev.formDomain (m : Dev) : Dev :=
  let m := ((m.p FAB_STATUS_ROLE 2).p FAB_STATUS_HOUSE m.ident).p FAB_STATUS_STANDBY m.ident
  { m.heard with fab.admitted := true, fab.present := [m.ident], fab.joins := [], fab.last := [], fab.misses := [] }

/-- HOUSE_TIMEOUT passes in silence (R568, R574). -/
def Dev.houseTimeout (m : Dev) : Dev :=
  let role := m.g FAB_STATUS_ROLE
  if !m.fit || m.fab.gather.isSome then m
  else if role = 3 then (if m.fab.admitted then (m.reach (m.fab.lastHouse + m.houseNs)).takeover else m)
  else if role = 1 then
    let away := [m.g FAB_STATUS_HOUSE, m.g FAB_STATUS_STANDBY] ++ m.fab.departed
    let live := m.known.filter (fun d => !smem away d && (m.hopsTo d).isSome)
    if m.fab.admitted && lowest live == some m.ident then (m.reach (m.fab.lastHouse + 2 * m.houseNs)).takeover else m
  else if role = 0 then (if lowest m.known = some m.ident then (m.reach (m.fab.lastHouse + m.houseNs)).formDomain else m)
  else m

/-- A TAKEOVER of a candidate that this device obeys: it answers with STATE (R574, R576). -/
def Dev.takeoverMsg (m : Dev) (ws : List Word) : Dev :=
  let w2 := nthWord ws 2
  if bits (nthWord ws 0) 67 52 ≠ m.domain ∨ m.obeys w2 = false ∨ bits w2 55 38 = m.ident then m
  else
    let m := (({ m with fab.gather := none }.takeHouse w2).incW FAB_EPOCH_COUNTS_TAKEOVERS).fabricEvent 4
    let st := [m.epochWord 7 (m.g FAB_EPOCH_OPEN), Word.of (at_ 71 32 (m.g FAB_COMMITTED_LAST_COMMITTED)), m.rd FAB_COMMIT_TIME_addr,
      Word.of (at_ 71 32 (m.g FAB_EPOCH_OPEN) + at_ 31 13 1)]
    if m.fab.admitted then m.passUp m.ident st else m.askJoin

/-- A STATE reply (R569, R574): gathered at the candidate, passed up elsewhere. -/
def Dev.stateMsg (m : Dev) (src : Nat) (ws : List Word) : Dev :=
  if bits (nthWord ws 0) 67 52 ≠ m.domain then m
  else match m.fab.gather with
    | none => if m.isHouse then m else m.passUp src ws
    | some g =>
      if smem g.got src then m
      else
        let e := bits (nthWord ws 1) 71 32
        let w3 := nthWord ws 3
        let g : Gather := ⟨g.members + bits w3 31 13, sinsert g.got src, max g.last e, if g.last < e then nthWord ws 2 else g.lastT, max g.opened (bits w3 71 32)⟩
        { m with fab.gather := some g }

/-- The words of a commit to flood again: logged, seen, or made up from its epoch and T (R574). -/
def Dev.oldCommit (m : Dev) (e : Nat) (t : Word) : List Word :=
  let have_ := (match m.fab.logged with | some ws => [ws] | none => []) ++ m.fab.recent
  match have_.find? (fun ws => bits (nthWord ws 0) 51 12 == e) with
  | some ws => ws
  | none => [m.epochWord 3 e, t, 0, Word.of (at_ 71 53 (m.g FAB_STATUS_PRESENT))]

/-- The gathering ends: with quorum the candidate becomes the house (R574, R575). -/
def State.gatherEnd (s : State) : State :=
  match s.m.fab.gather with
  | none => s
  | some g =>
    let s := s.onM (fun m => { m.reach (m.fab.tookAt + 10000000) with fab.gather := none })
    if !s.m.quorum g.members g.got then s
    else
      let s := s.onM (fun m =>
        let present := (g.got ++ m.known).foldl sinsert []
        let m := { m with fab.present := present, fab.last := [], fab.misses := [], fab.joins := [], fab.admitted := true }
        ((m.p FAB_STATUS_ROLE 2).p FAB_STATUS_QUORUM 1).nameStandby m.ident)
      let s := if g.last = 0 then s else s.commitFlood (s.m.renamed (s.m.oldCommit g.last g.lastT))
      s.onM (fun m => m.closeEpoch g.opened m.now)

/-! ### Commands -/

/-- An event of a fabric that runs. -/
def onFabric (f : State → State) (s : State) : Host.Outcome State Fault Refusal := .next (if s.m.fabricOn then f s else s)

/-- A flooded message that came on a link is taken once and passed on once (R569). -/
def State.flooded (s : State) (from_ : Option Nat) (src : Nat) (ws : List Word) (f : State → State) : State :=
  if s.m.fab.seen.any (fun x => x == floodKey ws) then s else f (s.onM (fun m => m.floodOn from_ src ws))

/-- The link a message came on, if it is a link of this device that is UP. -/
def linkOf (k : Nat) : Option Nat := if k < 8 then some k else none

/-- CLOSE_TIMER (R570): the house closes the open epoch. -/
def execCloseTimer (s : State) : Host.Outcome State Fault Refusal :=
  onFabric (fun s => s.onM (fun m =>
    if m.isHouse then
      let t := closeMoment (max m.now (m.fab.nextClose + 1)) m.epochNs
      (m.reach t).closeEpoch (m.g FAB_EPOCH_OPEN) t
    else m)) s

/-- CLOSE (R570, R576). -/
def execClose (k src : Nat) (ws : List Word) (s : State) : Host.Outcome State Fault Refusal :=
  onFabric (fun s => s.flooded (linkOf k) src ws (fun s => s.onM (fun m => m.close ws))) s

/-- READY (R570). -/
def execReady (_k src : Nat) (ws : List Word) (s : State) : Host.Outcome State Fault Refusal :=
  onFabric (fun s => s.onM (fun m => m.ready src ws)) s

/-- READY_AGGREGATE_DEADLINE (R570): the aggregate leaves, at once if complete, else at its deadline. -/
def execReadyAggregateDeadline (s : State) : Host.Outcome State Fault Refusal :=
  onFabric (fun s => s.onM (fun m =>
    let m := m.tryAggregate
    match m.fab.tally with
    | none => m
    | some t =>
      if m.isHouse || t.sent then m
      else
        let hops := match m.reportRoot with | some r => (m.hopsTo r).getD 0 | none => 0
        let m := m.reach (t.close + m.deadlineNs - 50000 * hops)
        m.sendAggregate (m.tallySelf t))) s

/-- COMMIT_ISSUE (R571, R575). -/
def execCommitIssue (s : State) : Host.Outcome State Fault Refusal :=
  onFabric (fun s => if s.m.isHouse then s.commitIssue else s) s

/-- LOG_ACK (R569, R571). -/
def execLogAck (_k src : Nat) (ws : List Word) (s : State) : Host.Outcome State Fault Refusal := onFabric (fun s => s.logAck src ws) s

/-- LOG_WAIT_EXPIRY (R571): 1 ms after the issue a new standby is named and the commit flooded all the same. -/
def execLogWaitExpiry (s : State) : Host.Outcome State Fault Refusal :=
  onFabric (fun s => match s.m.fab.awaitAck with
    | some ws =>
      let s := s.onM (fun m => (m.reach (timeNs (nthWord ws 1) - m.leadNs + 1000000)).nameStandby (m.g FAB_STATUS_STANDBY))
      s.commitFlood (s.m.renamed ws)
    | none => s) s

/-- COMMIT (R571): flooded, or logged by the house to its standby. -/
def execCommit (k src : Nat) (logged : Bool) (ws : List Word) (s : State) : Host.Outcome State Fault Refusal :=
  onFabric (fun s => if logged then s.onM (fun m => m.logCommit src ws)
    else s.flooded (linkOf k) src ws (fun s => s.onM (fun m => m.commitMsg ws))) s

/-- HEARTBEAT_TIMER (R569). -/
def execHeartbeatTimer (s : State) : Host.Outcome State Fault Refusal :=
  onFabric (fun s => s.onM (fun m =>
    if m.isHouse && m.g FAB_STATUS_STANDBY != m.ident then
      { m with fab.hbSent := some (m.fab.hbSent.getD m.now) }.epochTo (m.g FAB_STATUS_STANDBY) [m.epochWord 5 (m.g FAB_EPOCH_OPEN), timeWord m.now]
    else m)) s

/-- A HEARTBEAT of the house at its standby (R569, R574). -/
def Dev.heartbeat (m : Dev) (src : Nat) (ws : List Word) : Dev :=
  if bits (nthWord ws 0) 67 52 = m.domain ∧ m.g FAB_STATUS_ROLE = 3 ∧ src = m.g FAB_STATUS_HOUSE then
    { m with fab.lastHouse := m.now }.epochTo src [m.epochWord 4 (bits (nthWord ws 0) 51 12)]
  else m

/-- HEARTBEAT (R569, R574). -/
def execHeartbeat (_k src : Nat) (ws : List Word) (s : State) : Host.Outcome State Fault Refusal :=
  onFabric (fun s => s.onM (fun m => m.heartbeat src ws)) s

/-- HEARTBEAT_ANSWER_TIMEOUT (R568). -/
def execHeartbeatAnswerTimeout (s : State) : Host.Outcome State Fault Refusal :=
  onFabric (fun s => s.onM (fun m => match m.fab.hbSent with
    | some t => if m.isHouse then (m.reach (t + 5000000)).nameStandby (m.g FAB_STATUS_STANDBY) else m
    | none => m)) s

/-- HOUSE_TIMEOUT (R568, R574). -/
def execHouseTimeout (s : State) : Host.Outcome State Fault Refusal := onFabric (fun s => s.onM (fun m => m.houseTimeout)) s

/-- TAKEOVER (R574, R576). -/
def execTakeover (k src : Nat) (ws : List Word) (s : State) : Host.Outcome State Fault Refusal :=
  onFabric (fun s => s.flooded (linkOf k) src ws (fun s => s.onM (fun m => m.takeoverMsg ws))) s

/-- STATE (R569, R574). -/
def execState (_k src : Nat) (ws : List Word) (s : State) : Host.Outcome State Fault Refusal :=
  onFabric (fun s => s.onM (fun m => m.stateMsg src ws)) s

/-- TAKEOVER_GATHER_END (R574, R575). -/
def execTakeoverGatherEnd (s : State) : Host.Outcome State Fault Refusal := onFabric (fun s => s.gatherEnd) s

/-- A JOIN at the house: the device is admitted at the next CLOSE (R573). -/
def Dev.joinMsg (m : Dev) (ws : List Word) : Dev :=
  let d := bits (nthWord ws 1) 71 54
  if bits (nthWord ws 0) 67 52 = m.domain ∧ m.isHouse = true ∧ d ≠ m.ident then
    { m with fab.joins := sinsert m.fab.joins d, fab.departed := sremove m.fab.departed d, fab.misses := terase m.fab.misses d }
  else m

/-- JOIN (R573). -/
def execJoin (_k _src : Nat) (ws : List Word) (s : State) : Host.Outcome State Fault Refusal :=
  onFabric (fun s => s.onM (fun m => m.joinMsg ws)) s

/-- DROP (R573). -/
def execDrop (k src : Nat) (ws : List Word) (s : State) : Host.Outcome State Fault Refusal :=
  onFabric (fun s => s.flooded (linkOf k) src ws (fun s => s.drop ws)) s

/-- CUT_OFF (R577): HOUSE_TIMEOUT + EPOCH_PERIOD without a CLOSE or COMMIT. -/
def execCutOff (s : State) : Host.Outcome State Fault Refusal :=
  onFabric (fun s => s.onM (fun m =>
    let role := m.g FAB_STATUS_ROLE
    if (role = 1 ∨ role = 3) ∧ m.on FAB_STATUS_CUT_OFF = false then
      { ((m.reach (m.fab.cutAt + m.houseNs + m.epochNs)).p FAB_STATUS_CUT_OFF 1).fabricEvent 2 with fab.admitted := false, fab.joins := [] }
    else m)) s

/-- PARTITION_TIMEOUT (R577, R401). -/
def execPartitionTimeout (s : State) : Host.Outcome State Fault Refusal :=
  onFabric (fun s => s.onM (fun m =>
    if m.on FAB_STATUS_CUT_OFF then
      let m := m.reach (m.fab.cutAt + m.houseNs + m.epochNs + max 100 (m.g FAB_CTRL_PARTITION_TIMEOUT) * 1000000)
      (m.p FAB_STATUS_LOCAL_ONLY 1).p COMP_STATUS_LOCAL_ONLY 1
    else m)) s

end Sys2Proof.Machine
end

