-- ==== Sys2Proof/Machine/Arrivals.lean ====
section
/-!
DEFINITION. Machine/Arrivals.lean: a frame that arrives on a chain link or in a gateway datagram is checked, and taken, forwarded
or dropped (R555–R557, R562).
-/

namespace Sys2Proof.Machine

/-- Is a frame sound: its length, no reserved value (R555)? `ver`: the version of the link it came on. -/
def frameSound (ver : Nat) (ws : List Word) : Bool :=
  let h := nthWord ws 0
  decide (3 ≤ ws.length) && bits h 18 8 + 2 == ws.length && decide (bits h 18 8 ≤ 1024) && decide (1 ≤ bits h 71 68) && decide (bits h 71 68 ≤ 4) &&
    (bits h 28 27 == 0 || bits h 28 27 == 2 || (bits h 28 27 == 1 && decide (2 ≤ ver))) && bits h 7 0 == 0

/-- Is the CRC of a frame right (R366, R556)? -/
def crcOk (ws : List Word) : Bool := bits (nthWord ws (ws.length - 1)) 71 40 == crcWords ws.dropLast

/-- An epoch message as its frame brings it (R569): `from_` the link it is not to be flooded back on; `logged`: it was sent to
this device alone. -/
def State.epochArrives (s : State) (from_ : Option Nat) (src : Nat) (logged : Bool) (ws : List Word) : State :=
  match bits (nthWord ws 0) 71 68 with
  | 1 => s.flooded from_ src ws (fun s => s.onM (fun m => m.close ws))
  | 2 => s.onM (fun m => m.ready src ws)
  | 3 => if logged then s.onM (fun m => m.logCommit src ws) else s.flooded from_ src ws (fun s => s.onM (fun m => m.commitMsg ws))
  | 4 => s.logAck src ws
  | 5 => s.onM (fun m => m.heartbeat src ws)
  | 6 => s.flooded from_ src ws (fun s => s.onM (fun m => m.takeoverMsg ws))
  | 7 => s.onM (fun m => m.stateMsg src ws)
  | 8 => s.onM (fun m => m.joinMsg ws)
  | 9 => s.flooded from_ src ws (fun s => s.drop ws)
  | _ => s

/-- A CONTROL frame of a link (R557). -/
def State.controlArrives (s : State) (k : Nat) (ws : List Word) : State :=
  let w := nthWord ws 0
  match bits w 71 68 with
  | 1 => s.onM (fun m => m.hello k (bits w 67 50) (bits w 49 48) (bits w 47 32))
  | 3 => s.onM (fun m => if m.linkUp k then m.linkState k (bits w 67 50) (bits w 49 42) (bits w 41 10) else m)
  | 4 => s.depart k (bits w 67 50)
  | _ => s

/-- A frame for this device (R555): seams go to their group, epoch and control messages act; what a TIME frame holds comes as a
TIME_FRAME. -/
def State.takeFrame (s : State) (k : Nat) (from_ : Option Nat) (ws : List Word) : State :=
  let h := nthWord ws 0
  let body := (ws.drop 1).dropLast
  match bits h 71 68 with
  | 1 => s.seamReceive 0 body
  | 2 => s.epochArrives from_ (bits h 46 29) (bits h 28 27 == 0) body
  | 4 => s.controlArrives k body
  | _ => s

/-- The frame as it goes on, with a hop less to live (R555). -/
def lessTtl (ws : List Word) : List Word := ws.dropLast.set 0 (putBits (nthWord ws 0) 26 19 (bits (nthWord ws 0) 26 19 - 1))

/-- A frame for another device is forwarded (R556, R559), or dropped where it has no hop left, no route or no tree. -/
def Dev.forward (m : Dev) (k : Nat) (ws : List Word) : Dev :=
  let h := nthWord ws 0
  let drop := m.incW (FAB_LINK_COUNTS_OTHER_DROPS k)
  if bits h 28 27 = 1 ∨ bits h 26 19 = 0 then drop
  else
    let f : EFrame := { words := lessTtl ws, src := 1 + k, since := m.now, lat := bits (nthWord ws (ws.length - 1)) 23 0 }
    let r := m.route f
    if r.2 then r.1.marks (1 + k) (bits h 67 65) else drop

/-- A frame arrives on a link (R553, R556). -/
def State.frameArrives (s : State) (k : Nat) (ws : List Word) : State :=
  let h := nthWord ws 0
  let st := s.m.g (FAB_LINK_STATUS_STATE k)
  let op := bits (nthWord ws 1) 71 68
  let hello := bits h 71 68 == 4 && (op == 1 || op == 2)
  if k ≥ 8 ∨ !(st == 4 || ((st == 3 || st == 5) && hello)) then s
  else if !crcOk ws then s.onM (fun m => m.incW (FAB_LINK_COUNTS_CRC_DROPS k))
  else if !frameSound (s.m.g (FAB_LINK_STATUS_VERSION k)) ws ||
      (decide (bits h 67 65 < 7) && decide (20480 < s.m.classWords (1 + k) (bits h 67 65) + ws.length)) then
    s.onM (fun m => m.incW (FAB_LINK_COUNTS_OTHER_DROPS k))
  else if bits h 28 27 = 2 ∨ (bits h 28 27 = 0 ∧ bits h 64 47 = s.m.ident) then s.takeFrame k (some k) ws
  else s.onM (fun m => m.forward k ws)

/-- Is this an epoch message that is flooded (R569)? -/
def floodedOp (ws : List Word) : Bool :=
  bits (nthWord ws 0) 71 68 == 2 && smem [1, 3, 6, 9] (bits (nthWord ws 1) 71 68)

/-- A frame that a gateway datagram brings (R562): routed into this pane, dropped where it fails R556 or is for another pane. -/
def State.gatewayFrame (s : State) (q ver : Nat) (ws : List Word) : State :=
  let h := nthWord ws 0
  let dest := bits h 64 47
  let bad := ver != 1 || !crcOk ws || !frameSound 1 ws || bits h 28 27 != 0 || paneOf dest != paneOf s.m.ident ||
    (decide (bits h 67 65 < 7) && decide (20480 < s.m.classWords (9 + q) (bits h 67 65) + ws.length))
  let drop := s.onM (fun m => m.incW (FAB_LINK_COUNTS_OTHER_DROPS 0))
  if bad then drop
  else if floodedOp ws && dest == identOf (paneOf s.m.ident) 0 0 then s.epochArrives none (bits h 46 29) false ((ws.drop 1).dropLast)
  else if dest = s.m.ident then s.takeFrame 8 none ws
  else if bits h 26 19 = 0 then drop
  else
    let r := s.m.route { words := lessTtl ws, src := 9 + q, since := s.m.now }
    if r.2 then { s with m := r.1.marks (9 + q) (bits h 67 65) } else drop

/-- CHAIN_FRAME (R556). -/
def execChainFrame (k : Nat) (ws : List Word) (s : State) : Host.Outcome State Fault Refusal := onFabric (fun s => s.frameArrives k ws) s

/-- GATEWAY_DATAGRAM (R562): it has passed the uplink port (R595) and its meter (R591). -/
def execGatewayDatagram (q ver dstPort ipLen : Nat) (ws : List Word) (s : State) : Host.Outcome State Fault Refusal :=
  .next (if !s.m.coreUp || !s.m.uplinkUp q then s
    else
      let r := (s.m.incW (UPLINK_COUNTS_RX_FRAMES q)).police q dstPort ipLen
      if r.2 && r.1.on FAB_CTRL_ENABLE then { s with m := r.1 }.gatewayFrame q ver ws else { s with m := r.1 })

end Sys2Proof.Machine
end

