-- ==== Sys2Proof/Machine/Lanes.lean ====
section
/-!
DEFINITION. Machine/Lanes.lean: the packed-lane instructions: six-pack and nine-pack (R123, R124), QUAD and CNV (R125).
-/

namespace Sys2Proof.Machine

/-! ### Six-pack (R123, R124) -/

/-- S6ADD: modulo 2^12 (R123) -/
def execS6add (t : Nat) (c : BitVec 4) (d a b : BitVec 5) (s : State) : Host.Outcome State Fault Refusal :=
  .next (s.alu 0x004 t c true d (fun x => laneOp 6 12 (fun x y => x + y) (x.rw a) (x.rw b)))

/-- S6ADDS: saturating (R123) -/
def execS6adds (t : Nat) (c : BitVec 4) (d a b : BitVec 5) (s : State) : Host.Outcome State Fault Refusal :=
  .next (s.alu 0x004 t c true d (fun x => laneOp 6 12 (lAdds 12) (x.rw a) (x.rw b)))

/-- S6SUB: modulo 2^12 (R123) -/
def execS6sub (t : Nat) (c : BitVec 4) (d a b : BitVec 5) (s : State) : Host.Outcome State Fault Refusal :=
  .next (s.alu 0x004 t c true d (fun x => laneOp 6 12 (lSub 12) (x.rw a) (x.rw b)))

/-- S6SUBS: down to 0 (R123) -/
def execS6subs (t : Nat) (c : BitVec 4) (d a b : BitVec 5) (s : State) : Host.Outcome State Fault Refusal :=
  .next (s.alu 0x004 t c true d (fun x => laneOp 6 12 (fun x y => x - y) (x.rw a) (x.rw b)))

/-- S6AVG: rounded average (R123) -/
def execS6avg (t : Nat) (c : BitVec 4) (d a b : BitVec 5) (s : State) : Host.Outcome State Fault Refusal :=
  .next (s.alu 0x004 t c true d (fun x => laneOp 6 12 lAvg (x.rw a) (x.rw b)))

/-- S6MIN: minimum (R123) -/
def execS6min (t : Nat) (c : BitVec 4) (d a b : BitVec 5) (s : State) : Host.Outcome State Fault Refusal :=
  .next (s.alu 0x004 t c true d (fun x => laneOp 6 12 Nat.min (x.rw a) (x.rw b)))

/-- S6MAX: maximum (R123) -/
def execS6max (t : Nat) (c : BitVec 4) (d a b : BitVec 5) (s : State) : Host.Outcome State Fault Refusal :=
  .next (s.alu 0x004 t c true d (fun x => laneOp 6 12 Nat.max (x.rw a) (x.rw b)))

/-- S6ABSD: absolute difference (R123) -/
def execS6absd (t : Nat) (c : BitVec 4) (d a b : BitVec 5) (s : State) : Host.Outcome State Fault Refusal :=
  .next (s.alu 0x004 t c true d (fun x => laneOp 6 12 absDiff (x.rw a) (x.rw b)))

/-- S6SAD: sum of absolute differences (R123) -/
def execS6sad (t : Nat) (c : BitVec 4) (d a b : BitVec 5) (s : State) : Host.Outcome State Fault Refusal :=
  .next (s.alu 0x004 t c true d (fun x => laneSad 6 12 (x.rw a) (x.rw b)))

/-- S6MULQ: (x × y + 2^11) >> 12 (R123) -/
def execS6mulq (t : Nat) (c : BitVec 4) (d a b : BitVec 5) (s : State) : Host.Outcome State Fault Refusal :=
  .next (s.alu 0x004 t c true d (fun x => laneOp 6 12 (lMulq 12) (x.rw a) (x.rw b)))

/-- S6SHRR: rounding right shift (R123) -/
def execS6shrr (t : Nat) (c : BitVec 4) (d a b : BitVec 5) (s : State) : Host.Outcome State Fault Refusal :=
  .next (s.alu 0x004 t c true d (fun x => laneShrr 6 12 (x.rw a) (x.rw b)))

/-- S6SHL: saturating left shift (R123) -/
def execS6shl (t : Nat) (c : BitVec 4) (d a b : BitVec 5) (s : State) : Host.Outcome State Fault Refusal :=
  .next (s.alu 0x004 t c true d (fun x => laneShl 6 12 (x.rw a) (x.rw b)))

/-- S6CEQ: lane compare x = y (R124) -/
def execS6ceq (t : Nat) (c : BitVec 4) (d a b : BitVec 5) (s : State) : Host.Outcome State Fault Refusal :=
  .next (s.alu 0x004 t c true d (fun x => laneCmp 6 12 (fun x y => x == y) (x.rw a) (x.rw b)))

/-- S6CGT: lane compare x > y (R124) -/
def execS6cgt (t : Nat) (c : BitVec 4) (d a b : BitVec 5) (s : State) : Host.Outcome State Fault Refusal :=
  .next (s.alu 0x004 t c true d (fun x => laneCmp 6 12 (fun x y => decide (y < x)) (x.rw a) (x.rw b)))

/-- S6HSUM: sum of all lanes (R123) -/
def execS6hsum (t : Nat) (c : BitVec 4) (d a : BitVec 5) (s : State) : Host.Outcome State Fault Refusal :=
  .next (s.alu 0x004 t c true d (fun x => laneSum 6 12 (x.rw a)))

/-- S6BCAST: every lane := lane 0 (R123) -/
def execS6bcast (t : Nat) (c : BitVec 4) (d a : BitVec 5) (s : State) : Host.Outcome State Fault Refusal :=
  .next (s.alu 0x004 t c true d (fun x => laneBcast 6 12 (x.rw a)))

/-! ### Nine-pack (R123, R124) -/

/-- N9ADD: modulo 2^8 (R123) -/
def execN9add (t : Nat) (c : BitVec 4) (d a b : BitVec 5) (s : State) : Host.Outcome State Fault Refusal :=
  .next (s.alu 0x005 t c true d (fun x => laneOp 9 8 (fun x y => x + y) (x.rw a) (x.rw b)))

/-- N9ADDS: saturating (R123) -/
def execN9adds (t : Nat) (c : BitVec 4) (d a b : BitVec 5) (s : State) : Host.Outcome State Fault Refusal :=
  .next (s.alu 0x005 t c true d (fun x => laneOp 9 8 (lAdds 8) (x.rw a) (x.rw b)))

/-- N9SUB: modulo 2^8 (R123) -/
def execN9sub (t : Nat) (c : BitVec 4) (d a b : BitVec 5) (s : State) : Host.Outcome State Fault Refusal :=
  .next (s.alu 0x005 t c true d (fun x => laneOp 9 8 (lSub 8) (x.rw a) (x.rw b)))

/-- N9SUBS: down to 0 (R123) -/
def execN9subs (t : Nat) (c : BitVec 4) (d a b : BitVec 5) (s : State) : Host.Outcome State Fault Refusal :=
  .next (s.alu 0x005 t c true d (fun x => laneOp 9 8 (fun x y => x - y) (x.rw a) (x.rw b)))

/-- N9AVG: rounded average (R123) -/
def execN9avg (t : Nat) (c : BitVec 4) (d a b : BitVec 5) (s : State) : Host.Outcome State Fault Refusal :=
  .next (s.alu 0x005 t c true d (fun x => laneOp 9 8 lAvg (x.rw a) (x.rw b)))

/-- N9MIN: minimum (R123) -/
def execN9min (t : Nat) (c : BitVec 4) (d a b : BitVec 5) (s : State) : Host.Outcome State Fault Refusal :=
  .next (s.alu 0x005 t c true d (fun x => laneOp 9 8 Nat.min (x.rw a) (x.rw b)))

/-- N9MAX: maximum (R123) -/
def execN9max (t : Nat) (c : BitVec 4) (d a b : BitVec 5) (s : State) : Host.Outcome State Fault Refusal :=
  .next (s.alu 0x005 t c true d (fun x => laneOp 9 8 Nat.max (x.rw a) (x.rw b)))

/-- N9ABSD: absolute difference (R123) -/
def execN9absd (t : Nat) (c : BitVec 4) (d a b : BitVec 5) (s : State) : Host.Outcome State Fault Refusal :=
  .next (s.alu 0x005 t c true d (fun x => laneOp 9 8 absDiff (x.rw a) (x.rw b)))

/-- N9SAD: sum of absolute differences (R123) -/
def execN9sad (t : Nat) (c : BitVec 4) (d a b : BitVec 5) (s : State) : Host.Outcome State Fault Refusal :=
  .next (s.alu 0x005 t c true d (fun x => laneSad 9 8 (x.rw a) (x.rw b)))

/-- N9MULQ: (x × y + 2^7) >> 8 (R123) -/
def execN9mulq (t : Nat) (c : BitVec 4) (d a b : BitVec 5) (s : State) : Host.Outcome State Fault Refusal :=
  .next (s.alu 0x005 t c true d (fun x => laneOp 9 8 (lMulq 8) (x.rw a) (x.rw b)))

/-- N9SHRR: rounding right shift (R123) -/
def execN9shrr (t : Nat) (c : BitVec 4) (d a b : BitVec 5) (s : State) : Host.Outcome State Fault Refusal :=
  .next (s.alu 0x005 t c true d (fun x => laneShrr 9 8 (x.rw a) (x.rw b)))

/-- N9SHL: saturating left shift (R123) -/
def execN9shl (t : Nat) (c : BitVec 4) (d a b : BitVec 5) (s : State) : Host.Outcome State Fault Refusal :=
  .next (s.alu 0x005 t c true d (fun x => laneShl 9 8 (x.rw a) (x.rw b)))

/-- N9CEQ: lane compare x = y (R124) -/
def execN9ceq (t : Nat) (c : BitVec 4) (d a b : BitVec 5) (s : State) : Host.Outcome State Fault Refusal :=
  .next (s.alu 0x005 t c true d (fun x => laneCmp 9 8 (fun x y => x == y) (x.rw a) (x.rw b)))

/-- N9CGT: lane compare x > y (R124) -/
def execN9cgt (t : Nat) (c : BitVec 4) (d a b : BitVec 5) (s : State) : Host.Outcome State Fault Refusal :=
  .next (s.alu 0x005 t c true d (fun x => laneCmp 9 8 (fun x y => decide (y < x)) (x.rw a) (x.rw b)))

/-- N9HSUM: sum of all lanes (R123) -/
def execN9hsum (t : Nat) (c : BitVec 4) (d a : BitVec 5) (s : State) : Host.Outcome State Fault Refusal :=
  .next (s.alu 0x005 t c true d (fun x => laneSum 9 8 (x.rw a)))

/-- N9BCAST: every lane := lane 0 (R123) -/
def execN9bcast (t : Nat) (c : BitVec 4) (d a : BitVec 5) (s : State) : Host.Outcome State Fault Refusal :=
  .next (s.alu 0x005 t c true d (fun x => laneBcast 9 8 (x.rw a)))

/-! ### QUAD and CNV (R125) -/

/-- Q4ADDS (R125) -/
def execQ4adds (t : Nat) (c : BitVec 4) (d a b : BitVec 5) (s : State) : Host.Outcome State Fault Refusal :=
  .next (s.alu 0x006 t c true d (fun x => quadOp (fun x y => x + y) (x.rw a) (x.rw b)))

/-- Q4SUBS (R125) -/
def execQ4subs (t : Nat) (c : BitVec 4) (d a b : BitVec 5) (s : State) : Host.Outcome State Fault Refusal :=
  .next (s.alu 0x006 t c true d (fun x => quadOp (fun x y => x - y) (x.rw a) (x.rw b)))

/-- Q4SHRR (R125) -/
def execQ4shrr (t : Nat) (c : BitVec 4) (d a b : BitVec 5) (s : State) : Host.Outcome State Fault Refusal :=
  .next (s.alu 0x006 t c true d (fun x => quadShrr (x.rw a) (x.rw b)))

/-- Q4CLIPU (R125) -/
def execQ4clipu (t : Nat) (c : BitVec 4) (d a b : BitVec 5) (s : State) : Host.Outcome State Fault Refusal :=
  .next (s.alu 0x006 t c true d (fun x => quadClip (x.rw a) (x.rw b)))

/-- CNV96 (R125) -/
def execCnv96 (t : Nat) (c : BitVec 4) (d a b : BitVec 5) (s : State) : Host.Outcome State Fault Refusal :=
  .next (s.alu 0x007 t c true d (fun x => Sys2Proof.Machine.cnv96 (x.rw a) (x.rw b)))

/-- CNV69L (R125) -/
def execCnv69l (t : Nat) (c : BitVec 4) (d a : BitVec 5) (s : State) : Host.Outcome State Fault Refusal :=
  .next (s.alu 0x007 t c true d (fun x => Sys2Proof.Machine.cnv69l (x.rw a)))

/-- CNV69H (R125) -/
def execCnv69h (t : Nat) (c : BitVec 4) (d a : BitVec 5) (s : State) : Host.Outcome State Fault Refusal :=
  .next (s.alu 0x007 t c true d (fun x => Sys2Proof.Machine.cnv69h (x.rw a)))

/-- CNVQ6 (R125) -/
def execCnvq6 (t : Nat) (c : BitVec 4) (d a b : BitVec 5) (s : State) : Host.Outcome State Fault Refusal :=
  .next (s.alu 0x007 t c true d (fun x => Sys2Proof.Machine.cnvq6 (x.rw a) (x.rw b)))

end Sys2Proof.Machine
end

