-- ==== Sys2Proof/Machine/Uplinks.lean ====
section
/-!
DEFINITION. Machine/Uplinks.lean: the uplink ports (R594, R595), the compressed-ingest receivers (R596–R601) and the egress
streams (R602).
-/

namespace Sys2Proof.Machine

/-! ### Ports (R594, R595, R603) -/

/-- The enabled flows on an uplink port, as sources. -/
def Dev.flowsOn (m : Dev) (q : Nat) : List Nat :=
  ((List.range 16).filter (fun f => m.on (SRC_CTRL_ENABLE (8 + f)) && m.uplinkPort (m.g (FLOW_LINK_UPLINK f)) (m.g (FLOW_LINK_SUBPORT f)) == q)).map (8 + ·)

/-- The enabled ingest receivers on an uplink port. -/
def Dev.ingestsOn (m : Dev) (q : Nat) : List Nat :=
  (List.range 256).filter (fun r => m.on (INGEST_CTRL_ENABLE r) && m.uplinkPort (m.g (INGEST_CTRL_UPLINK r)) (m.g (INGEST_CTRL_SUBPORT r)) == q)

/-- What a port that is no longer up gives up: its queues, the frames of its flows, the open buffers of its receivers, the PTP
reference (R329, R567, R601, R603). -/
def State.portGone (s : State) (q : Nat) : State :=
  let flows := s.m.flowsOn q
  let ingests := s.m.ingestsOn q
  let s := s.onM (fun m => m.dropQueues (8 + q))
  let s := flows.foldl (fun s i => s.noSignal i) s
  let s := ingests.foldl (fun (s : State) r => (s.ingestClose r false true).onM (fun m => m.setIngest r { m.ingest r with nextDisc := true })) s
  s.onM (fun m => if m.g FAB_TIME_CTRL_UPLINK = q / 4 ∧ m.fab.ptpLocked = true then { m with fab.ptpLocked := false }.timeElect else m)

/-- A port goes down (R595). -/
def State.uplinkDown (s : State) (q : Nat) : State :=
  if s.m.uplinkUp q then
    (s.onM (fun m => ((m.p (UPLINK_STATUS_STATE q) 1).p (UPLINK_STATUS_FEC_LOCK q) 0).incW (UPLINK_COUNTS_LINK_DOWNS q))).portGone q
  else s

/-- A port goes OFF as its uplink is disabled. -/
def State.uplinkOff (s : State) (q : Nat) : State :=
  let up := s.m.uplinkUp q
  let s := s.onM (fun m => (m.p (UPLINK_STATUS_STATE q) 0).p (UPLINK_STATUS_FEC_LOCK q) 0)
  if up then s.portGone q else s

/-- The ports of an uplink that its SPLIT uses. -/
def Dev.portsOf (m : Dev) (u : Nat) : List Nat := if m.on (UPLINK_CTRL_SPLIT u) then (List.range 4).map (4 * u + ·) else [4 * u]

/-- A write of UPLINK_CTRL (R594): SPLIT and FEC25 only while ENABLE = 0. -/
def State.uplinkCtrl (s : State) (u : Nat) (v : Word) : State :=
  if s.m.on (UPLINK_CTRL_ENABLE u) then
    if bits v 71 71 = 1 then s
    else
      let s := (s.m.portsOf u).foldl (fun (s : State) q => s.uplinkOff q) s
      s.onM (fun m => m.p (UPLINK_CTRL_ENABLE u) 0)
  else
    let s := s.onM (fun m => m.commit (UPLINK_CTRL_addr u) v)
    if bits v 71 71 = 1 then (s.m.portsOf u).foldl (fun (s : State) q => s.onM (fun m => m.p (UPLINK_STATUS_STATE q) 1)) s else s

/-- A port comes up (R594, R595, R603); its flows have signal again. `fec`: alignment is held. -/
def State.uplinkComesUp (s : State) (q : Nat) (fec : Bool) : State :=
  if s.m.g (UPLINK_STATUS_STATE q) = 1 ∧ s.m.on (UPLINK_CTRL_ENABLE (q / 4)) then
    s.onM (fun m =>
      let m := ((m.p (UPLINK_STATUS_STATE q) 2).pb (UPLINK_STATUS_FEC_LOCK q) fec).fullCredit (8 + q)
      (m.flowsOn q).foldl (fun (m : Dev) i => if m.g (SRC_STATUS_STATE i) = 1 then m.p (SRC_STATUS_STATE i) 2 else m) m)
  else s

/-! ### Ingest receivers (R596–R601) -/

/-- The payload bytes a buffer holds after its header word (R598). -/
def Dev.ingestRoom (m : Dev) (h : Word) : Nat := 9 * (m.poolSize (bits h 35 32) - 1)

/-- The open buffer of a receiver, taken where none is open (R598); none when no pool has one. -/
def State.ingestOpen (s : State) (r : Nat) : Option State :=
  let x := s.m.ingest r
  if x.buf.isSome then some s
  else
    let t := s.poolTake (s.m.g (INGEST_CTRL_POOL r)) (s.m.g (INGEST_CTRL_CHANNEL r)) false
    if t.2 = 0 then none
    else
      let fresh : Ingest := { buf := some t.2, began := s.m.now, disc := x.nextDisc, spare := x.spare }
      some (t.1.onM (fun m => m.setIngest r fresh))

/-- Payload bytes counted, in units of 1,024 (INGEST_BYTES.KBYTES). -/
def Dev.ingestCount (m : Dev) (r n : Nat) : Dev :=
  let x := m.ingest r
  (m.setIngest r { x with spare := (x.spare + n) % 1024 }).addWrap (INGEST_BYTES_KBYTES r) ((x.spare + n) / 1024)

/-- Bytes of the stream are written, over as many buffers as they need (R598). `start`: the first byte starts an access unit. -/
def State.ingestBytes (s : State) (fuel r : Nat) (start : Bool) (pts : Option Nat) (bs : List (BitVec 8)) : Option State :=
  match fuel with
  | 0 => some s
  | n + 1 =>
    if bs.isEmpty then some s
    else match s.ingestOpen r with
      | none => none
      | some s =>
        let x := s.m.ingest r
        match x.buf with
        | none => some s
        | some h =>
          let room := s.m.ingestRoom h
          let k := min (room - x.bytes) bs.length
          let s := s.putBytes (k + 1) (9 * (bits h 71 36 + 1) + x.bytes) (bs.take k)
          let y := { x with bytes := x.bytes + k, auStart := x.auStart || (start && x.bytes == 0), pts := if start && x.pts.isNone then pts else x.pts }
          let s := s.onM (fun m => (m.setIngest r y).ingestCount r k)
          let s := if y.bytes = room then s.ingestClose r false false else s
          if k = 0 then some s else s.ingestBytes n r false none (bs.drop k)

/-- One piece of a datagram (R597, R598): an access unit that starts ends the one before, and one that ends closes its buffer. -/
def State.ingestPiece (s : State) (r : Nat) (p : UPiece) : Option State :=
  let s := if p.auStart then s.ingestClose r true false else s
  match s.ingestBytes (p.bytes.length + 1) r p.auStart p.pts p.bytes with
  | none => none
  | some s => some (if p.auEnd then s.ingestClose r true false else s)

/-- Every piece of a datagram, or none of it. -/
def State.ingestAll (s : State) (r : Nat) : List UPiece → Option State
  | [] => some s
  | p :: l => match s.ingestPiece r p with | none => none | some s => s.ingestAll r l

/-- A datagram is dropped whole (R600). -/
def Dev.ingestDrop (m : Dev) (r : Nat) : Dev :=
  let n := m.g (INGEST_CTRL_CHANNEL r)
  ((m.setIngest r { m.ingest r with nextDisc := true }).incW (INGEST_COUNTS_DROPS r)).incW (CHAN_COUNTS_INGEST_DROPS n)

/-- A datagram that a receiver takes (R597–R600). -/
def State.ingestPacket (s : State) (r : Nat) (p : UPacket) : State :=
  let s := if p.seqGap then
      (s.ingestClose r false false).onM (fun m => (m.setIngest r { m.ingest r with nextDisc := true }).incW (INGEST_COUNTS_LOST r))
    else s
  if p.late || p.badType || p.overLimit || s.m.on (CHAN_STATUS_SHED (s.m.g (INGEST_CTRL_CHANNEL r))) then s.onM (fun m => m.ingestDrop r)
  else match s.ingestAll r p.pieces with
    | some t => t.onM (fun m => m.incW (INGEST_COUNTS_PACKETS r))
    | none => s.onM (fun m => ((m.incW (POOL_COUNTS_EMPTIES (m.g (INGEST_CTRL_POOL r)))).event 36 2).ingestDrop r)

/-- Does a receiver take a datagram (R597)? -/
def Dev.ingestTakes (m : Dev) (q r : Nat) (p : UPacket) : Bool :=
  let f := m.g (INGEST_CTRL_FORMAT r)
  m.on (INGEST_CTRL_ENABLE r) && m.uplinkPort (m.g (INGEST_CTRL_UPLINK r)) (m.g (INGEST_CTRL_SUBPORT r)) == q &&
    m.g (INGEST_DST_HI_ADDR r) == p.dstHi && m.g (INGEST_DST_LO_ADDR r) == p.dstLo && m.g (INGEST_CTRL_UDP_PORT r) == p.dstPort &&
    (f == 0 || (p.rtpVer == 2 && m.g (INGEST_CTRL_PT r) == p.pt && (!m.on (INGEST_CTRL_SSRC_MATCH r) || m.g (INGEST_AUX_SSRC r) == p.ssrc)))

/-- The first failing check of R596, 0 for none. -/
def Dev.ingestCheck (m : Dev) (r : Nat) : Nat :=
  let n := m.g (INGEST_CTRL_CHANNEL r)
  let st := (m.th n).st
  let pool := m.g (INGEST_CTRL_POOL r)
  let port := m.g (INGEST_CTRL_UDP_PORT r)
  let f := m.g (INGEST_CTRL_EVENT_FIFO r)
  let q := fun r => m.uplinkPort (m.g (INGEST_CTRL_UPLINK r)) (m.g (INGEST_CTRL_SUBPORT r))
  if st = .empty ∨ st = .isolated then 1
  else if 6 ≤ m.g (INGEST_CTRL_FORMAT r) ∨ port = 319 ∨ port = 320 then 2
  else if !(m.on (POOL_CFG_A_ENABLE pool) && decide (4096 ≤ m.poolSize pool)) then 3
  else if !(m.on (FIFO_CTRL_ENABLE f) && m.chanReads f n) then 4
  else if !m.uplinkUp (q r) then 5
  else if (List.range 256).any (fun x => x != r && m.on (INGEST_CTRL_ENABLE x) && q x == q r && m.g (INGEST_CTRL_UDP_PORT x) == port &&
      m.rd (INGEST_DST_HI_addr x) == m.rd (INGEST_DST_HI_addr r) && m.rd (INGEST_DST_LO_addr x) == m.rd (INGEST_DST_LO_addr r)) then 6
  else 0

/-- A write of INGEST_CTRL (R596, R601): while ENABLE = 1 only ENABLE is taken. -/
def State.ingestCtrl (s : State) (r : Nat) (v : Word) : State :=
  if s.m.on (INGEST_CTRL_ENABLE r) then (if bits v 71 71 = 0 then s.ingestStop r true else s)
  else
    let m := (s.m.commit (INGEST_CTRL_addr r) v).p (INGEST_CTRL_ENABLE r) 0
    if bits v 71 71 = 0 then { s with m := m }
    else
      let why := m.ingestCheck r
      if why ≠ 0 then { s with m := (m.p (INGEST_STATUS_STATE r) 2).p (INGEST_STATUS_ENABLE_REASON r) why }
      else
        let m := ((m.p (INGEST_CTRL_ENABLE r) 1).p (INGEST_STATUS_STATE r) 1).p (INGEST_STATUS_ENABLE_REASON r) 0
        { s with m := m.groupMember (m.uplinkPort (m.g (INGEST_CTRL_UPLINK r)) (m.g (INGEST_CTRL_SUBPORT r))) (m.g (INGEST_DST_HI_ADDR r)) (m.g (INGEST_DST_LO_ADDR r)) true }

/-! ### Received frames (R595) -/

/-- Is a multicast destination one of the groups joined on a port: by an enabled flow, an enabled receiver, or PTP (R595)? -/
def Dev.joined (m : Dev) (q : Nat) (p : UPacket) : Bool :=
  p.ptp || (m.flowsOn q).any (fun i => m.g (FLOW_DST_HI_ADDR (i - 8)) == p.dstHi && m.g (FLOW_DST_LO_ADDR (i - 8)) == p.dstLo) ||
    (m.ingestsOn q).any (fun r => m.g (INGEST_DST_HI_ADDR r) == p.dstHi && m.g (INGEST_DST_LO_ADDR r) == p.dstLo)

/-- Is a frame addressed to the port (R595)? -/
def Dev.addressed (m : Dev) (q : Nat) (p : UPacket) : Bool :=
  match p.mac with
  | some a => a == m.g (UPLINK_SRC_SRC_MAC q) || a == 2 ^ 48 - 1
  | none => m.joined q p

/-- Does a flow take a datagram (R332, R333)? Its samples come as FLOW_PACKET. -/
def Dev.flowMatch (m : Dev) (q : Nat) (p : UPacket) : Bool :=
  (m.flowsOn q).any (fun i =>
    let f := i - 8
    m.g (FLOW_DST_HI_ADDR f) == p.dstHi && m.g (FLOW_DST_LO_ADDR f) == p.dstLo && m.g (FLOW_LINK_UDP_PORT f) == p.dstPort &&
      m.g (FLOW_LINK_PT f) == p.pt && (!m.on (FLOW_LINK_SSRC_MATCH f) || m.g (FLOW_LINK_SSRC f) == p.ssrc))

/-- A datagram that passed its meter goes to the receiver that matches it (R595). -/
def State.datagram (s : State) (q : Nat) (p : UPacket) : State :=
  let other := s.onM (fun m => m.incW (UPLINK_COUNTS_RX_OTHER q))
  if p.ptp then
    (if s.m.on FAB_TIME_CTRL_UPLINK_PTP && s.m.g FAB_TIME_CTRL_UPLINK == q / 4 then
      s.onM (fun m => { m with fab.ptpLocked := true }.timeElect) else other)
  else if s.m.flowMatch q p then s
  else match (List.range 256).find? (fun r => s.m.ingestTakes q r p) with
    | some r => s.ingestPacket r p
    | none => other

/-- A frame received on a port that is up (R591, R595). Frames that are no IP datagrams ask only what R595 answers. -/
def State.uplinkPacket (s : State) (q : Nat) (p : UPacket) : State :=
  let s := s.onM (fun m => (m.reach p.at_ns).incW (UPLINK_COUNTS_RX_FRAMES q))
  let other := s.onM (fun m => m.incW (UPLINK_COUNTS_RX_OTHER q))
  if !p.fcsOk then s.onM (fun m => m.incW (UPLINK_COUNTS_RX_FCS q))
  else if 1522 < p.size ∨ s.m.addressed q p = false then other
  else if !p.udp then (if p.ptp then s.datagram q p else s)
  else
    let r := s.m.police q p.dstPort p.ipLen
    if r.2 then { s with m := r.1 }.datagram q p else { s with m := r.1 }

/-! ### Egress streams (R602) -/

/-- Words popped from a FIFO. -/
def Dev.popWords (m : Dev) (f : Nat) : Nat → Dev × List Word
  | 0 => (m, [])
  | n + 1 => match m.fifoPop f with
    | (m, some w) => let r := m.popWords f n; (r.1, w :: r.2)
    | (m, none) => (m, [])

/-- The FIFO a stream pops next: the lowest-numbered of its own that has a packet (R602). -/
def Dev.streamFifo (m : Dev) (c : Nat) : Option Nat :=
  (List.range 64).find? (fun f => m.on (FIFO_CTRL_ENABLE f) && m.on (FIFO_CTRL_PACKET f) && m.g (FIFO_CTRL_READER_KIND f) == 3 &&
    m.g (FIFO_CTRL_READER f) == c && decide (0 < (m.fifo f).ready))

/-- A stream sends one packet's datagram (R602). -/
def Dev.streamPop (m : Dev) (c : Nat) : Dev :=
  match m.streamFifo c with
  | none => m
  | some f =>
    match m.fifoPop f with
    | (m, none) => m
    | (m, some head) =>
      let r := m.popWords f (bits head 7 0)
      let m := r.1
      let w0 := nthWord r.2 0
      let len := bits w0 15 0
      let v6 := m.on (TX_CTRL_IPV6 c)
      if m.on (TX_CTRL_ENABLE c) && bits w0 71 16 == 0 && decide (1 ≤ len) && decide (len ≤ 9 * (r.2.length - 1)) && decide (len ≤ (if v6 then 1452 else 1472)) then
        let q := m.uplinkPort (m.g (TX_CTRL_UPLINK c)) (m.g (TX_CTRL_SUBPORT c))
        let gram : Datagram := ⟨some (m.g (TX_DST_MAC_DST_MAC c)), m.g (TX_DST_HI_ADDR c), m.g (TX_DST_LO_ADDR c), v6, some (m.g (TX_CTRL_SRC_PORT c)), m.g (TX_CTRL_DST_PORT c), m.g (TX_CTRL_DSCP c), ((r.2.drop 1).flatMap wordBytes).take len⟩
        let m := m.incW (TX_COUNTS_PACKETS c)
        if m.uplinkUp q then m.enqueueF (8 + q) (m.g (TX_CTRL_TCLASS c)) { gram := some gram, since := m.now }
        else m.incW (GATE_COUNTS_QUEUE_DROPS (8 + q))
      else m.incW (TX_COUNTS_DROPS c)

/-! ### Commands -/

/-- UPLINK_ENABLE (R594): a write of UPLINK_CTRL. -/
def execUplinkEnable (mst u : Nat) (v : Word) (s : State) : Host.Outcome State Fault Refusal :=
  .next (s.ifWrite mst (UPLINK_CTRL_addr (u % 4)) (fun s => s.uplinkCtrl (u % 4) v))

/-- UPLINK_UP (R595). -/
def execUplinkUp (q : Nat) (fec : Bool) (s : State) : Host.Outcome State Fault Refusal :=
  .next (if q < 16 then s.uplinkComesUp q fec else s)

/-- UPLINK_DOWN (R595). -/
def execUplinkDown (q : Nat) (s : State) : Host.Outcome State Fault Refusal := .next (if q < 16 then s.uplinkDown q else s)

/-- UPLINK_RETRY (R594): a port without lock tries again and stays DOWN. -/
def execUplinkRetry (_q : Nat) (s : State) : Host.Outcome State Fault Refusal := .next s

/-- UPLINK_PACKET (R595). -/
def execUplinkPacket (q : Nat) (p : UPacket) (s : State) : Host.Outcome State Fault Refusal :=
  .next (if decide (q < 16) && s.m.uplinkUp q && s.m.coreUp then s.uplinkPacket q p else s)

/-- INGEST_ENABLE (R596): a write of INGEST_CTRL. -/
def execIngestEnable (mst r : Nat) (v : Word) (s : State) : Host.Outcome State Fault Refusal :=
  .next (s.ifWrite mst (INGEST_CTRL_addr (r % 256)) (fun s => s.ingestCtrl (r % 256) v))

/-- INGEST_DISABLE (R601): a write of INGEST_CTRL. -/
def execIngestDisable (mst r : Nat) (v : Word) (s : State) : Host.Outcome State Fault Refusal :=
  .next (s.ifWrite mst (INGEST_CTRL_addr (r % 256)) (fun s => s.ingestCtrl (r % 256) v))

/-- INGEST_FLUSH_TIMEOUT (R598). -/
def execIngestFlushTimeout (r : Nat) (s : State) : Host.Outcome State Fault Refusal :=
  .next (if s.m.on (INGEST_CTRL_ENABLE r) && (s.m.ingest r).buf.isSome && decide (r < 256) then
      (s.onM (fun m => m.reach ((m.ingest r).began + max 100 (m.g (INGEST_AUX_FLUSH_US r)) * 1000))).ingestClose r false true
    else s)

/-- EGRESS_STREAM_POP (R602). -/
def execEgressStreamPop (c : Nat) (s : State) : Host.Outcome State Fault Refusal :=
  .next (if s.m.coreUp && decide (c < 64) then s.onM (fun m => m.streamPop c) else s)

end Sys2Proof.Machine
end

