-- ==== Sys2Proof/Machine/Power.lean ====
section
/-!
DEFINITION. Machine/Power.lean: the reset and power pins (R617, R618, R627, R633, R634), cluster sleep (R632), test access
(R645, R646), the reference clocks (R648–R652) and the battery (R449).
-/

namespace Sys2Proof.Machine

/-! ### Pins that reset (R617, R618, R627, R636, R646) -/

/-- Change a pin. -/
def State.pin (s : State) (f : Pins → Pins) : State := s.onM (fun m => { m with pins := f m.pins })

/-- PWR_OK rises (R617, R642): the strap is sampled and the boot chain starts. -/
def State.powerUp (s : State) (b : BootInfo) : State :=
  if s.m.pins.pwrOk then s else (s.pin (fun p => { p with pwrOk := true })).cold 0 b

/-- PWR_OK falls (R617): a cold reset, in which the device does nothing. -/
def State.powerLost (s : State) : State := if s.m.pins.pwrOk then (s.pin (fun p => { p with pwrOk := false })).coldReset 0 else s

/-- A level of SYS_RST_N (R618). -/
def State.sysReset (s : State) (level : Bool) (b : BootInfo) : State :=
  if s.m.pins.sysRstN = level then s
  else
    let s := s.pin (fun p => { p with sysRstN := level })
    if level then s.cold 1 b else s.coldReset 1

/-- A level of TEST_EN: high holds the device in cold reset (R636). -/
def State.testEnable (s : State) (level : Bool) (b : BootInfo) : State :=
  if s.m.pins.testEn = level then s
  else
    let s := s.pin (fun p => { p with testEn := level })
    if level then s.coldReset 1 else s.cold 1 b

/-- A level of TRST_N: low holds the TAP in Test-Logic-Reset, which ends a reset the TAP holds (R646). -/
def State.tapReset (s : State) (level : Bool) (b : BootInfo) : State :=
  let held := s.m.pins.tapHold
  let s := s.pin (fun p => if level then { p with trstN := true } else { p with trstN := false, tapReset := true, tapHold := false, tapInstr := 0 })
  if held ∧ level = false then s.cold 1 b else s

/-- A TAP instruction is loaded (R645), unless TRST_N is low; `hold`: it holds the device in cold reset (R646). -/
def State.tapLoad (s : State) (code : Nat) (hold : Bool) : State :=
  if !s.m.pins.trstN then s
  else
    let s := s.pin (fun p => { p with tapReset := false, tapInstr := code, tapHold := p.tapHold || hold })
    if hold then s.coldReset 1 else s

/-- A level of PERST_N (R627): a host port reset, or a warm reset while PERST_MODE = 1 from host-ready on; the link trains after
its rise (R630). -/
def State.perst (s : State) (level : Bool) (b : BootInfo) : State :=
  if s.m.pins.perstN = level then s
  else
    let s := s.pin (fun p => { p with perstN := level })
    if s.m.held then s
    else if level then (if s.m.hostReady then s.onM (fun m => (m.p HOST_LINK_SPEED b.linkSpeed).p HOST_LINK_WIDTH b.linkWidth) else s)
    else if s.m.on RESET_CTRL_PERST_MODE && s.m.hostReady then s.warm 6 b
    else s.hostReset 3 0 0

/-! ### Sleep (R632) -/

/-- May a cluster sleep (R632)? -/
def Dev.maySleep (m : Dev) (k : Nat) : Bool :=
  m.on POWER_CTRL_SLEEP_EN && (m.contextsOf k).all (fun t => (m.th t).st != .ready) &&
    (List.range 512).all (fun n => !(m.clusterOf n == k && (m.th n).st != .empty && m.g (CHAN_CTRL_CLASS n) == 0))

/-! ### Power-down and power failure (R633, R634) -/

/-- PWRDN_N falls (R633). Before host-ready there is nothing to flush; a halted device makes no final pass (R444). -/
def Dev.powerDown (m : Dev) : Dev :=
  let st := m.g POWER_STATUS_STATE
  if m.held ∨ 2 ≤ st then m
  else
    let m := m.p POWER_STATUS_PWRDN_SEEN 1
    if st = 0 then m.p POWER_STATUS_STATE 3
    else
      let final := m.journalOn && !m.halted
      let m := { (m.departAll).holdAll.p POWER_STATUS_STATE 2 with acctStop := true, ringStop := true, passLate := false }
      if final then (if m.pass.isSome then m else m.passStart) else { m with pass := none }.downNow

/-- PWRFAIL_N falls (R634): accounting stops, a pass is abandoned, the event is counted. -/
def Dev.powerFail (m : Dev) : Dev :=
  if m.held || !m.hostReady || !m.pins.pwrfailN then m
  else
    let m := { m with pins.pwrfailN := false, acctStop := true, pass := none, passLate := false }
    (m.p LEDGER_STATUS_PASS_BUSY 0).incW POWER_STATUS_PWRFAIL_EVENTS

/-- PWRFAIL_N rises with PWR_OK high (R634). -/
def Dev.powerBack (m : Dev) : Dev :=
  if m.pins.pwrfailN then m
  else
    let m := { m with pins.pwrfailN := true }
    let st := m.g POWER_STATUS_STATE
    if st = 1 ∧ m.halted = false then
      let m := { m with acctStop := false }
      if m.journalOn then m.passStart else m
    else if st = 2 then (if m.journalOn && !m.halted then m.passStart else m.downNow)
    else m

/-! ### Clocks (R648–R652) -/

/-- STATE of clock 0 PCIE, 1 MEM, 2 SD, 3 CAP. -/
def clkState (c : Nat) : RF := ⟨CLK_STATUS_addr, 71 - 2 * c, 70 - 2 * c⟩

/-- The ppm field of a clock. -/
def clkPpm (c : Nat) : RF := ⟨CLK_STATUS_addr, 61 - 12 * c, 50 - 12 * c⟩

/-- The losses of a clock. -/
def clkLosses (c : Nat) : RF := ⟨CLK_COUNTS_addr, 71 - 8 * c, 64 - 8 * c⟩

/-- REFCLK_PCIE leaves GOOD (R650): the endpoint link and the root port go down. -/
def State.pcieLost (s : State) (detail : Nat) : State :=
  let s := s.onM (fun m => m.report 0x29 0 0 detail)
  let s := s.hostReset 2 0 0
  (List.range 4).foldl (fun (s : State) d =>
    if smem [1, 2, 3] (s.m.g (CS_DRIVE_STATE d)) then (s.driveFail d 0x2A).onM (fun m => (m.driveState d 1 0).driveUnlink d) else s) s

/-- REFCLK_SD leaves GOOD (R650). -/
def State.sdLost (s : State) (detail : Nat) : State :=
  let s := s.onM (fun m => (m.report 0x2A 0 0 detail).each 8 (fun k m => m.linkLost k))
  let s := (List.range 64).foldl (fun (s : State) p => if s.m.portUp p then s.lampDown p else s) s
  (List.range 16).foldl (fun (s : State) q => s.uplinkDown q) s

/-- REFCLK_CAP leaves GOOD (R650): each enabled port is reported and loses its signal. -/
def State.capLost (s : State) (detail : Nat) : State :=
  (List.range 8).foldl (fun (s : State) p =>
    if s.m.on (SRC_CTRL_ENABLE p) then (s.onM (fun m => m.report 0x2B 6 p detail)).noSignal p else s) s

/-- A clock leaves GOOD (R650). -/
def State.clockGone (s : State) (c detail : Nat) : State :=
  match c with
  | 0 => s.pcieLost detail
  | 1 => s.onM (fun m => m.each 8 (fun k m => m.freeze k 3 0 0 0))
  | 2 => s.sdLost detail
  | _ => s.capLost detail

/-- A clock enters STOPPED (2) or RANGE (3): counted, and acted on when it was GOOD (R648, R650). One never GOOD is not watched. -/
def State.clockLost (s : State) (c st : Nat) : State :=
  let was := s.m.g (clkState c)
  if 4 ≤ c ∨ s.m.held = true ∨ was = 0 ∨ was = st then s
  else
    let s := s.onM (fun m => (m.p (clkState c) st).incW (clkLosses c))
    if was = 1 then s.clockGone c (st - 1) else s

/-- The crystal stops (R449, R649). -/
def Dev.crystalStop (m : Dev) : Dev :=
  if m.held ∨ m.g CLK_STATUS_XTAL32 ≠ 1 then m
  else
    let m := (m.p CLK_STATUS_XTAL32 2).incW CLK_COUNTS_XTAL32_LOSSES
    let m := (((m.setCal m.calNow).p CALENDAR_STATUS_STOPPED 1).p CALENDAR_STATUS_VALID 0).report 0x2C 0 0 0
    m.event 39 0

/-- VBAT falls below 1.5 V (R449). -/
def Dev.batteryLost (m : Dev) : Dev :=
  let m := (((m.setCal m.calNow).p CALENDAR_STATUS_STOPPED 1).p CALENDAR_STATUS_VBAT_LOW 1).p CALENDAR_STATUS_VALID 0
  if m.held then m else m.event 39 0

/-! ### Commands -/

/-- POWER_UP (R617). -/
def execPowerUp (b : BootInfo) (s : State) : Host.Outcome State Fault Refusal := .next (s.powerUp b)

/-- PWR_OK_FALL (R617). -/
def execPwrOkFall (s : State) : Host.Outcome State Fault Refusal := .next s.powerLost

/-- SYS_RST_N (R618). -/
def execSysRstN (level : Bool) (b : BootInfo) (s : State) : Host.Outcome State Fault Refusal := .next (s.sysReset level b)

/-- COLD_RESET (R627): a write of RESET_CTRL. -/
def execColdReset (mst : Nat) (v : Word) (b : BootInfo) (s : State) : Host.Outcome State Fault Refusal :=
  .next (s.ifWrite mst RESET_CTRL_addr (fun s => s.resetCtrl v b))

/-- WARM_RESET (R627, R629): a write of RESET_CTRL. -/
def execWarmReset (mst : Nat) (v : Word) (b : BootInfo) (s : State) : Host.Outcome State Fault Refusal :=
  .next (s.ifWrite mst RESET_CTRL_addr (fun s => s.resetCtrl v b))

/-- PERST_N (R627, R630). -/
def execPerstN (level : Bool) (b : BootInfo) (s : State) : Host.Outcome State Fault Refusal := .next (s.perst level b)

/-- CLUSTER_SLEEP (R632). -/
def execClusterSleep (k : Nat) (s : State) : Host.Outcome State Fault Refusal :=
  .next (s.onM (fun m =>
    let v := m.g POWER_STATUS_CLUSTER_AWAKE
    if m.coreUp && decide (k < 8) && Nat.testBit v k && m.maySleep k then m.p POWER_STATUS_CLUSTER_AWAKE (v - 2 ^ k) else m))

/-- POWER_DOWN (R633). -/
def execPowerDown (s : State) : Host.Outcome State Fault Refusal := .next (s.onM (fun m => m.powerDown))

/-- PWRFAIL (R634). -/
def execPwrfail (s : State) : Host.Outcome State Fault Refusal := .next (s.onM (fun m => m.powerFail))

/-- PWRFAIL_RISE (R634). -/
def execPwrfailRise (s : State) : Host.Outcome State Fault Refusal := .next (s.onM (fun m => m.powerBack))

/-- TAIL_RECORD_DONE (R444, R634): `ok` says that the record committed; it is written only where the journal is in use and the
device is not halted (R614). -/
def execTailRecordDone (ok : Bool) (s : State) : Host.Outcome State Fault Refusal :=
  .next (s.onM (fun m => if ok && !m.pins.pwrfailN && m.journalOn && !m.halted then m.tailCommit.p POWER_STATUS_TAIL_DONE 1 else m))

/-- TEST_EN (R636). -/
def execTestEn (level : Bool) (b : BootInfo) (s : State) : Host.Outcome State Fault Refusal := .next (s.testEnable level b)

/-- TRST_N (R646). -/
def execTrstN (level : Bool) (b : BootInfo) (s : State) : Host.Outcome State Fault Refusal := .next (s.tapReset level b)

/-- BYPASS (R645). -/
def execBypass (s : State) : Host.Outcome State Fault Refusal := .next (s.tapLoad 1 false)

/-- IDCODE (R645). -/
def execIdcode (s : State) : Host.Outcome State Fault Refusal :=
  .next (if s.m.pins.trstN then (s.tapLoad 2 false).onM (fun m => m.send (.tdo 0x10072C9B)) else s)

/-- SAMPLE_PRELOAD (R645). -/
def execSamplePreload (s : State) : Host.Outcome State Fault Refusal := .next (s.tapLoad 3 false)

/-- EXTEST (R646). -/
def execExtest (s : State) : Host.Outcome State Fault Refusal := .next (s.tapLoad 4 true)

/-- EXTEST_PULSE (R646). -/
def execExtestPulse (s : State) : Host.Outcome State Fault Refusal := .next (s.tapLoad 5 true)

/-- EXTEST_TRAIN (R646). -/
def execExtestTrain (s : State) : Host.Outcome State Fault Refusal := .next (s.tapLoad 6 true)

/-- CLAMP (R646). -/
def execClamp (s : State) : Host.Outcome State Fault Refusal := .next (s.tapLoad 7 true)

/-- HIGHZ (R646). -/
def execHighz (s : State) : Host.Outcome State Fault Refusal := .next (s.tapLoad 8 true)

/-- REFCLK_STOPPED (R648, R650). -/
def execRefclkStopped (clk : Nat) (s : State) : Host.Outcome State Fault Refusal := .next (s.clockLost clk 2)

/-- REFCLK_RANGE (R648, R650). -/
def execRefclkRange (clk : Nat) (ppm : Int) (s : State) : Host.Outcome State Fault Refusal :=
  .next (if clk < 4 ∧ s.m.held = false then (s.onM (fun m => m.p (clkPpm clk) (satSigned 12 ppm))).clockLost clk 3 else s)

/-- REFCLK_GOOD (R648, R651). -/
def execRefclkGood (clk : Nat) (ppm : Int) (s : State) : Host.Outcome State Fault Refusal :=
  .next (s.onM (fun m => if clk < 4 ∧ m.held = false then (m.p (clkPpm clk) (satSigned 12 ppm)).p (clkState clk) 1 else m))

/-- XTAL32_STOPPED (R449, R649). -/
def execXtal32Stopped (s : State) : Host.Outcome State Fault Refusal := .next (s.onM (fun m => m.crystalStop))

/-- XTAL32_GOOD (R649). -/
def execXtal32Good (s : State) : Host.Outcome State Fault Refusal := .next (s.onM (fun m => if m.held then m else m.p CLK_STATUS_XTAL32 1))

/-- VBAT_LOSS (R449). -/
def execVbatLoss (s : State) : Host.Outcome State Fault Refusal := .next (s.onM (fun m => m.batteryLost))

/-- SETDASA_ENTDAA (R643): the dynamic address, in I3C mode. -/
def execSetdasaEntdaa (addr : Nat) (s : State) : Host.Outcome State Fault Refusal :=
  .next (if s.m.pins.pwrOk && s.m.pins.mgmtMode then s.pin (fun p => { p with mgmtAddr := addr % 128 }) else s)

end Sys2Proof.Machine
end

