-- ==== Sys2Proof/Machine/RegAccess.lean ====
section
/-!
DEFINITION. Machine/RegAccess.lean: a write and a read of any register by any master (R13–R21, R46, R47), and the accesses
that carry them: a register command, LDR and STR (R133, R174), BAR0 (R494, R495) and the management port (R643).
-/

namespace Sys2Proof.Machine

/-! ### Writes -/

/-- Is the lock bit of an RWL register set (R14, R15)? TELLER and UC_LOAD_ADDR are locked by another register's bit. -/
def Dev.regLocked (m : Dev) (a : Nat) : Bool :=
  if a = TRIM_USER_addr then m.on TRIM_USER_LOCK
  else if a = DOLRY_SPACE_addr then m.on DOLRY_SPACE_LOCK
  else if a = DEC_STAGE_CTRL_addr then m.on DEC_STAGE_CTRL_LOCK
  else if a = LAMP_RECORDS_addr then m.on LAMP_RECORDS_LOCK
  else if a = COMP_WORK_addr then m.on COMP_WORK_LOCK
  else if a = JOURNAL_REGION_addr then m.on JOURNAL_REGION_LOCK
  else if a = MBX_GLOBAL_addr then m.on MBX_GLOBAL_TELLER_LOCK
  else if a = FAB_IDENT_addr then m.on FAB_IDENT_LOCK
  else false

/-- A write under the field access codes alone, ignored where the register is locked (R13–R15). -/
def Dev.plainWrite (m : Dev) (a : Nat) (v : Word) : Dev := if m.regLocked a then m else m.commit a v

/-- Does any lamp port have ENABLE = 1? -/
def Dev.anyPort (m : Dev) : Bool := (List.range 64).any (fun p => m.on (PORT_CTRL_ENABLE p))

/-- Writes of blocks 01 and 02 (chapters 2, 3 and 5). -/
def State.write02 (s : State) (mst a : Nat) (v : Word) : State :=
  let o := a % 65536
  let n := o / 64
  if a = SCHED_CTRL_addr then s.onM (fun m => m.schedCtrl v)
  else if n < 512 ∧ o % 64 = 0 then s.onM (fun m => m.chanCtrl n v)
  else if n < 512 ∧ o % 64 = 1 then s.chanCmd mst n (bits v 71 68) (bits v 35 0)
  else s.onM (fun m => m.plainWrite a v)

/-- Writes of block 03 (R203): from the boot master while LOCK = 0. -/
def Dev.write03 (m : Dev) (mst a : Nat) (v : Word) : Dev :=
  if a = UC_LOAD_LO_addr then m.ucLo mst v
  else if a = UC_LOAD_HI_addr then m.ucHi mst v
  else if m.ucOpen mst then m.commit a v else m

/-- Writes of block 05 (R324): the registers of an enabled source are ignored, but for ENABLE. -/
def State.write05 (s : State) (a : Nat) (v : Word) : State :=
  let i := (a % 65536) / 16
  if i < 24 then
    if a % 16 = 0 then s.srcCtrl i v
    else if s.m.on (SRC_CTRL_ENABLE i) then s else s.onM (fun m => m.commit a v)
  else s.onM (fun m => m.commit a v)

/-- Writes of block 06 (R388, R413, LAMP_MAP). -/
def Dev.write06 (m : Dev) (a : Nat) (v : Word) : Dev :=
  if configReg a && assigned a then m.configWrite a v
  else if a = CAL_CMD_addr then m.calCmd v
  else if a = LAMP_MAP_addr (m.g COMP_STATUS_ACTIVE_MAP) then m
  else m.plainWrite a v

/-- Writes of block 07 (chapter 14). -/
def State.write07 (s : State) (a : Nat) (v : Word) : State :=
  let o := a % 65536
  if o < 1024 ∧ o % 16 = 0 then s.onM (fun m => m.portCtrl (o / 16) v)
  else if a = UPLOAD_CMD_addr then s.uploadCmd v
  else if (a = LAMP_MAC_addr ∨ a = LAMP_AREAS_addr) ∧ s.m.anyPort = true then s
  else s.onM (fun m => m.commit a v)

/-- Writes of block 08 (chapter 15). -/
def Dev.write08 (m : Dev) (a : Nat) (v : Word) : Dev :=
  if a = LEDGER_CTRL_addr then m.ledgerCtrl v
  else if a = LEDGER_CMD_addr then m.ledgerCommand v
  else if a = CAL_SET_addr then m.calSet v
  else m.plainWrite a v

/-- Writes of block 09 (chapter 16). -/
def State.write09 (s : State) (a : Nat) (v : Word) : State :=
  if a % 65536 < 192 then s.onM (fun m => (m.handover (a % 65536) (bits v 71 60)).1)
  else if a = VAULT_RETIRE_addr then s.onM (fun m => m.retire (bits v 71 64))
  else if a = VAULT_POWER_addr then s.vaultPower v
  else if a = ASSAY_CMD_addr then s.onM (fun m => m.assayStart v)
  else s.onM (fun m => m.commit a v)

/-- Writes of block 0B (chapter 17). -/
def State.write0B (s : State) (mst a : Nat) (v : Word) : State :=
  let o := a % 65536
  if o < 64 ∧ o % 4 = 0 then s.onM (fun m => m.poolCfgA (o / 4) v)
  else if o < 64 ∧ o % 4 = 1 then s.onM (fun m => m.poolCfgB (o / 4) v)
  else if a = POOL_HOST_CMD_addr then s.poolHostCmd mst v
  else if 0x1000 ≤ o ∧ o < 0x1100 ∧ o % 4 = 0 then s.onM (fun m => m.fifoCtrl ((o - 0x1000) / 4) v)
  else if 0x1000 ≤ o ∧ o < 0x1100 ∧ o % 4 = 3 then s.onM (fun m => m.fifoCloseWrite ((o - 0x1000) / 4) v)
  else if 0x1800 ≤ o ∧ o < 0x1A00 then s.onM (fun m => (m.fifoPush ((o - 0x1800) / 8) (o % 8) v false).1)
  else s.onM (fun m => m.commit a v)

/-- A write of a word of a ring's register set (R525). -/
def State.ringWrite (s : State) (r k : Nat) (v : Word) : State :=
  if k = 0 then s.onM (fun m => m.ringBaseWrite r false v)
  else if k = 1 then s.sqCtrl r v
  else if k = 3 then s.onM (fun m => m.ringBaseWrite r true v)
  else if k = 4 then s.onM (fun m => m.cqCtrl r v)
  else s

/-- Writes of block 0C (chapter 18). -/
def State.write0C (s : State) (a : Nat) (v : Word) : State :=
  let o := a % 65536
  if a = HOST_ABI_addr then s.onM (fun m => m.hostAbi v)
  else if 0x800 ≤ o ∧ o < 0x808 then s.ringWrite 512 (o % 8) v
  else if 0x1000 ≤ o ∧ o < 0x2000 then s.ringWrite ((o - 0x1000) / 8) (o % 8) v
  else if a = DMA_GLOBAL_addr then s.onM (fun m => m.dmaGlobal v)
  else if 0x4010 ≤ o ∧ o < 0x4090 ∧ o % 4 = 0 then s.dmaCtrl ((o - 0x4010) / 4) v
  else if a = CS_CTRL_addr then s.csCtrl v
  else s.onM (fun m => m.commit a v)

/-- A write of a register of a mailbox's sides (R528, R529, R531, R535); the board controller's write of another register
of a mailbox that is not bound to it is answered with a NACK (R46). -/
def Dev.mbxWrite (m : Dev) (mst b off : Nat) (v : Word) : Dev :=
  let side := decide (6 ≤ off)
  if off = 2 ∨ off = 6 then m.regPost mst b side v
  else if off = 4 ∨ off = 8 then
    if bits v 71 71 = 1 then m.regSideReset mst b side else m.regAck mst b side (bits v 70 55)
  else if mst = 1 ∧ m.sideOpen 1 b side = false then m.send .nack else m

/-- Writes of block 0D (chapter 19). -/
def Dev.write0D (m : Dev) (mst a : Nat) (v : Word) : Dev :=
  let o := a % 65536
  if o < 0x400 then
    if o % 16 = 0 then m.tellerWrite (o / 16) v
    else if o % 16 = 1 then m.commit a v
    else m.mbxWrite mst (o / 16) (o % 16) v
  else if 0x2000 ≤ o ∧ o < 0x2080 ∧ o % 2 = 0 then m.groupCtrl ((o - 0x2000) / 2) v
  else m.plainWrite a v

/-- Writes of block 0E (chapter 20). -/
def Dev.write0E (m : Dev) (a : Nat) (v : Word) : Dev :=
  let o := a % 65536
  if a = FAB_CTRL_addr then m.fabCtrl v
  else if a = FAB_TIME_CTRL_addr then (m.commit a v).timeElect
  else if 0x100 ≤ o ∧ o < 0x120 ∧ o % 4 = 0 then m.linkCtrl ((o - 0x100) / 4) v
  else if 0x200 ≤ o ∧ o < 0x300 ∧ m.on FAB_CTRL_ENABLE = true then m
  else m.plainWrite a v

/-- Writes of block 0F (chapter 21). -/
def State.write0F (s : State) (a : Nat) (v : Word) : State :=
  let o := a % 65536
  if o < 0x180 then
    if o % 16 = 0 then s.onM (fun m => m.gateCtrl (o / 16) v)
    else if 8 ≤ o % 16 then s.onM (fun m => m.shaperWrite (o / 16) (o % 8) v)
    else s.onM (fun m => m.commit a v)
  else if 0x1100 ≤ o ∧ o < 0x1104 then s.uplinkCtrl (o - 0x1100) v
  else if 0x2000 ≤ o ∧ o < 0x2200 then
    let c := (o - 0x2000) / 8
    if s.m.on (TX_CTRL_ENABLE c) && !(o % 8 == 0 && bits v 71 71 == 0) then s else s.onM (fun m => m.commit a v)
  else if 0x3000 ≤ o ∧ o < 0x3800 then
    let r := (o - 0x3000) / 8
    if o % 8 = 0 then s.ingestCtrl r v
    else if s.m.on (INGEST_CTRL_ENABLE r) then s else s.onM (fun m => m.commit a v)
  else if 0x4000 ≤ o ∧ o < 0x7000 then s.onM (fun m => m.gclWrite ((o - 0x4000) / 512) (o / 256 % 2) (o % 256) v)
  else if 0x8000 ≤ o ∧ o < 0x9000 ∧ o % 4 = 0 then s.onM (fun m => m.meterMatch ((o - 0x8000) / 4) v)
  else s.onM (fun m => m.commit a v)

/-- What a write of a register does once the master may make it (R13, R14): the effect its chapter gives it, or the commit
of its fields; a reserved bit and an unassigned address ignore it (R20, R21). -/
def State.regWrite (s : State) (mst a : Nat) (v : Word) : State :=
  match a / 65536 with
  | 0x01 => s.onM (fun m => if a = GOV_CTRL_addr then m.govCtrl v else m.plainWrite a v)
  | 0x02 => s.write02 mst a v
  | 0x03 => s.onM (fun m => m.write03 mst a v)
  | 0x05 => s.write05 a v
  | 0x06 => s.onM (fun m => m.write06 a v)
  | 0x07 => s.write07 a v
  | 0x08 => s.onM (fun m => m.write08 a v)
  | 0x09 => s.write09 a v
  | 0x0B => s.write0B mst a v
  | 0x0C => s.write0C a v
  | 0x0D => s.onM (fun m => m.write0D mst a v)
  | 0x0E => s.onM (fun m => m.write0E a v)
  | 0x0F => s.write0F a v
  | 0x10 => s.onM (fun m =>
      if a = FAULT_CTRL_addr then m.faultCtrl v else if a = FAULT_ACK_addr then m.faultAck v else m.plainWrite a v)
  | 0x11 => if a = RESET_CTRL_addr then s.resetCtrl v s.m.bootAgain else s.onM (fun m => m.plainWrite a v)
  | _ => s.onM (fun m => m.plainWrite a v)

/-! ### Reads -/

/-- CHAN_STATUS.STATE of a thread's state. -/
def stateCode : TState → Nat
  | .empty => 0 | .ready => 1 | .waiting => 2 | .stopped => 3 | .isolated => 4

/-- CLERK_LOAD with its fields of the present moment: the loaded slots, the Live channels homed here, the admitted CLERK
demand, and whether the cluster sleeps. -/
def Dev.clerkLoad (m : Dev) (c : Nat) : Word :=
  let home := (List.range 512).filter (fun n => m.on (CHAN_CTRL_HOME_VALID n) && m.g (CHAN_CTRL_HOME_CLERK n) == c)
  let held := home.filter (fun n => m.on (CHAN_STATUS_ADMITTED n))
  let sum := fun (l : List Nat) => (l.map (fun n => bits (m.rd (CHAN_DEMAND1_addr n)) 71 62)).sum
  let loaded := home.filter (fun n => (m.th n).st != .empty)
  let live := fun (l : List Nat) => l.filter (fun n => m.g (CHAN_CTRL_CLASS n) == 0)
  Word.of (bits (m.rd (CLERK_LOAD_addr c)) 71 52 * 2 ^ 52 + at_ 51 47 loaded.length + at_ 46 45 (live loaded).length
    + at_ 44 35 (sum (live held)) + at_ 34 23 (sum held)
    + at_ 22 22 (if Nat.testBit (m.g POWER_STATUS_CLUSTER_AWAKE) (c / 4) then 0 else 1))

/-- The word a register shows: the stored one, or one made up from the state it reports. -/
def Dev.shownWord (m : Dev) (a : Nat) : Word :=
  let o := a % 65536
  match a / 65536 with
  | 0x02 =>
    if o < 0x8000 ∧ o % 64 = 2 then putBits (m.rd a) 71 69 (stateCode (m.th (o / 64)).st)
    else if 0x8000 ≤ o ∧ o < 0x8020 then m.clerkLoad (o - 0x8000)
    else m.rd a
  | 0x08 => if a = CAL_TIME_addr then m.calWord else m.rd a
  | 0x09 => if o < 192 then putBits (m.rd a) 59 59 (if m.marked o then 1 else 0) else m.rd a
  | 0x0D =>
    if o < 0x400 ∧ o % 16 = 5 then m.mbxStatus (o / 16) false
    else if o < 0x400 ∧ o % 16 = 9 then m.mbxStatus (o / 16) true
    else m.rd a
  | _ => m.rd a

/-- What a field gives a read, at its place: WO fields read zero (R14). -/
def readField (w : Word) (f : FieldDef) : Nat := if f.acc = .wo then 0 else bits w f.hi f.lo * 2 ^ f.lo

/-- What a read leaves of a field, at its place: an RC field is cleared (R14, R16). -/
def clearField (w : Word) (f : FieldDef) : Nat := if f.acc = .rc then 0 else bits w f.hi f.lo * 2 ^ f.lo

/-- A read of a register under its field access codes: the value, with RC fields cleared behind it (R16); reserved bits and
an unassigned address read zero (R20, R21). -/
def Dev.plainRead (m : Dev) (a : Nat) : Dev × Word :=
  match regAt a with
  | none => (m, 0)
  | some r =>
    let v := Word.of ((r.fields.map (readField (m.shownWord a))).sum)
    if r.fields.any (fun f => f.acc == .rc) then (m.wr a (Word.of ((r.fields.map (clearField (m.rd a))).sum)), v) else (m, v)

/-- What a read of a register gives once the master may make it, and what it changes: a take, a pop, or the clearing of RC
fields (R16, R481, R488, R530). -/
def State.regRead (s : State) (mst a : Nat) : State × Word :=
  let o := a % 65536
  if a / 65536 = 0x0B ∧ 0x40 ≤ o ∧ o < 0x50 then s.poolTakeRead mst (o - 0x40)
  else if a / 65536 = 0x0B ∧ 0x1400 ≤ o ∧ o < 0x1440 then
    let r := s.m.fifoPopRead mst (o - 0x1400)
    ({ s with m := r.1 }, r.2)
  else if a / 65536 = 0x0D ∧ o < 0x400 ∧ (o % 16 = 3 ∨ o % 16 = 7) then
    let r := s.m.regTake mst (o / 16) (decide (o % 16 = 7))
    ({ s with m := r.1 }, r.2)
  else
    let r := s.m.plainRead a
    ({ s with m := r.1 }, r.2)

/-- Is a read of the board controller's refused although block and offset are open: another register of a mailbox whose
side is not bound to it (R46)? -/
def Dev.mbxShut (m : Dev) (a : Nat) : Bool := mbxReg a && !m.sideOpen 1 (a % 65536 / 16) (decide (6 ≤ a % 16))

/-- A read by a master, answered to it (R16): zero to the host and to a clerk where the block is closed, a NACK to the
board controller, an Unsupported Request in D3hot; nothing answers while the device is held in reset, and the boot master
reads nothing once host-ready is signalled (R46, R47, R493, R624). -/
def State.ifRead (s : State) (mst a : Nat) : State :=
  if s.m.mayRead mst a then
    if mst = 1 ∧ s.m.mbxShut a = true ∧ a % 16 ≠ 3 ∧ a % 16 ≠ 7 then s.onM (fun m => m.send .nack)
    else
      let denied := decide (mst = 1) && s.m.mbxShut a
      let r := s.regRead mst a
      if denied then r.1 else r.1.onM (fun m => m.send (.readData mst a r.2))
  else if mst = 1 then s.onM (fun m => m.send .nack)
  else if mst = 0 ∧ s.m.d3hot = true then s.onM (fun m => m.send (.unsupported a))
  else if mst = 0 ∧ s.m.held = false then s.onM (fun m => m.send (.readData 0 a 0))
  else s

/-! ### Register commands -/

/-- REGISTER_WRITE (R13): a write of all 72 bits of a register by a master. -/
def execRegisterWrite (mst a : Nat) (v : Word) (s : State) : Host.Outcome State Fault Refusal :=
  .next (s.ifWrite mst a (fun s => s.regWrite mst a v))

/-- RC_READ (R16): a read of a register by a master. -/
def execRcRead (mst a : Nat) (s : State) : Host.Outcome State Fault Refusal := .next (s.ifRead mst a)

/-- POOL_TAKE (R481): a read of POOL_TAKE. -/
def execPoolTake (mst p : Nat) (s : State) : Host.Outcome State Fault Refusal := .next (s.ifRead mst (POOL_TAKE_addr (p % 16)))

/-- FIFO_POP (R488): a read of FIFO_POP. -/
def execFifoPop (mst f : Nat) (s : State) : Host.Outcome State Fault Refusal := .next (s.ifRead mst (FIFO_POP_addr (f % 64)))

/-- MBX_RECV (R530): a read of X_RECV. -/
def execMbxRecv (mst b : Nat) (side : Bool) (s : State) : Host.Outcome State Fault Refusal :=
  .next (s.ifRead mst (mbxAddr (b % 64) side 3))

/-! ### Loads and stores of a thread -/

/-- The first register address of a channel's own 64 words (R94). -/
def ownBlock (t : Nat) : Nat := 0x020000 + 64 * t

/-- May a thread name the register address (R93, R94)? PRIV_REGISTER otherwise. -/
def State.regReach (s : State) (t a : Nat) : Bool :=
  decide (a < 2 ^ 24) && ((s.m.th t).priv || (decide (t < 512) && inRange a (ownBlock t) 64))

/-- LDR (R133): W[d] := register. -/
def execLdr (t : Nat) (c : BitVec 4) (d a b : BitVec 5) (scale : BitVec 3) (off : BitVec 40) (s : State) :
    Host.Outcome State Fault Refusal :=
  .next (s.issue 0x104 t c true false false none (fun s =>
    let ad := (s.m.th t).ea a b scale off
    if s.regReach t ad then
      let mst := s.m.threadMaster t
      let r := if s.m.mayRead mst ad then s.regRead mst ad else (s, 0)
      .ok (r.1.onM (fun m => m.modTh t (fun x => x.setW d r.2)))
    else .trap 0x03))

/-- STR (R133): register := W[d]; at channel privilege a store to words 00h–1Fh of the own block is ignored (R174). -/
def execStr (t : Nat) (c : BitVec 4) (d a b : BitVec 5) (scale : BitVec 3) (off : BitVec 40) (s : State) :
    Host.Outcome State Fault Refusal :=
  .next (s.issue 0x105 t c true false false none (fun s =>
    let x := s.m.th t
    let ad := x.ea a b scale off
    if s.regReach t ad then
      if !x.priv && decide (ad % 64 < 0x20) then .ok s
      else
        let mst := s.m.threadMaster t
        .ok (s.ifWrite mst ad (fun s => s.regWrite mst ad (x.rw d)))
    else .trap 0x03))

/-! ### BAR0 -/

/-- The register word a BAR0 offset names (R494). -/
def bar0Addr (off : Nat) : Nat := off % 2 ^ 28 / 16

/-- The word a host read of BAR0 reads (R46, R47, R495). -/
def State.bar0Load (s : State) (off : Nat) : State × Word :=
  let a := bar0Addr off
  if s.m.mayRead 0 a then s.regRead 0 a else (s, 0)

/-- A write to BAR0 (R494, R495): staged at +8, committed at +0. -/
def State.bar0Write (s : State) (off size : Nat) (data : BitVec 64) : State :=
  let a := bar0Addr off
  if s.m.held then s
  else if s.m.d3hot then s.onM (fun m => m.send (.unsupported off))
  else if !barAccess off size then s.onM Dev.badAccess
  else if off / 8 % 2 = 1 then s.onM (fun m => { m with bar0Stage := some (a, data.toNat % 256) })
  else
    let v := Word.of (stagedHigh s.m.bar0Stage a * 2 ^ 64 + data.toNat)
    (s.onM (fun m => { m with bar0Stage := none })).ifWrite 0 a (fun s => s.regWrite 0 a v)

/-- A read of BAR0 (R494, R495): the whole register at +0, the latch or a fresh read at +8. -/
def State.bar0Read (s : State) (off size : Nat) : State :=
  let a := bar0Addr off
  let ret := fun (s : State) (v : BitVec 64) => s.onM (fun m => m.send (.barData 0 off v false))
  if s.m.held then s
  else if s.m.d3hot then s.onM (fun m => m.send (.unsupported off))
  else if !barAccess off size then ret (s.onM Dev.badAccess) 0
  else if off / 8 % 2 = 0 then
    let r := s.bar0Load off
    ret (r.1.onM (fun m => { m with bar0Latch := some (a, bits r.2 71 64) })) (lowHalf r.2)
  else match s.m.bar0Latch with
    | some (k, h) =>
      if k = a then ret (s.onM (fun m => { m with bar0Latch := none })) (BitVec.ofNat 64 h)
      else let r := s.bar0Load off; ret r.1 (highHalf r.2)
    | none => let r := s.bar0Load off; ret r.1 (highHalf r.2)

/-- BAR0_STAGE_WRITE (R495): a write to BAR0. -/
def execBar0StageWrite (off size : Nat) (data : BitVec 64) (s : State) : Host.Outcome State Fault Refusal :=
  .next (s.bar0Write off size data)

/-- BAR0_HIGH_READ (R495): a read of BAR0. -/
def execBar0HighRead (off size : Nat) (s : State) : Host.Outcome State Fault Refusal := .next (s.bar0Read off size)

/-! ### The management port -/

/-- MGMT_READ (R643): n words from a word address on, up to the first that R46 denies. -/
def State.mgmtRead (s : State) (a : Nat) : Nat → State
  | 0 => s
  | n + 1 =>
    if s.m.mayRead 1 a && !s.m.mbxShut a then (s.ifRead 1 a).mgmtRead (a + 1) n else s.ifRead 1 a

/-- MGMT_READ (R643): a read of at least one word. -/
def execMgmtRead (a n : Nat) (s : State) : Host.Outcome State Fault Refusal := .next (s.mgmtRead (a % 2 ^ 24) (max 1 n))

/-- MGMT_WRITE (R643). -/
def execMgmtWrite (a : Nat) (v : Word) (s : State) : Host.Outcome State Fault Refusal :=
  .next (s.ifWrite 1 (a % 2 ^ 24) (fun s => s.regWrite 1 (a % 2 ^ 24) v))

end Sys2Proof.Machine
end

