-- ==== Sys2Proof/Machine/Dispatch.lean ====
section
/-!
DEFINITION. Machine/Dispatch.lean: the meaning of every command: one arm per constructor, one call per arm.
-/

namespace Sys2Proof.Machine

/-- What a command does to everything but the queue of waiting commands. -/
def exec (i : Instr) (s : State) : Host.Outcome State Fault Refusal :=
  match i with
  | .registerWrite mst a v => Sys2Proof.Machine.execRegisterWrite mst a v s
  | .rcRead mst a => Sys2Proof.Machine.execRcRead mst a s
  | .paceWindow paces temps => Sys2Proof.Machine.execPaceWindow paces temps s
  | .governorPoint mv cur => Sys2Proof.Machine.execGovernorPoint mv cur s
  | .governorLoop other => Sys2Proof.Machine.execGovernorLoop other s
  | .targetMiss => Sys2Proof.Machine.execTargetMiss s
  | .avsFrame ok status => Sys2Proof.Machine.execAvsFrame ok status s
  | .add t c d a b => Sys2Proof.Machine.execAdd t c d a b s
  | .adc t c d a b => Sys2Proof.Machine.execAdc t c d a b s
  | .sub t c d a b => Sys2Proof.Machine.execSub t c d a b s
  | .sbc t c d a b => Sys2Proof.Machine.execSbc t c d a b s
  | .cmp t c a b => Sys2Proof.Machine.execCmp t c a b s
  | .and t c d a b => Sys2Proof.Machine.execAnd t c d a b s
  | .or t c d a b => Sys2Proof.Machine.execOr t c d a b s
  | .xor t c d a b => Sys2Proof.Machine.execXor t c d a b s
  | .andn t c d a b => Sys2Proof.Machine.execAndn t c d a b s
  | .tst t c a b => Sys2Proof.Machine.execTst t c a b s
  | .not t c d a => Sys2Proof.Machine.execNot t c d a s
  | .neg t c d a => Sys2Proof.Machine.execNeg t c d a s
  | .min t c d a b => Sys2Proof.Machine.execMin t c d a b s
  | .max t c d a b => Sys2Proof.Machine.execMax t c d a b s
  | .minu t c d a b => Sys2Proof.Machine.execMinu t c d a b s
  | .maxu t c d a b => Sys2Proof.Machine.execMaxu t c d a b s
  | .shl t c d a b => Sys2Proof.Machine.execShl t c d a b s
  | .shr t c d a b => Sys2Proof.Machine.execShr t c d a b s
  | .sar t c d a b => Sys2Proof.Machine.execSar t c d a b s
  | .rol t c d a b => Sys2Proof.Machine.execRol t c d a b s
  | .clz t c d a => Sys2Proof.Machine.execClz t c d a s
  | .popc t c d a => Sys2Proof.Machine.execPopc t c d a s
  | .mov t c d a => Sys2Proof.Machine.execMov t c d a s
  | .mul t c d a b => Sys2Proof.Machine.execMul t c d a b s
  | .mulhu t c d a b => Sys2Proof.Machine.execMulhu t c d a b s
  | .mulhs t c d a b => Sys2Proof.Machine.execMulhs t c d a b s
  | .divu t c d a b => Sys2Proof.Machine.execDivu t c d a b s
  | .divs t c d a b => Sys2Proof.Machine.execDivs t c d a b s
  | .remu t c d a b => Sys2Proof.Machine.execRemu t c d a b s
  | .rems t c d a b => Sys2Proof.Machine.execRems t c d a b s
  | .addi t c d a imm => Sys2Proof.Machine.execAddi t c d a imm s
  | .cmpi t c a imm => Sys2Proof.Machine.execCmpi t c a imm s
  | .andi t c d a imm => Sys2Proof.Machine.execAndi t c d a imm s
  | .ori t c d a imm => Sys2Proof.Machine.execOri t c d a imm s
  | .xori t c d a imm => Sys2Proof.Machine.execXori t c d a imm s
  | .ldi t c d imm => Sys2Proof.Machine.execLdi t c d imm s
  | .ldhi t c d imm => Sys2Proof.Machine.execLdhi t c d imm s
  | .shli t c d a imm => Sys2Proof.Machine.execShli t c d a imm s
  | .shri t c d a imm => Sys2Proof.Machine.execShri t c d a imm s
  | .sari t c d a imm => Sys2Proof.Machine.execSari t c d a imm s
  | .extu t c d a imm => Sys2Proof.Machine.execExtu t c d a imm s
  | .exts t c d a imm => Sys2Proof.Machine.execExts t c d a imm s
  | .ins t c d a imm => Sys2Proof.Machine.execIns t c d a imm s
  | .gate t c imm => Sys2Proof.Machine.execGate t c imm s
  | .s6add t c d a b => Sys2Proof.Machine.execS6add t c d a b s
  | .s6adds t c d a b => Sys2Proof.Machine.execS6adds t c d a b s
  | .s6sub t c d a b => Sys2Proof.Machine.execS6sub t c d a b s
  | .s6subs t c d a b => Sys2Proof.Machine.execS6subs t c d a b s
  | .s6avg t c d a b => Sys2Proof.Machine.execS6avg t c d a b s
  | .s6min t c d a b => Sys2Proof.Machine.execS6min t c d a b s
  | .s6max t c d a b => Sys2Proof.Machine.execS6max t c d a b s
  | .s6absd t c d a b => Sys2Proof.Machine.execS6absd t c d a b s
  | .s6sad t c d a b => Sys2Proof.Machine.execS6sad t c d a b s
  | .s6mulq t c d a b => Sys2Proof.Machine.execS6mulq t c d a b s
  | .s6shrr t c d a b => Sys2Proof.Machine.execS6shrr t c d a b s
  | .s6shl t c d a b => Sys2Proof.Machine.execS6shl t c d a b s
  | .s6ceq t c d a b => Sys2Proof.Machine.execS6ceq t c d a b s
  | .s6cgt t c d a b => Sys2Proof.Machine.execS6cgt t c d a b s
  | .s6hsum t c d a => Sys2Proof.Machine.execS6hsum t c d a s
  | .s6bcast t c d a => Sys2Proof.Machine.execS6bcast t c d a s
  | .n9add t c d a b => Sys2Proof.Machine.execN9add t c d a b s
  | .n9adds t c d a b => Sys2Proof.Machine.execN9adds t c d a b s
  | .n9sub t c d a b => Sys2Proof.Machine.execN9sub t c d a b s
  | .n9subs t c d a b => Sys2Proof.Machine.execN9subs t c d a b s
  | .n9avg t c d a b => Sys2Proof.Machine.execN9avg t c d a b s
  | .n9min t c d a b => Sys2Proof.Machine.execN9min t c d a b s
  | .n9max t c d a b => Sys2Proof.Machine.execN9max t c d a b s
  | .n9absd t c d a b => Sys2Proof.Machine.execN9absd t c d a b s
  | .n9sad t c d a b => Sys2Proof.Machine.execN9sad t c d a b s
  | .n9mulq t c d a b => Sys2Proof.Machine.execN9mulq t c d a b s
  | .n9shrr t c d a b => Sys2Proof.Machine.execN9shrr t c d a b s
  | .n9shl t c d a b => Sys2Proof.Machine.execN9shl t c d a b s
  | .n9ceq t c d a b => Sys2Proof.Machine.execN9ceq t c d a b s
  | .n9cgt t c d a b => Sys2Proof.Machine.execN9cgt t c d a b s
  | .n9hsum t c d a => Sys2Proof.Machine.execN9hsum t c d a s
  | .n9bcast t c d a => Sys2Proof.Machine.execN9bcast t c d a s
  | .q4adds t c d a b => Sys2Proof.Machine.execQ4adds t c d a b s
  | .q4subs t c d a b => Sys2Proof.Machine.execQ4subs t c d a b s
  | .q4shrr t c d a b => Sys2Proof.Machine.execQ4shrr t c d a b s
  | .q4clipu t c d a b => Sys2Proof.Machine.execQ4clipu t c d a b s
  | .cnv96 t c d a b => Sys2Proof.Machine.execCnv96 t c d a b s
  | .cnv69l t c d a => Sys2Proof.Machine.execCnv69l t c d a s
  | .cnv69h t c d a => Sys2Proof.Machine.execCnv69h t c d a s
  | .cnvq6 t c d a b => Sys2Proof.Machine.execCnvq6 t c d a b s
  | .rdtsw t c d => Sys2Proof.Machine.execRdtsw t c d s
  | .wrtsw t c a => Sys2Proof.Machine.execWrtsw t c a s
  | .cmpp t c a b func => Sys2Proof.Machine.execCmpp t c a b func s
  | .nop t c => Sys2Proof.Machine.execNop t c s
  | .fence t c => Sys2Proof.Machine.execFence t c s
  | .brk t c => Sys2Proof.Machine.execBrk t c s
  | .gret t c => Sys2Proof.Machine.execGret t c s
  | .tret t c => Sys2Proof.Machine.execTret t c s
  | .jmpr t c d a => Sys2Proof.Machine.execJmpr t c d a s
  | .mfs t c d b => Sys2Proof.Machine.execMfs t c d b s
  | .mts t c a b => Sys2Proof.Machine.execMts t c a b s
  | .rdt t c d b => Sys2Proof.Machine.execRdt t c d b s
  | .wrt t c d a b => Sys2Proof.Machine.execWrt t c d a b s
  | .rdtime t c d => Sys2Proof.Machine.execRdtime t c d s
  | .tadd t c d a b => Sys2Proof.Machine.execTadd t c d a b s
  | .swap t c d a b => Sys2Proof.Machine.execSwap t c d a b s
  | .kill t c d a => Sys2Proof.Machine.execKill t c d a s
  | .ld t c d a b scale off => Sys2Proof.Machine.execLd t c d a b scale off s
  | .st t c d a b scale off => Sys2Proof.Machine.execSt t c d a b scale off s
  | .ldv t c d a b scale off => Sys2Proof.Machine.execLdv t c d a b scale off s
  | .stv t c d a b scale off => Sys2Proof.Machine.execStv t c d a b scale off s
  | .ldr t c d a b scale off => Sys2Proof.Machine.execLdr t c d a b scale off s
  | .str t c d a b scale off => Sys2Proof.Machine.execStr t c d a b scale off s
  | .ldp t c d a b scale off => Sys2Proof.Machine.execLdp t c d a b scale off s
  | .aadd t c d a b scale off => Sys2Proof.Machine.execAadd t c d a b scale off s
  | .aswp t c d a b scale off => Sys2Proof.Machine.execAswp t c d a b scale off s
  | .acas t c d a b scale off => Sys2Proof.Machine.execAcas t c d a b scale off s
  | .aaddv t c d a b scale off => Sys2Proof.Machine.execAaddv t c d a b scale off s
  | .acasv t c d a b scale off => Sys2Proof.Machine.execAcasv t c d a b scale off s
  | .jmp t c d target => Sys2Proof.Machine.execJmp t c d target s
  | .enq t c d a queue flags len => Sys2Proof.Machine.execEnq t c d a queue flags len s
  | .tstat t c d a b => Sys2Proof.Machine.execTstat t c d a b s
  | .fpush t c d a b => Sys2Proof.Machine.execFpush t c d a b s
  | .ftry t c d a b => Sys2Proof.Machine.execFtry t c d a b s
  | .flen t c d a => Sys2Proof.Machine.execFlen t c d a s
  | .mpost t c d a b => Sys2Proof.Machine.execMpost t c d a b s
  | .mrecv t c d a b => Sys2Proof.Machine.execMrecv t c d a b s
  | .mack t c d a b => Sys2Proof.Machine.execMack t c d a b s
  | .mstat t c d a => Sys2Proof.Machine.execMstat t c d a s
  | .give t c d a b => Sys2Proof.Machine.execGive t c d a b s
  | .owner t c d a => Sys2Proof.Machine.execOwner t c d a s
  | .waitk t c d a b guard => Sys2Proof.Machine.execWaitk t c d a b guard s
  | .waite t c d a b guard => Sys2Proof.Machine.execWaite t c d a b guard s
  | .waitt t c d a guard => Sys2Proof.Machine.execWaitt t c d a guard s
  | .fpop t c d a b guard => Sys2Proof.Machine.execFpop t c d a b guard s
  | .moveDramDram t c d a b => Sys2Proof.Machine.execMoveDramDram t c d a b s
  | .moveDramVault t c d a b => Sys2Proof.Machine.execMoveDramVault t c d a b s
  | .moveVaultDram t c d a b => Sys2Proof.Machine.execMoveVaultDram t c d a b s
  | .moveVaultVault t c d a b => Sys2Proof.Machine.execMoveVaultVault t c d a b s
  | .fillDram t c d a b => Sys2Proof.Machine.execFillDram t c d a b s
  | .fillVault t c d a b => Sys2Proof.Machine.execFillVault t c d a b s
  | .sumDram t c d a b => Sys2Proof.Machine.execSumDram t c d a b s
  | .sumVault t c d a b => Sys2Proof.Machine.execSumVault t c d a b s
  | .compose t c d a b => Sys2Proof.Machine.execCompose t c d a b s
  | .draink t c d a => Sys2Proof.Machine.execDraink t c d a s
  | .drainc t c d a => Sys2Proof.Machine.execDrainc t c d a s
  | .longProgressStep t => Sys2Proof.Machine.execLongProgressStep t s
  | .microwordWaitEnd t => Sys2Proof.Machine.execMicrowordWaitEnd t s
  | .waitConditionMet t => Sys2Proof.Machine.execWaitConditionMet t s
  | .asyncTrap t => Sys2Proof.Machine.execAsyncTrap t s
  | .ucLoadLo mst v => Sys2Proof.Machine.execUcLoadLo mst v s
  | .ucLoadHi mst v => Sys2Proof.Machine.execUcLoadHi mst v s
  | .chanCtrlWrite mst n v => Sys2Proof.Machine.execChanCtrlWrite mst n v s
  | .cmdLoad mst n record => Sys2Proof.Machine.execCmdLoad mst n record s
  | .cmdSwap mst n record => Sys2Proof.Machine.execCmdSwap mst n record s
  | .cmdKill mst n => Sys2Proof.Machine.execCmdKill mst n s
  | .cmdStop mst n => Sys2Proof.Machine.execCmdStop mst n s
  | .stopTimeout n => Sys2Proof.Machine.execStopTimeout n s
  | .cmdResume mst n => Sys2Proof.Machine.execCmdResume mst n s
  | .cmdClear mst n => Sys2Proof.Machine.execCmdClear mst n s
  | .cmdUnshed mst n => Sys2Proof.Machine.execCmdUnshed mst n s
  | .cmdReserved mst n cmd => Sys2Proof.Machine.execCmdReserved mst n cmd s
  | .exchangeEffect n => Sys2Proof.Machine.execExchangeEffect n s
  | .swapLimitExpiry n => Sys2Proof.Machine.execSwapLimitExpiry n s
  | .effectTimeReached n => Sys2Proof.Machine.execEffectTimeReached n s
  | .liveIssueWindow n used => Sys2Proof.Machine.execLiveIssueWindow n used s
  | .liveGuaranteeRestore n => Sys2Proof.Machine.execLiveGuaranteeRestore n s
  | .timerExpiry t k => Sys2Proof.Machine.execTimerExpiry t k s
  | .schedEnable mst v => Sys2Proof.Machine.execSchedEnable mst v s
  | .schedEntryDue => Sys2Proof.Machine.execSchedEntryDue s
  | .loadWindow c load live => Sys2Proof.Machine.execLoadWindow c load live s
  | .poolGet t => Sys2Proof.Machine.execPoolGet t s
  | .poolPut t => Sys2Proof.Machine.execPoolPut t s
  | .poolPass t => Sys2Proof.Machine.execPoolPass t s
  | .fifoClose t => Sys2Proof.Machine.execFifoClose t s
  | .hostRetire t => Sys2Proof.Machine.execHostRetire t s
  | .hostComplete t => Sys2Proof.Machine.execHostComplete t s
  | .decOpen t => Sys2Proof.Machine.execDecOpen t s
  | .decNext t x => Sys2Proof.Machine.execDecNext t x s
  | .decPicDone t off => Sys2Proof.Machine.execDecPicDone t off s
  | .decOutput t off => Sys2Proof.Machine.execDecOutput t off s
  | .decRelease t => Sys2Proof.Machine.execDecRelease t s
  | .decFlush t => Sys2Proof.Machine.execDecFlush t s
  | .decClose t => Sys2Proof.Machine.execDecClose t s
  | .decGap t consumed => Sys2Proof.Machine.execDecGap t consumed s
  | .regionOpen t => Sys2Proof.Machine.execRegionOpen t s
  | .encOpen t => Sys2Proof.Machine.execEncOpen t s
  | .encPicture t x => Sys2Proof.Machine.execEncPicture t x s
  | .encNext t off => Sys2Proof.Machine.execEncNext t off s
  | .encUnitDone t off payAt heads words => Sys2Proof.Machine.execEncUnitDone t off payAt heads words s
  | .encPicDone t off heads filler words => Sys2Proof.Machine.execEncPicDone t off heads filler words s
  | .encRefresh t => Sys2Proof.Machine.execEncRefresh t s
  | .encFlush t => Sys2Proof.Machine.execEncFlush t s
  | .encClose t => Sys2Proof.Machine.execEncClose t s
  | .rcSet t => Sys2Proof.Machine.execRcSet t s
  | .engineTakeWork key ready pre needs => Sys2Proof.Machine.execEngineTakeWork key ready pre needs s
  | .entropyRowEnd e bins pipe spill => Sys2Proof.Machine.execEntropyRowEnd e bins pipe spill s
  | .entropyDecDone e kind row col bins => Sys2Proof.Machine.execEntropyDecDone e kind row col bins s
  | .pipeSegmentEnd p samples spent rowEnd poison writes lost used drift => Sys2Proof.Machine.execPipeSegmentEnd p samples spent rowEnd poison writes lost used drift s
  | .reconDecDone p n tag missing row pos lost => Sys2Proof.Machine.execReconDecDone p n tag missing row pos lost s
  | .picTimeout n tag missing row pos lost => Sys2Proof.Machine.execPicTimeout n tag missing row pos lost s
  | .engineMeterWindow => Sys2Proof.Machine.execEngineMeterWindow s
  | .searchBandEnd e band g motion => Sys2Proof.Machine.execSearchBandEnd e band g motion s
  | .searchDone e n order g => Sys2Proof.Machine.execSearchDone e n order g s
  | .rateDone a => Sys2Proof.Machine.execRateDone a s
  | .reconEncDone p n tag intraPct => Sys2Proof.Machine.execReconEncDone p n tag intraPct s
  | .entropyEncDone e bins data => Sys2Proof.Machine.execEntropyEncDone e bins data s
  | .srcEnable mst i1 v => Sys2Proof.Machine.execSrcEnable mst i1 v s
  | .srcDisable mst i1 v => Sys2Proof.Machine.execSrcDisable mst i1 v s
  | .csiFrameStart p vc => Sys2Proof.Machine.execCsiFrameStart p vc s
  | .csiLongPacket p vc dt ecc crc luma cb cr => Sys2Proof.Machine.execCsiLongPacket p vc dt ecc crc luma cb cr s
  | .csiLineStart p vc line => Sys2Proof.Machine.execCsiLineStart p vc line s
  | .csiFrameEnd p vc => Sys2Proof.Machine.execCsiFrameEnd p vc s
  | .flowPacket f x => Sys2Proof.Machine.execFlowPacket f x s
  | .frameTimeout i1 => Sys2Proof.Machine.execFrameTimeout i1 s
  | .captureNoSignal p => Sys2Proof.Machine.execCaptureNoSignal p s
  | .slotRelease i1 => Sys2Proof.Machine.execSlotRelease i1 s
  | .scaleBandEnd k => Sys2Proof.Machine.execScaleBandEnd k s
  | .scaleDone n order => Sys2Proof.Machine.execScaleDone n order s
  | .post k ws => Sys2Proof.Machine.execPost k ws s
  | .pre k ws => Sys2Proof.Machine.execPre k ws s
  | .fetchReq k ws => Sys2Proof.Machine.execFetchReq k ws s
  | .fetchReply k ws => Sys2Proof.Machine.execFetchReply k ws s
  | .fetchNak k ws => Sys2Proof.Machine.execFetchNak k ws s
  | .absent k ws => Sys2Proof.Machine.execAbsent k ws s
  | .away k ws => Sys2Proof.Machine.execAway k ws s
  | .seamWaitExpiry n tag pre => Sys2Proof.Machine.execSeamWaitExpiry n tag pre s
  | .fetchWaitExpiry n req => Sys2Proof.Machine.execFetchWaitExpiry n req s
  | .memberDeparted ident => Sys2Proof.Machine.execMemberDeparted ident s
  | .seamDone k n tag => Sys2Proof.Machine.execSeamDone k n tag s
  | .configWrite mst a v => Sys2Proof.Machine.execConfigWrite mst a v s
  | .holdConfigClear mst v => Sys2Proof.Machine.execHoldConfigClear mst v s
  | .mapCheckDone => Sys2Proof.Machine.execMapCheckDone s
  | .refreshStart overrun => Sys2Proof.Machine.execRefreshStart overrun s
  | .calCmd mst v => Sys2Proof.Machine.execCalCmd mst v s
  | .calListDone => Sys2Proof.Machine.execCalListDone s
  | .portEnable mst p v => Sys2Proof.Machine.execPortEnable mst p v s
  | .lampLinkUp p rate => Sys2Proof.Machine.execLampLinkUp p rate s
  | .lampLinkDown p => Sys2Proof.Machine.execLampLinkDown p s
  | .lampLinkRetry p => Sys2Proof.Machine.execLampLinkRetry p s
  | .lampFrameTx p => Sys2Proof.Machine.execLampFrameTx p s
  | .discoverTimer p => Sys2Proof.Machine.execDiscoverTimer p s
  | .cardHello p f => Sys2Proof.Machine.execCardHello p f s
  | .cardStatus p f => Sys2Proof.Machine.execCardStatus p f s
  | .holdTimer p => Sys2Proof.Machine.execHoldTimer p s
  | .portBlank mst p v => Sys2Proof.Machine.execPortBlank mst p v s
  | .uploadCmd mst v => Sys2Proof.Machine.execUploadCmd mst v s
  | .calData p f => Sys2Proof.Machine.execCalData p f s
  | .calReqTimeout => Sys2Proof.Machine.execCalReqTimeout s
  | .ledgerEnable mst v => Sys2Proof.Machine.execLedgerEnable mst v s
  | .ledgerRestoreDone => Sys2Proof.Machine.execLedgerRestoreDone s
  | .journalEnable mst v => Sys2Proof.Machine.execJournalEnable mst v s
  | .journalPassStart => Sys2Proof.Machine.execJournalPassStart s
  | .journalPassDone ok => Sys2Proof.Machine.execJournalPassDone ok s
  | .ledgerPass mst v => Sys2Proof.Machine.execLedgerPass mst v s
  | .zero mst v => Sys2Proof.Machine.execZero mst v s
  | .import mst v => Sys2Proof.Machine.execImport mst v s
  | .lifeSecond model => Sys2Proof.Machine.execLifeSecond model s
  | .calSet mst v => Sys2Proof.Machine.execCalSet mst v s
  | .calendarTrim => Sys2Proof.Machine.execCalendarTrim s
  | .calendarFollow diff => Sys2Proof.Machine.execCalendarFollow diff s
  | .vaultOwnerWrite mst b v => Sys2Proof.Machine.execVaultOwnerWrite mst b v s
  | .vaultRetire mst v => Sys2Proof.Machine.execVaultRetire mst v s
  | .vaultPowerWrite mst v => Sys2Proof.Machine.execVaultPowerWrite mst v s
  | .domainClearDone d => Sys2Proof.Machine.execDomainClearDone d s
  | .assayStart mst v => Sys2Proof.Machine.execAssayStart mst v s
  | .assayDone saveFailed fails => Sys2Proof.Machine.execAssayDone saveFailed fails s
  | .dramRefresh ch bank busy => Sys2Proof.Machine.execDramRefresh ch bank busy s
  | .mr4Poll ch rank x2 ovr => Sys2Proof.Machine.execMr4Poll ch rank x2 ovr s
  | .zqCalibration ch => Sys2Proof.Machine.execZqCalibration ch s
  | .patrolScrub err syn loc => Sys2Proof.Machine.execPatrolScrub err syn loc s
  | .dramReadComplete cls held a err syn loc => Sys2Proof.Machine.execDramReadComplete cls held a err syn loc s
  | .ceInterval => Sys2Proof.Machine.execCeInterval s
  | .caParityAlert ch a loc persists => Sys2Proof.Machine.execCaParityAlert ch a loc persists s
  | .phyLockLoss ch => Sys2Proof.Machine.execPhyLockLoss ch s
  | .poolEnable mst p v => Sys2Proof.Machine.execPoolEnable mst p v s
  | .poolDisable mst p v => Sys2Proof.Machine.execPoolDisable mst p v s
  | .poolInitDone p upTo => Sys2Proof.Machine.execPoolInitDone p upTo s
  | .poolTake mst p => Sys2Proof.Machine.execPoolTake mst p s
  | .poolHostPut mst v => Sys2Proof.Machine.execPoolHostPut mst v s
  | .poolHostPass mst v => Sys2Proof.Machine.execPoolHostPass mst v s
  | .reclaim mst v => Sys2Proof.Machine.execReclaim mst v s
  | .reclaimDone => Sys2Proof.Machine.execReclaimDone s
  | .holdEnd p k => Sys2Proof.Machine.execHoldEnd p k s
  | .fifoFlush mst f v => Sys2Proof.Machine.execFifoFlush mst f v s
  | .fifoPop mst f => Sys2Proof.Machine.execFifoPop mst f s
  | .fifoPush mst f q v => Sys2Proof.Machine.execFifoPush mst f q v s
  | .hostFifoClose mst f v => Sys2Proof.Machine.execHostFifoClose mst f v s
  | .fifoDiscard mst f v => Sys2Proof.Machine.execFifoDiscard mst f v s
  | .bar0StageWrite off size data => Sys2Proof.Machine.execBar0StageWrite off size data s
  | .bar0HighRead off size => Sys2Proof.Machine.execBar0HighRead off size s
  | .bar4Read off size => Sys2Proof.Machine.execBar4Read off size s
  | .bar4Write off size data => Sys2Proof.Machine.execBar4Write off size data s
  | .hostAbiWrite mst v => Sys2Proof.Machine.execHostAbiWrite mst v s
  | .ringEnable mst ring cq v => Sys2Proof.Machine.execRingEnable mst ring cq v s
  | .sqDoorbell n size data => Sys2Proof.Machine.execSqDoorbell n size data s
  | .cqDoorbell n size data => Sys2Proof.Machine.execCqDoorbell n size data s
  | .adminSqDoorbell size data => Sys2Proof.Machine.execAdminSqDoorbell size data s
  | .adminCqDoorbell size data => Sys2Proof.Machine.execAdminCqDoorbell size data s
  | .sqEntryFetch ring ws mark => Sys2Proof.Machine.execSqEntryFetch ring ws mark s
  | .message n => Sys2Proof.Machine.execMessage n s
  | .dataIn n data => Sys2Proof.Machine.execDataIn n data s
  | .dataOut n => Sys2Proof.Machine.execDataOut n s
  | .dataTransferDone n => Sys2Proof.Machine.execDataTransferDone n s
  | .adminNop => Sys2Proof.Machine.execAdminNop s
  | .adminChanCmd => Sys2Proof.Machine.execAdminChanCmd s
  | .dmaStart mst k v => Sys2Proof.Machine.execDmaStart mst k v s
  | .dmaDescriptorDone k data => Sys2Proof.Machine.execDmaDescriptorDone k data s
  | .dmaAbort mst k arrived missing => Sys2Proof.Machine.execDmaAbort mst k arrived missing s
  | .dmaResume mst k => Sys2Proof.Machine.execDmaResume mst k s
  | .dmaClear mst => Sys2Proof.Machine.execDmaClear mst s
  | .busError reason arrived => Sys2Proof.Machine.execBusError reason arrived s
  | .serviceWrite mst v => Sys2Proof.Machine.execServiceWrite mst v s
  | .hostPortReset kind speed width => Sys2Proof.Machine.execHostPortReset kind speed width s
  | .msixEnable enable maskAll => Sys2Proof.Machine.execMsixEnable enable maskAll s
  | .msixUnmask vec entry => Sys2Proof.Machine.execMsixUnmask vec entry s
  | .driveEnable mst d => Sys2Proof.Machine.execDriveEnable mst d s
  | .driveDisable mst d => Sys2Proof.Machine.execDriveDisable mst d s
  | .driveLinkUp d speed width => Sys2Proof.Machine.execDriveLinkUp d speed width s
  | .driveLinkRetry d => Sys2Proof.Machine.execDriveLinkRetry d s
  | .driveInitDone d reason blocks maxXfer is4k => Sys2Proof.Machine.execDriveInitDone d reason blocks maxXfer is4k s
  | .driveInitTimeout d => Sys2Proof.Machine.execDriveInitTimeout d s
  | .driveCommandTimeout d => Sys2Proof.Machine.execDriveCommandTimeout d s
  | .driveLinkDown d => Sys2Proof.Machine.execDriveLinkDown d s
  | .nvmeCompletion d slot sct sc data => Sys2Proof.Machine.execNvmeCompletion d slot sct sc data s
  | .driveMemoryAccess d write addr bytes => Sys2Proof.Machine.execDriveMemoryAccess d write addr bytes s
  | .mbxPost mst m side msg => Sys2Proof.Machine.execMbxPost mst m side msg s
  | .mbxRecv mst m side => Sys2Proof.Machine.execMbxRecv mst m side s
  | .mbxAck mst m side code => Sys2Proof.Machine.execMbxAck mst m side code s
  | .sideReset mst m side => Sys2Proof.Machine.execSideReset mst m side s
  | .mbxTimeout m side => Sys2Proof.Machine.execMbxTimeout m side s
  | .tellerWrite mst m v => Sys2Proof.Machine.execTellerWrite mst m v s
  | .groupCtrlWrite mst g v => Sys2Proof.Machine.execGroupCtrlWrite mst g v s
  | .holdoffExpiry g => Sys2Proof.Machine.execHoldoffExpiry g s
  | .fabEnable mst v => Sys2Proof.Machine.execFabEnable mst v s
  | .chainLinkEnable mst k v => Sys2Proof.Machine.execChainLinkEnable mst k v s
  | .chainLaneLock k => Sys2Proof.Machine.execChainLaneLock k s
  | .chainTrainTimeout k => Sys2Proof.Machine.execChainTrainTimeout k s
  | .chainRetrainTimer k => Sys2Proof.Machine.execChainRetrainTimer k s
  | .helloTimer k => Sys2Proof.Machine.execHelloTimer k s
  | .hello k ident ver dom => Sys2Proof.Machine.execHello k ident ver dom s
  | .keepalive k => Sys2Proof.Machine.execKeepalive k s
  | .keepaliveTimeout k => Sys2Proof.Machine.execKeepaliveTimeout k s
  | .chainLockLoss k => Sys2Proof.Machine.execChainLockLoss k s
  | .depart k ident => Sys2Proof.Machine.execDepart k ident s
  | .linkState k dev mask serial => Sys2Proof.Machine.execLinkState k dev mask serial s
  | .linkStateTimer => Sys2Proof.Machine.execLinkStateTimer s
  | .chainFrame k ws => Sys2Proof.Machine.execChainFrame k ws s
  | .stop k mask => Sys2Proof.Machine.execStop k mask s
  | .go k mask => Sys2Proof.Machine.execGo k mask s
  | .stopMaskWrite mst k v => Sys2Proof.Machine.execStopMaskWrite mst k v s
  | .timeFrame k msg => Sys2Proof.Machine.execTimeFrame k msg s
  | .gatewayDatagram q ver dstPort ipLen ws => Sys2Proof.Machine.execGatewayDatagram q ver dstPort ipLen ws s
  | .closeTimer => Sys2Proof.Machine.execCloseTimer s
  | .close k src ws => Sys2Proof.Machine.execClose k src ws s
  | .ready k src ws => Sys2Proof.Machine.execReady k src ws s
  | .readyAggregateDeadline => Sys2Proof.Machine.execReadyAggregateDeadline s
  | .commitIssue => Sys2Proof.Machine.execCommitIssue s
  | .logAck k src ws => Sys2Proof.Machine.execLogAck k src ws s
  | .logWaitExpiry => Sys2Proof.Machine.execLogWaitExpiry s
  | .commit k src logged ws => Sys2Proof.Machine.execCommit k src logged ws s
  | .heartbeatTimer => Sys2Proof.Machine.execHeartbeatTimer s
  | .heartbeat k src ws => Sys2Proof.Machine.execHeartbeat k src ws s
  | .heartbeatAnswerTimeout => Sys2Proof.Machine.execHeartbeatAnswerTimeout s
  | .houseTimeout => Sys2Proof.Machine.execHouseTimeout s
  | .takeover k src ws => Sys2Proof.Machine.execTakeover k src ws s
  | .state k src ws => Sys2Proof.Machine.execState k src ws s
  | .takeoverGatherEnd => Sys2Proof.Machine.execTakeoverGatherEnd s
  | .join k src ws => Sys2Proof.Machine.execJoin k src ws s
  | .drop k src ws => Sys2Proof.Machine.execDrop k src ws s
  | .cutOff => Sys2Proof.Machine.execCutOff s
  | .partitionTimeout => Sys2Proof.Machine.execPartitionTimeout s
  | .gateSwapReq mst port v => Sys2Proof.Machine.execGateSwapReq mst port v s
  | .gateCancel mst port v => Sys2Proof.Machine.execGateCancel mst port v s
  | .gateSwapEffect port => Sys2Proof.Machine.execGateSwapEffect port s
  | .gateEntryEnd port => Sys2Proof.Machine.execGateEntryEnd port s
  | .egressFrameStart port => Sys2Proof.Machine.execEgressFrameStart port s
  | .pfcFrame q enables quanta => Sys2Proof.Machine.execPfcFrame q enables quanta s
  | .uplinkEnable mst u v => Sys2Proof.Machine.execUplinkEnable mst u v s
  | .uplinkUp q fec => Sys2Proof.Machine.execUplinkUp q fec s
  | .uplinkDown q => Sys2Proof.Machine.execUplinkDown q s
  | .uplinkRetry q => Sys2Proof.Machine.execUplinkRetry q s
  | .uplinkPacket q p => Sys2Proof.Machine.execUplinkPacket q p s
  | .ingestEnable mst r v => Sys2Proof.Machine.execIngestEnable mst r v s
  | .ingestFlushTimeout r => Sys2Proof.Machine.execIngestFlushTimeout r s
  | .egressStreamPop c => Sys2Proof.Machine.execEgressStreamPop c s
  | .graceExpiry k b => Sys2Proof.Machine.execGraceExpiry k b s
  | .faultAck mst v => Sys2Proof.Machine.execFaultAck mst v s
  | .haltNow mst v => Sys2Proof.Machine.execHaltNow mst v s
  | .fnHoldWrite mst v => Sys2Proof.Machine.execFnHoldWrite mst v s
  | .faultNPulseEnd => Sys2Proof.Machine.execFaultNPulseEnd s
  | .powerUp b => Sys2Proof.Machine.execPowerUp b s
  | .pwrOkFall => Sys2Proof.Machine.execPwrOkFall s
  | .sysRstN level b => Sys2Proof.Machine.execSysRstN level b s
  | .coldReset mst v b => Sys2Proof.Machine.execColdReset mst v b s
  | .warmReset mst v b => Sys2Proof.Machine.execWarmReset mst v b s
  | .perstN level b => Sys2Proof.Machine.execPerstN level b s
  | .clusterSleep k => Sys2Proof.Machine.execClusterSleep k s
  | .powerDown => Sys2Proof.Machine.execPowerDown s
  | .pwrfail => Sys2Proof.Machine.execPwrfail s
  | .pwrfailRise => Sys2Proof.Machine.execPwrfailRise s
  | .tailRecordDone ok => Sys2Proof.Machine.execTailRecordDone ok s
  | .testEn level b => Sys2Proof.Machine.execTestEn level b s
  | .refclkStopped clk => Sys2Proof.Machine.execRefclkStopped clk s
  | .refclkRange clk ppm => Sys2Proof.Machine.execRefclkRange clk ppm s
  | .refclkGood clk ppm => Sys2Proof.Machine.execRefclkGood clk ppm s
  | .xtal32Stopped => Sys2Proof.Machine.execXtal32Stopped s
  | .xtal32Good => Sys2Proof.Machine.execXtal32Good s
  | .mgmtRead a n => Sys2Proof.Machine.execMgmtRead a n s
  | .mgmtWrite a v => Sys2Proof.Machine.execMgmtWrite a v s
  | .trstN level b => Sys2Proof.Machine.execTrstN level b s
  | .bypass => Sys2Proof.Machine.execBypass s
  | .idcode => Sys2Proof.Machine.execIdcode s
  | .samplePreload => Sys2Proof.Machine.execSamplePreload s
  | .extest => Sys2Proof.Machine.execExtest s
  | .extestPulse => Sys2Proof.Machine.execExtestPulse s
  | .extestTrain => Sys2Proof.Machine.execExtestTrain s
  | .clamp => Sys2Proof.Machine.execClamp s
  | .highz => Sys2Proof.Machine.execHighz s
  | .vbatLoss => Sys2Proof.Machine.execVbatLoss s
  | .csiClockLaneActive p => Sys2Proof.Machine.execCsiClockLaneActive p s
  | .d3hot enter => Sys2Proof.Machine.execD3hot enter s
  | .ingestDisable mst r v => Sys2Proof.Machine.execIngestDisable mst r v s
  | .pfcPauseEnd port cls => Sys2Proof.Machine.execPfcPauseEnd port cls s
  | .shaperCredit port cls => Sys2Proof.Machine.execShaperCredit port cls s
  | .ledgerCommandDone => Sys2Proof.Machine.execLedgerCommandDone s
  | .setdasaEntdaa addr => Sys2Proof.Machine.execSetdasaEntdaa addr s
  | .uplinkReferenceLoss => Sys2Proof.Machine.execUplinkReferenceLoss s

end Sys2Proof.Machine
end

