-- ==== Sys2Proof/Machine/Step.lean ====
section
/-!
DEFINITION. Machine/Step.lean: one step of the block: the command at the front of the queue of waiting commands takes
effect on the block with the queue's rest; with none waiting, device time goes on by one nanosecond and nothing else
changes (log entry 4).
-/

namespace Sys2Proof.Machine

/-- The step. -/
def step (s : State) : Host.Outcome State Fault Refusal :=
  match s.pending with
  | [] => .next (s.onM (fun m => { m with now := m.now + 1 }))
  | c :: r => exec c { s with pending := r }

/-- The state with the command that a word spells put in front; the table gives no row any bits, so a word spells none
and the state stays. -/
def State.withFetchWord (s : State) (nbits w : Nat) : State :=
  match Sys2Proof.decodeTableWord nbits w with
  | some c => { s with pending := c :: s.pending }
  | none => s

end Sys2Proof.Machine
end

