-- ==== Sys2Proof/WellFormed.lean ====
section
/-!
DEFINITION. WellFormed.lean: the operands a sender may give a command: indices within what the block has (R25–R27, R47),
addresses within their space. The meaning of a command outside these bounds takes an index modulo its range, or changes
nothing; no statement is made about it. Operands with a type of their own width need no check.
-/

namespace Sys2Proof

/-- A master code that has register access: the host 0, the board controller 1, a cluster 2–9, the boot master Bh (R27,
R46). -/
def masterOk (mst : Nat) : Bool := decide (mst ≤ 9) || mst == 11

/-- A thread context: 0–511 of the stream channels, 512–543 the service contexts of the 32 clerks (R25, R79). -/
def threadOk (t : Nat) : Bool := decide (t < 544)

/-- May a command be sent: are its operands within their bounds? -/
def Instr.wf : Instr → Bool
  | .registerWrite mst a _ => masterOk mst && decide (a < 2 ^ 24)
  | .rcRead mst a => masterOk mst && decide (a < 2 ^ 24)
  | .paceWindow _ _ => true
  | .governorPoint mv cur => decide (mv < 1024) && decide (cur < 4096)
  | .governorLoop _ => true
  | .targetMiss => true
  | .avsFrame _ status => decide (status < 256)
  | .add t _ _ _ _ => threadOk t
  | .adc t _ _ _ _ => threadOk t
  | .sub t _ _ _ _ => threadOk t
  | .sbc t _ _ _ _ => threadOk t
  | .cmp t _ _ _ => threadOk t
  | .and t _ _ _ _ => threadOk t
  | .or t _ _ _ _ => threadOk t
  | .xor t _ _ _ _ => threadOk t
  | .andn t _ _ _ _ => threadOk t
  | .tst t _ _ _ => threadOk t
  | .not t _ _ _ => threadOk t
  | .neg t _ _ _ => threadOk t
  | .min t _ _ _ _ => threadOk t
  | .max t _ _ _ _ => threadOk t
  | .minu t _ _ _ _ => threadOk t
  | .maxu t _ _ _ _ => threadOk t
  | .shl t _ _ _ _ => threadOk t
  | .shr t _ _ _ _ => threadOk t
  | .sar t _ _ _ _ => threadOk t
  | .rol t _ _ _ _ => threadOk t
  | .clz t _ _ _ => threadOk t
  | .popc t _ _ _ => threadOk t
  | .mov t _ _ _ => threadOk t
  | .mul t _ _ _ _ => threadOk t
  | .mulhu t _ _ _ _ => threadOk t
  | .mulhs t _ _ _ _ => threadOk t
  | .divu t _ _ _ _ => threadOk t
  | .divs t _ _ _ _ => threadOk t
  | .remu t _ _ _ _ => threadOk t
  | .rems t _ _ _ _ => threadOk t
  | .addi t _ _ _ _ => threadOk t
  | .cmpi t _ _ _ => threadOk t
  | .andi t _ _ _ _ => threadOk t
  | .ori t _ _ _ _ => threadOk t
  | .xori t _ _ _ _ => threadOk t
  | .ldi t _ _ _ => threadOk t
  | .ldhi t _ _ _ => threadOk t
  | .shli t _ _ _ _ => threadOk t
  | .shri t _ _ _ _ => threadOk t
  | .sari t _ _ _ _ => threadOk t
  | .extu t _ _ _ _ => threadOk t
  | .exts t _ _ _ _ => threadOk t
  | .ins t _ _ _ _ => threadOk t
  | .gate t _ _ => threadOk t
  | .s6add t _ _ _ _ => threadOk t
  | .s6adds t _ _ _ _ => threadOk t
  | .s6sub t _ _ _ _ => threadOk t
  | .s6subs t _ _ _ _ => threadOk t
  | .s6avg t _ _ _ _ => threadOk t
  | .s6min t _ _ _ _ => threadOk t
  | .s6max t _ _ _ _ => threadOk t
  | .s6absd t _ _ _ _ => threadOk t
  | .s6sad t _ _ _ _ => threadOk t
  | .s6mulq t _ _ _ _ => threadOk t
  | .s6shrr t _ _ _ _ => threadOk t
  | .s6shl t _ _ _ _ => threadOk t
  | .s6ceq t _ _ _ _ => threadOk t
  | .s6cgt t _ _ _ _ => threadOk t
  | .s6hsum t _ _ _ => threadOk t
  | .s6bcast t _ _ _ => threadOk t
  | .n9add t _ _ _ _ => threadOk t
  | .n9adds t _ _ _ _ => threadOk t
  | .n9sub t _ _ _ _ => threadOk t
  | .n9subs t _ _ _ _ => threadOk t
  | .n9avg t _ _ _ _ => threadOk t
  | .n9min t _ _ _ _ => threadOk t
  | .n9max t _ _ _ _ => threadOk t
  | .n9absd t _ _ _ _ => threadOk t
  | .n9sad t _ _ _ _ => threadOk t
  | .n9mulq t _ _ _ _ => threadOk t
  | .n9shrr t _ _ _ _ => threadOk t
  | .n9shl t _ _ _ _ => threadOk t
  | .n9ceq t _ _ _ _ => threadOk t
  | .n9cgt t _ _ _ _ => threadOk t
  | .n9hsum t _ _ _ => threadOk t
  | .n9bcast t _ _ _ => threadOk t
  | .q4adds t _ _ _ _ => threadOk t
  | .q4subs t _ _ _ _ => threadOk t
  | .q4shrr t _ _ _ _ => threadOk t
  | .q4clipu t _ _ _ _ => threadOk t
  | .cnv96 t _ _ _ _ => threadOk t
  | .cnv69l t _ _ _ => threadOk t
  | .cnv69h t _ _ _ => threadOk t
  | .cnvq6 t _ _ _ _ => threadOk t
  | .rdtsw t _ _ => threadOk t
  | .wrtsw t _ _ => threadOk t
  | .cmpp t _ _ _ _ => threadOk t
  | .nop t _ => threadOk t
  | .fence t _ => threadOk t
  | .brk t _ => threadOk t
  | .gret t _ => threadOk t
  | .tret t _ => threadOk t
  | .jmpr t _ _ _ => threadOk t
  | .mfs t _ _ _ => threadOk t
  | .mts t _ _ _ => threadOk t
  | .rdt t _ _ _ => threadOk t
  | .wrt t _ _ _ _ => threadOk t
  | .rdtime t _ _ => threadOk t
  | .tadd t _ _ _ _ => threadOk t
  | .swap t _ _ _ _ => threadOk t
  | .kill t _ _ _ => threadOk t
  | .ld t _ _ _ _ _ _ => threadOk t
  | .st t _ _ _ _ _ _ => threadOk t
  | .ldv t _ _ _ _ _ _ => threadOk t
  | .stv t _ _ _ _ _ _ => threadOk t
  | .ldr t _ _ _ _ _ _ => threadOk t
  | .str t _ _ _ _ _ _ => threadOk t
  | .ldp t _ _ _ _ _ _ => threadOk t
  | .aadd t _ _ _ _ _ _ => threadOk t
  | .aswp t _ _ _ _ _ _ => threadOk t
  | .acas t _ _ _ _ _ _ => threadOk t
  | .aaddv t _ _ _ _ _ _ => threadOk t
  | .acasv t _ _ _ _ _ _ => threadOk t
  | .jmp t _ _ _ => threadOk t
  | .enq t _ _ _ _ _ _ => threadOk t
  | .tstat t _ _ _ _ => threadOk t
  | .fpush t _ _ _ _ => threadOk t
  | .ftry t _ _ _ _ => threadOk t
  | .flen t _ _ _ => threadOk t
  | .mpost t _ _ _ _ => threadOk t
  | .mrecv t _ _ _ _ => threadOk t
  | .mack t _ _ _ _ => threadOk t
  | .mstat t _ _ _ => threadOk t
  | .give t _ _ _ _ => threadOk t
  | .owner t _ _ _ => threadOk t
  | .waitk t _ _ _ _ _ => threadOk t
  | .waite t _ _ _ _ _ => threadOk t
  | .waitt t _ _ _ _ => threadOk t
  | .fpop t _ _ _ _ _ => threadOk t
  | .moveDramDram t _ _ _ _ => threadOk t
  | .moveDramVault t _ _ _ _ => threadOk t
  | .moveVaultDram t _ _ _ _ => threadOk t
  | .moveVaultVault t _ _ _ _ => threadOk t
  | .fillDram t _ _ _ _ => threadOk t
  | .fillVault t _ _ _ _ => threadOk t
  | .sumDram t _ _ _ _ => threadOk t
  | .sumVault t _ _ _ _ => threadOk t
  | .compose t _ _ _ _ => threadOk t
  | .draink t _ _ _ => threadOk t
  | .drainc t _ _ _ => threadOk t
  | .longProgressStep t => threadOk t
  | .microwordWaitEnd t => threadOk t
  | .waitConditionMet t => threadOk t
  | .asyncTrap t => threadOk t
  | .ucLoadLo mst _ => masterOk mst
  | .ucLoadHi mst _ => masterOk mst
  | .chanCtrlWrite mst n _ => masterOk mst && decide (n < 512)
  | .cmdLoad mst n record => masterOk mst && decide (n < 512) && decide (record < 2 ^ 36)
  | .cmdSwap mst n record => masterOk mst && decide (n < 512) && decide (record < 2 ^ 36)
  | .cmdKill mst n => masterOk mst && decide (n < 512)
  | .cmdStop mst n => masterOk mst && decide (n < 512)
  | .stopTimeout n => decide (n < 512)
  | .cmdResume mst n => masterOk mst && decide (n < 512)
  | .cmdClear mst n => masterOk mst && decide (n < 512)
  | .cmdUnshed mst n => masterOk mst && decide (n < 512)
  | .cmdReserved mst n cmd => masterOk mst && decide (n < 512) && decide (cmd < 16)
  | .exchangeEffect n => decide (n < 512)
  | .swapLimitExpiry n => decide (n < 512)
  | .effectTimeReached n => decide (n < 512)
  | .liveIssueWindow n _ => decide (n < 512)
  | .liveGuaranteeRestore n => decide (n < 512)
  | .timerExpiry t k => threadOk t && decide (k < 4)
  | .schedEnable mst _ => masterOk mst
  | .schedEntryDue => true
  | .loadWindow c load live => decide (c < 32) && decide (load < 1025) && decide (live < 1025)
  | .poolGet t => threadOk t
  | .poolPut t => threadOk t
  | .poolPass t => threadOk t
  | .fifoClose t => threadOk t
  | .hostRetire t => threadOk t
  | .hostComplete t => threadOk t
  | .decOpen t => threadOk t
  | .decNext t _ => threadOk t
  | .decPicDone t _ => threadOk t
  | .decOutput t _ => threadOk t
  | .decRelease t => threadOk t
  | .decFlush t => threadOk t
  | .decClose t => threadOk t
  | .decGap t _ => threadOk t
  | .regionOpen t => threadOk t
  | .encOpen t => threadOk t
  | .encPicture t _ => threadOk t
  | .encNext t _ => threadOk t
  | .encUnitDone t _ _ _ _ => threadOk t
  | .encPicDone t _ _ _ _ => threadOk t
  | .encRefresh t => threadOk t
  | .encFlush t => threadOk t
  | .encClose t => threadOk t
  | .rcSet t => threadOk t
  | .engineTakeWork _ _ _ _ => true
  | .entropyRowEnd e _ _ _ => decide (e < 24)
  | .entropyDecDone e _ _ _ _ => decide (e < 24)
  | .pipeSegmentEnd p _ _ _ _ _ _ _ _ => decide (p < 8)
  | .reconDecDone p n _ _ _ _ _ => decide (p < 8) && decide (n < 512)
  | .picTimeout n _ _ _ _ _ => decide (n < 512)
  | .engineMeterWindow => true
  | .searchBandEnd e _ _ _ => decide (e < 4)
  | .searchDone e n _ _ => decide (e < 4) && decide (n < 512)
  | .rateDone a => decide (a < 4)
  | .reconEncDone p n _ _ => decide (p < 8) && decide (n < 512)
  | .entropyEncDone e _ _ => decide (e < 24)
  | .srcEnable mst i _ => masterOk mst && decide (i < 24)
  | .srcDisable mst i _ => masterOk mst && decide (i < 24)
  | .csiFrameStart p vc => decide (p < 8) && decide (vc < 16)
  | .csiLongPacket p vc dt _ _ _ _ _ => decide (p < 8) && decide (vc < 16) && decide (dt < 64)
  | .csiLineStart p vc _ => decide (p < 8) && decide (vc < 16)
  | .csiFrameEnd p vc => decide (p < 8) && decide (vc < 16)
  | .flowPacket f _ => decide (f < 16)
  | .frameTimeout i => decide (i < 24)
  | .captureNoSignal p => decide (p < 8)
  | .slotRelease i => decide (i < 24)
  | .scaleBandEnd k => decide (k < 4)
  | .scaleDone n _ => decide (n < 512)
  | .post k _ => decide (k < 2)
  | .pre k _ => decide (k < 2)
  | .fetchReq k _ => decide (k < 2)
  | .fetchReply k _ => decide (k < 2)
  | .fetchNak k _ => decide (k < 2)
  | .absent k _ => decide (k < 2)
  | .away k _ => decide (k < 2)
  | .seamWaitExpiry n _ _ => decide (n < 512)
  | .fetchWaitExpiry n _ => decide (n < 512)
  | .memberDeparted ident => decide (ident < 2 ^ 18)
  | .seamDone k n _ => decide (k < 2) && decide (n < 512)
  | .configWrite mst a _ => masterOk mst && decide (a < 2 ^ 24)
  | .holdConfigClear mst _ => masterOk mst
  | .mapCheckDone => true
  | .refreshStart _ => true
  | .calCmd mst _ => masterOk mst
  | .calListDone => true
  | .portEnable mst p _ => masterOk mst && decide (p < 64)
  | .lampLinkUp p _ => decide (p < 64)
  | .lampLinkDown p => decide (p < 64)
  | .lampLinkRetry p => decide (p < 64)
  | .lampFrameTx p => decide (p < 64)
  | .discoverTimer p => decide (p < 64)
  | .cardHello p _ => decide (p < 64)
  | .cardStatus p _ => decide (p < 64)
  | .holdTimer p => decide (p < 64)
  | .portBlank mst p _ => masterOk mst && decide (p < 64)
  | .uploadCmd mst _ => masterOk mst
  | .calData p _ => decide (p < 64)
  | .calReqTimeout => true
  | .ledgerEnable mst _ => masterOk mst
  | .ledgerRestoreDone => true
  | .journalEnable mst _ => masterOk mst
  | .journalPassStart => true
  | .journalPassDone _ => true
  | .ledgerPass mst _ => masterOk mst
  | .zero mst _ => masterOk mst
  | .import mst _ => masterOk mst
  | .lifeSecond _ => true
  | .calSet mst _ => masterOk mst
  | .calendarTrim => true
  | .calendarFollow _ => true
  | .vaultOwnerWrite mst b _ => masterOk mst && decide (b < 192)
  | .vaultRetire mst _ => masterOk mst
  | .vaultPowerWrite mst _ => masterOk mst
  | .domainClearDone d => decide (d < 12)
  | .assayStart mst _ => masterOk mst
  | .assayDone _ _ => true
  | .dramRefresh ch bank _ => decide (ch < 8) && decide (bank < 4)
  | .mr4Poll ch rank _ _ => decide (ch < 8) && decide (rank < 2)
  | .zqCalibration ch => decide (ch < 8)
  | .patrolScrub _ _ _ => true
  | .dramReadComplete cls held a _ _ _ => decide (cls < 4) && decide (held ≤ 16) && decide (a < 2 ^ 36)
  | .ceInterval => true
  | .caParityAlert ch a _ _ => decide (ch < 8) && decide (a < 2 ^ 36)
  | .phyLockLoss ch => decide (ch < 8)
  | .poolEnable mst p _ => masterOk mst && decide (p < 16)
  | .poolDisable mst p _ => masterOk mst && decide (p < 16)
  | .poolInitDone p _ => decide (p < 16)
  | .poolTake mst p => masterOk mst && decide (p < 16)
  | .poolHostPut mst _ => masterOk mst
  | .poolHostPass mst _ => masterOk mst
  | .reclaim mst _ => masterOk mst
  | .reclaimDone => true
  | .holdEnd p _ => decide (p < 16)
  | .fifoFlush mst f _ => masterOk mst && decide (f < 64)
  | .fifoPop mst f => masterOk mst && decide (f < 64)
  | .fifoPush mst f q _ => masterOk mst && decide (f < 64) && decide (q < 8)
  | .hostFifoClose mst f _ => masterOk mst && decide (f < 64)
  | .fifoDiscard mst f _ => masterOk mst && decide (f < 64)
  | .bar0StageWrite off _ _ => decide (off < 2 ^ 28)
  | .bar0HighRead off _ => decide (off < 2 ^ 28)
  | .bar4Read off _ => decide (off < 2 ^ 32)
  | .bar4Write off _ _ => decide (off < 2 ^ 32)
  | .hostAbiWrite mst _ => masterOk mst
  | .ringEnable mst ring _ _ => masterOk mst && decide (ring < 513)
  | .sqDoorbell n _ _ => decide (n < 512)
  | .cqDoorbell n _ _ => decide (n < 512)
  | .adminSqDoorbell _ _ => true
  | .adminCqDoorbell _ _ => true
  | .sqEntryFetch ring _ _ => decide (ring < 513)
  | .message n => decide (n < 512)
  | .dataIn n _ => decide (n < 512)
  | .dataOut n => decide (n < 512)
  | .dataTransferDone n => decide (n < 512)
  | .adminNop => true
  | .adminChanCmd => true
  | .dmaStart mst k _ => masterOk mst && decide (k < 32)
  | .dmaDescriptorDone k _ => decide (k < 32)
  | .dmaAbort mst k _ _ => masterOk mst && decide (k < 32)
  | .dmaResume mst k => masterOk mst && decide (k < 32)
  | .dmaClear mst => masterOk mst
  | .busError _ _ => true
  | .serviceWrite mst _ => masterOk mst
  | .hostPortReset kind _ _ => decide (kind < 3)
  | .msixEnable _ _ => true
  | .msixUnmask vec _ => decide (vec < 2048)
  | .driveEnable mst d => masterOk mst && decide (d < 4)
  | .driveDisable mst d => masterOk mst && decide (d < 4)
  | .driveLinkUp d _ _ => decide (d < 4)
  | .driveLinkRetry d => decide (d < 4)
  | .driveInitDone d _ _ _ _ => decide (d < 4)
  | .driveInitTimeout d => decide (d < 4)
  | .driveCommandTimeout d => decide (d < 4)
  | .driveLinkDown d => decide (d < 4)
  | .nvmeCompletion d slot sct sc _ => decide (d < 4) && decide (slot < 256) && decide (sct < 8) && decide (sc < 256)
  | .driveMemoryAccess d _ _ _ => decide (d < 4)
  | .mbxPost mst m _ _ => masterOk mst && decide (m < 64)
  | .mbxRecv mst m _ => masterOk mst && decide (m < 64)
  | .mbxAck mst m _ _ => masterOk mst && decide (m < 64)
  | .sideReset mst m _ => masterOk mst && decide (m < 64)
  | .mbxTimeout m _ => decide (m < 64)
  | .tellerWrite mst m _ => masterOk mst && decide (m < 64)
  | .groupCtrlWrite mst g _ => masterOk mst && decide (g < 64)
  | .holdoffExpiry g => decide (g < 44)
  | .fabEnable mst _ => masterOk mst
  | .chainLinkEnable mst k _ => masterOk mst && decide (k < 8)
  | .chainLaneLock k => decide (k < 8)
  | .chainTrainTimeout k => decide (k < 8)
  | .chainRetrainTimer k => decide (k < 8)
  | .helloTimer k => decide (k < 8)
  | .hello k ident ver dom => decide (k < 8) && decide (ident < 2 ^ 18) && decide (ver < 4) && decide (dom < 65536)
  | .keepalive k => decide (k < 8)
  | .keepaliveTimeout k => decide (k < 8)
  | .chainLockLoss k => decide (k < 8)
  | .depart k ident => decide (k < 8) && decide (ident < 2 ^ 18)
  | .linkState k dev mask _ => decide (k < 8) && decide (dev < 2 ^ 18) && decide (mask < 256)
  | .linkStateTimer => true
  | .chainFrame k _ => decide (k < 8)
  | .stop k mask => decide (k < 8) && decide (mask < 256)
  | .go k mask => decide (k < 8) && decide (mask < 256)
  | .stopMaskWrite mst k _ => masterOk mst && decide (k < 8)
  | .timeFrame k _ => decide (k < 8)
  | .gatewayDatagram q _ _ _ _ => decide (q < 16)
  | .closeTimer => true
  | .close k src _ => decide (k < 9) && decide (src < 2 ^ 18)
  | .ready k src _ => decide (k < 9) && decide (src < 2 ^ 18)
  | .readyAggregateDeadline => true
  | .commitIssue => true
  | .logAck k src _ => decide (k < 9) && decide (src < 2 ^ 18)
  | .logWaitExpiry => true
  | .commit k src _ _ => decide (k < 9) && decide (src < 2 ^ 18)
  | .heartbeatTimer => true
  | .heartbeat k src _ => decide (k < 9) && decide (src < 2 ^ 18)
  | .heartbeatAnswerTimeout => true
  | .houseTimeout => true
  | .takeover k src _ => decide (k < 9) && decide (src < 2 ^ 18)
  | .state k src _ => decide (k < 9) && decide (src < 2 ^ 18)
  | .takeoverGatherEnd => true
  | .join k src _ => decide (k < 9) && decide (src < 2 ^ 18)
  | .drop k src _ => decide (k < 9) && decide (src < 2 ^ 18)
  | .cutOff => true
  | .partitionTimeout => true
  | .gateSwapReq mst port _ => masterOk mst && decide (port < 24)
  | .gateCancel mst port _ => masterOk mst && decide (port < 24)
  | .gateSwapEffect port => decide (port < 24)
  | .gateEntryEnd port => decide (port < 24)
  | .egressFrameStart port => decide (port < 24)
  | .pfcFrame q enables _ => decide (q < 16) && decide (enables < 256)
  | .uplinkEnable mst u _ => masterOk mst && decide (u < 4)
  | .uplinkUp q _ => decide (q < 16)
  | .uplinkDown q => decide (q < 16)
  | .uplinkRetry q => decide (q < 16)
  | .uplinkPacket q _ => decide (q < 16)
  | .ingestEnable mst r _ => masterOk mst && decide (r < 256)
  | .ingestFlushTimeout r => decide (r < 256)
  | .egressStreamPop c => decide (c < 64)
  | .graceExpiry k _ => decide (k < 16)
  | .faultAck mst _ => masterOk mst
  | .haltNow mst _ => masterOk mst
  | .fnHoldWrite mst _ => masterOk mst
  | .faultNPulseEnd => true
  | .powerUp _ => true
  | .pwrOkFall => true
  | .sysRstN _ _ => true
  | .coldReset mst _ _ => masterOk mst
  | .warmReset mst _ _ => masterOk mst
  | .perstN _ _ => true
  | .clusterSleep k => decide (k < 8)
  | .powerDown => true
  | .pwrfail => true
  | .pwrfailRise => true
  | .tailRecordDone _ => true
  | .testEn _ _ => true
  | .refclkStopped clk => decide (clk < 4)
  | .refclkRange clk _ => decide (clk < 4)
  | .refclkGood clk _ => decide (clk < 4)
  | .xtal32Stopped => true
  | .xtal32Good => true
  | .mgmtRead a _ => decide (a < 2 ^ 24)
  | .mgmtWrite a _ => decide (a < 2 ^ 24)
  | .trstN _ _ => true
  | .bypass => true
  | .idcode => true
  | .samplePreload => true
  | .extest => true
  | .extestPulse => true
  | .extestTrain => true
  | .clamp => true
  | .highz => true
  | .vbatLoss => true
  | .csiClockLaneActive p => decide (p < 8)
  | .d3hot _ => true
  | .ingestDisable mst r _ => masterOk mst && decide (r < 256)
  | .pfcPauseEnd port cls => decide (port < 24) && decide (cls < 8)
  | .shaperCredit port cls => decide (port < 24) && decide (cls < 8)
  | .ledgerCommandDone => true
  | .setdasaEntdaa addr => decide (addr < 128)
  | .uplinkReferenceLoss => true

end Sys2Proof
end

