-- ==== Sys2Proof/Safety.lean ====
section
/-!
DEFINITION. Safety.lean: the words that claims about the block use: a command sent, a step that answers, runs of steps,
and what a sound state is.
-/

namespace Sys2Proof.Machine

/-- A state in the canonical form that every command keeps: both memories list rising addresses, and no address that reads
as an unlisted one does. -/
def State.sound (s : State) : Prop := s.mem.wf = true

/-- A command joins the queue, behind those that wait. -/
def State.give (s : State) (c : Instr) : State := { s with pending := s.pending ++ [c] }

/-- The command answers a next state with a property. -/
def Answers (c : Instr) (s : State) (P : State → Prop) : Prop := ∃ t, exec c s = .next t ∧ P t

/-- n steps from a state, each of which answers a next state, end in another. -/
inductive Runs : Nat → State → State → Prop
  | here (s : State) : Runs 0 s s
  | more {n : Nat} {s t u : State} (h : step s = .next t) (r : Runs n t u) : Runs (n + 1) s u

/-- A run of n steps is safe: no step before its end stops, and every state of it is sound. -/
def SafeFor (n : Nat) (s : State) : Prop := ∀ k, k ≤ n → ∃ t, Runs k s t ∧ t.sound

/-! ### What an instruction of a thread does -/

/-- Thread t issues the next instruction and runs its body: its clerk is up and it is READY (R112, R113), the fetch raises no
trap (R91), no interrupted long instruction waits for its return (R198), the microwords at the entry points pass their check
and are no fault (R189, R192), the condition field holds (R87), and TSW.STEP is 0 (R657). -/
structure Ready (s : State) (t : Nat) (c : BitVec 4) : Prop where
  issues : s.m.issues t = true
  fetched : s.fetchTrap t = none
  fresh : (s.m.th t).inTrap = true ∨ (s.m.th t).saved = none
  micro : s.m.microSound = true
  holds : (s.m.th t).cond c = true
  quiet : (s.m.th t).step = false

/-- From s to u nothing changed but thread t, and of it only its general registers, its status word and its program
counter. -/
structure OnlyThread (s u : State) (t : Nat) : Prop where
  device : { u with m := { u.m with threads := s.m.threads } } = s
  others : ∀ k, k ≠ t → u.m.th k = s.m.th k
  thread : { u.m.th t with w := (s.m.th t).w, tsw := (s.m.th t).tsw, pc := (s.m.th t).pc } = s.m.th t

/-- Thread t's general registers are as before but W[d], which is v; W0 reads zero whatever is written (R79). -/
def RegWritten (s u : State) (t : Nat) (d : BitVec 5) (v : Word) : Prop :=
  ∀ r, (u.m.th t).rw r = if r = d ∧ d ≠ 0 then v else (s.m.th t).rw r

/-- The status bits of thread t are as before but those a list gives, by their place in TSW (R80). -/
def StatusWritten (s u : State) (t : Nat) (l : List (Nat × Bool)) : Prop :=
  ∀ i, i < 72 → (u.m.th t).bit i = (l.lookup i).getD ((s.m.th t).bit i)

/-- The instruction writes v to W[d] and the status bits of a list, goes on at `pc`, and changes nothing else. -/
structure Wrote (s u : State) (t : Nat) (d : BitVec 5) (v : Word) (l : List (Nat × Bool)) (pc : Nat) : Prop where
  only : OnlyThread s u t
  result : RegWritten s u t d v
  status : StatusWritten s u t l
  pc : (u.m.th t).pc = pc

/-- The command answers a next state in which thread t wrote v to W[d] and the status bits of a list, went on at the next
instruction, and changed nothing else. -/
def Computes (i : Instr) (s : State) (t : Nat) (d : BitVec 5) (v : Word) (l : List (Nat × Bool)) : Prop :=
  Answers i s (fun u => Wrote s u t d v l (nextPc (s.m.th t).pc))

/-- The command's answer is the trap of a cause, with a return point, taken by thread t (R100, R102). -/
def Traps (i : Instr) (s : State) (t cause ret : Nat) : Prop := exec i s = .next (s.trapTo t cause ret (s.m.th t).pc)

/-- The flag Z of a result, in TSW[41], and N, in TSW[40] (R80, R89). -/
def flagZ (r : Word) : List (Nat × Bool) := [(41, decide (r = 0))]
def flagsZN (r : Word) : List (Nat × Bool) := [(41, decide (r = 0)), (40, r.msb)]

/-- Lane k of a word in lanes of L bits, lane 0 lowest (R11). -/
def laneOf (l k : Nat) (w : Word) : Nat := w.toNat / 2 ^ (l * k) % 2 ^ l

/-- From s to u nothing but thread t and a list of its parts changed: every other part of the device, the memories and every
other thread are as before. -/
structure ElseSame (s u : State) (t : Nat) : Prop where
  device : { u with m := { u.m with threads := s.m.threads } } = s
  others : ∀ k, k ≠ t → u.m.th k = s.m.th k

/-- The DRAM word at `a` is v and not poisoned; every other word of DRAM and every vault word is as before. -/
structure StoredDram (s u : State) (a : Nat) (v : Word) : Prop where
  word : u.dram a = v ∧ u.dramPoison a = false
  dram : ∀ b, b ≠ a → u.dram b = s.dram b ∧ u.dramPoison b = s.dramPoison b
  vault : u.mem.vault = s.mem.vault ∧ u.mem.vaultBad = s.mem.vaultBad ∧ u.mem.vaultErr = s.mem.vaultErr

/-- The vault word at `a` is v, not poisoned and without error; every other vault word and every word of DRAM is as before. -/
structure StoredVault (s u : State) (a : Nat) (v : Word) : Prop where
  word : u.vault a = v ∧ u.vaultPoison a = false ∧ u.vaultErr a = 0
  vault : ∀ b, b ≠ a → u.vault b = s.vault b ∧ u.vaultPoison b = s.vaultPoison b ∧ u.vaultErr b = s.vaultErr b
  dram : u.mem.dram = s.mem.dram ∧ u.mem.dramBad = s.mem.dramBad

/-- A word of DRAM that thread t may name: within the installed capacity, and at channel privilege in a buffer of the
channel (R93, R94). -/
def DramOpen (s : State) (t a : Nat) : Prop := a < s.m.capacity ∧ ((s.m.th t).priv = true ∨ s.owns t a 1 = true)

/-- A vault word that thread t may name: of a bank that its cluster owns and whose domain is on (R93, R94, R458). -/
def VaultOpen (s : State) (t a : Nat) : Prop := a < 192 * 32768 ∧ s.m.bankOpen (a / 32768) (s.m.clusterOf t) = true

/-- A DRAM word that no protection keeps from a thread's store, and that holds no pool's metadata (R92, R414, R480). -/
def DramFree (s : State) (t a : Nat) : Prop :=
  s.m.progLocked (.master (s.m.threadMaster t)) a = false ∧ s.m.recordLocked (.master (s.m.threadMaster t)) a = false ∧
    s.m.metaPool a = none

/-- The instruction stores v to a DRAM word, writes the word's old value to W[d] with the status bits of a list, and changes
nothing else. -/
def SwapsDram (i : Instr) (s : State) (t a : Nat) (v : Word) (d : BitVec 5) (l : List (Nat × Bool)) : Prop :=
  Answers i s (fun u => StoredDram s u a v ∧ Wrote { s with mem := u.mem } u t d (s.dram a) l (nextPc (s.m.th t).pc))

/-- The same for a vault word. -/
def SwapsVault (i : Instr) (s : State) (t a : Nat) (v : Word) (d : BitVec 5) (l : List (Nat × Bool)) : Prop :=
  Answers i s (fun u => StoredVault s u a v ∧ Wrote { s with mem := u.mem } u t d (s.vault a) l (nextPc (s.m.th t).pc))

/-- Trap entry (R102): XLINK holds the return point and TSW[47:0], PRIV and IN_TRAP are 1, LAST_CAUSE is the cause, the
thread goes on at the handler READY, the cause's counter goes up, and nothing else changes. -/
structure Entered (s u : State) (t cause ret handler : Nat) : Prop where
  pc : (u.m.th t).pc = handler
  link : bits (u.m.th t).xlink 71 48 = ret % 2 ^ 24 ∧ bits (u.m.th t).xlink 47 0 = bits (s.m.th t).tsw 47 0
  priv : (u.m.th t).priv = true ∧ (u.m.th t).inTrap = true
  why : (u.m.th t).lastCause = cause % 64
  status : ∀ i, i < 72 → i ≠ 47 → i ≠ 43 → i < 26 ∨ 31 < i → (u.m.th t).bit i = (s.m.th t).bit i
  ready : (u.m.th t).st = .ready ∧ (u.m.th t).wait = none
  rest : { u.m.th t with st := (s.m.th t).st, wait := (s.m.th t).wait, tsw := (s.m.th t).tsw, xlink := (s.m.th t).xlink, pc := (s.m.th t).pc } = s.m.th t
  others : ∀ k, k ≠ t → u.m.th k = s.m.th k
  count : u.m.g (DOLRY_TRAP_CNT_TRAPS cause) = min (s.m.g (DOLRY_TRAP_CNT_TRAPS cause) + 1) (2 ^ 32 - 1)
  regs : ∀ a, a ≠ (DOLRY_TRAP_CNT_TRAPS cause).a → u.m.rd a = s.m.rd a
  device : { u with m := { u.m with threads := s.m.threads, regs := s.m.regs } } = s

/-! ### The instructions of a thread -/

/-- The thread that issues an instruction and the condition field of its word; none of a command that is no instruction (R84,
R87). -/
def issuerOf : Instr → Option (Nat × BitVec 4)
  | .add t c _ _ _ => some (t, c)
  | .adc t c _ _ _ => some (t, c)
  | .sub t c _ _ _ => some (t, c)
  | .sbc t c _ _ _ => some (t, c)
  | .cmp t c _ _ => some (t, c)
  | .and t c _ _ _ => some (t, c)
  | .or t c _ _ _ => some (t, c)
  | .xor t c _ _ _ => some (t, c)
  | .andn t c _ _ _ => some (t, c)
  | .tst t c _ _ => some (t, c)
  | .not t c _ _ => some (t, c)
  | .neg t c _ _ => some (t, c)
  | .min t c _ _ _ => some (t, c)
  | .max t c _ _ _ => some (t, c)
  | .minu t c _ _ _ => some (t, c)
  | .maxu t c _ _ _ => some (t, c)
  | .shl t c _ _ _ => some (t, c)
  | .shr t c _ _ _ => some (t, c)
  | .sar t c _ _ _ => some (t, c)
  | .rol t c _ _ _ => some (t, c)
  | .clz t c _ _ => some (t, c)
  | .popc t c _ _ => some (t, c)
  | .mov t c _ _ => some (t, c)
  | .mul t c _ _ _ => some (t, c)
  | .mulhu t c _ _ _ => some (t, c)
  | .mulhs t c _ _ _ => some (t, c)
  | .divu t c _ _ _ => some (t, c)
  | .divs t c _ _ _ => some (t, c)
  | .remu t c _ _ _ => some (t, c)
  | .rems t c _ _ _ => some (t, c)
  | .addi t c _ _ _ => some (t, c)
  | .cmpi t c _ _ => some (t, c)
  | .andi t c _ _ _ => some (t, c)
  | .ori t c _ _ _ => some (t, c)
  | .xori t c _ _ _ => some (t, c)
  | .ldi t c _ _ => some (t, c)
  | .ldhi t c _ _ => some (t, c)
  | .shli t c _ _ _ => some (t, c)
  | .shri t c _ _ _ => some (t, c)
  | .sari t c _ _ _ => some (t, c)
  | .extu t c _ _ _ => some (t, c)
  | .exts t c _ _ _ => some (t, c)
  | .ins t c _ _ _ => some (t, c)
  | .gate t c _ => some (t, c)
  | .s6add t c _ _ _ => some (t, c)
  | .s6adds t c _ _ _ => some (t, c)
  | .s6sub t c _ _ _ => some (t, c)
  | .s6subs t c _ _ _ => some (t, c)
  | .s6avg t c _ _ _ => some (t, c)
  | .s6min t c _ _ _ => some (t, c)
  | .s6max t c _ _ _ => some (t, c)
  | .s6absd t c _ _ _ => some (t, c)
  | .s6sad t c _ _ _ => some (t, c)
  | .s6mulq t c _ _ _ => some (t, c)
  | .s6shrr t c _ _ _ => some (t, c)
  | .s6shl t c _ _ _ => some (t, c)
  | .s6ceq t c _ _ _ => some (t, c)
  | .s6cgt t c _ _ _ => some (t, c)
  | .s6hsum t c _ _ => some (t, c)
  | .s6bcast t c _ _ => some (t, c)
  | .n9add t c _ _ _ => some (t, c)
  | .n9adds t c _ _ _ => some (t, c)
  | .n9sub t c _ _ _ => some (t, c)
  | .n9subs t c _ _ _ => some (t, c)
  | .n9avg t c _ _ _ => some (t, c)
  | .n9min t c _ _ _ => some (t, c)
  | .n9max t c _ _ _ => some (t, c)
  | .n9absd t c _ _ _ => some (t, c)
  | .n9sad t c _ _ _ => some (t, c)
  | .n9mulq t c _ _ _ => some (t, c)
  | .n9shrr t c _ _ _ => some (t, c)
  | .n9shl t c _ _ _ => some (t, c)
  | .n9ceq t c _ _ _ => some (t, c)
  | .n9cgt t c _ _ _ => some (t, c)
  | .n9hsum t c _ _ => some (t, c)
  | .n9bcast t c _ _ => some (t, c)
  | .q4adds t c _ _ _ => some (t, c)
  | .q4subs t c _ _ _ => some (t, c)
  | .q4shrr t c _ _ _ => some (t, c)
  | .q4clipu t c _ _ _ => some (t, c)
  | .cnv96 t c _ _ _ => some (t, c)
  | .cnv69l t c _ _ => some (t, c)
  | .cnv69h t c _ _ => some (t, c)
  | .cnvq6 t c _ _ _ => some (t, c)
  | .rdtsw t c _ => some (t, c)
  | .wrtsw t c _ => some (t, c)
  | .cmpp t c _ _ _ => some (t, c)
  | .nop t c => some (t, c)
  | .fence t c => some (t, c)
  | .brk t c => some (t, c)
  | .gret t c => some (t, c)
  | .tret t c => some (t, c)
  | .jmpr t c _ _ => some (t, c)
  | .mfs t c _ _ => some (t, c)
  | .mts t c _ _ => some (t, c)
  | .rdt t c _ _ => some (t, c)
  | .wrt t c _ _ _ => some (t, c)
  | .rdtime t c _ => some (t, c)
  | .tadd t c _ _ _ => some (t, c)
  | .swap t c _ _ _ => some (t, c)
  | .kill t c _ _ => some (t, c)
  | .ld t c _ _ _ _ _ => some (t, c)
  | .st t c _ _ _ _ _ => some (t, c)
  | .ldv t c _ _ _ _ _ => some (t, c)
  | .stv t c _ _ _ _ _ => some (t, c)
  | .ldr t c _ _ _ _ _ => some (t, c)
  | .str t c _ _ _ _ _ => some (t, c)
  | .ldp t c _ _ _ _ _ => some (t, c)
  | .aadd t c _ _ _ _ _ => some (t, c)
  | .aswp t c _ _ _ _ _ => some (t, c)
  | .acas t c _ _ _ _ _ => some (t, c)
  | .aaddv t c _ _ _ _ _ => some (t, c)
  | .acasv t c _ _ _ _ _ => some (t, c)
  | .jmp t c _ _ => some (t, c)
  | .enq t c _ _ _ _ _ => some (t, c)
  | .tstat t c _ _ _ => some (t, c)
  | .fpush t c _ _ _ => some (t, c)
  | .ftry t c _ _ _ => some (t, c)
  | .flen t c _ _ => some (t, c)
  | .mpost t c _ _ _ => some (t, c)
  | .mrecv t c _ _ _ => some (t, c)
  | .mack t c _ _ _ => some (t, c)
  | .mstat t c _ _ => some (t, c)
  | .give t c _ _ _ => some (t, c)
  | .owner t c _ _ => some (t, c)
  | .waitk t c _ _ _ _ => some (t, c)
  | .waite t c _ _ _ _ => some (t, c)
  | .waitt t c _ _ _ => some (t, c)
  | .fpop t c _ _ _ _ => some (t, c)
  | .moveDramDram t c _ _ _ => some (t, c)
  | .moveDramVault t c _ _ _ => some (t, c)
  | .moveVaultDram t c _ _ _ => some (t, c)
  | .moveVaultVault t c _ _ _ => some (t, c)
  | .fillDram t c _ _ _ => some (t, c)
  | .fillVault t c _ _ _ => some (t, c)
  | .sumDram t c _ _ _ => some (t, c)
  | .sumVault t c _ _ _ => some (t, c)
  | .compose t c _ _ _ => some (t, c)
  | .draink t c _ _ => some (t, c)
  | .drainc t c _ _ => some (t, c)
  | _ => none

/-- The fields of a register lie within the word and share no bit. -/
def RegDef.apart (r : RegDef) : Bool :=
  r.fields.all (fun f => decide (f.lo ≤ f.hi) && decide (f.hi < 72)) &&
    decide (r.fields.Pairwise (fun f g => f.hi < g.lo ∨ g.hi < f.lo))

/-- What a field holds after a write of v (R14): RW and RWL take the bits written, W1C is cleared where a 1 is written, RO and
RC keep what they hold, WO keeps nothing. -/
def fieldAfter (f : FieldDef) (old v : Word) : Nat :=
  match f.acc with
  | .rw | .rwl => bits v f.hi f.lo
  | .w1c => bits (old &&& ~~~v) f.hi f.lo
  | .ro | .rc => bits old f.hi f.lo
  | .wo => 0

/-- A register's fields after a write of v, and every other register as before (R13, R14). -/
def FieldsWritten (s u : State) (a : Nat) (v : Word) : Prop :=
  (∀ r, regAt a = some r → ∀ f ∈ r.fields, bits (u.m.rd a) f.hi f.lo = fieldAfter f (s.m.rd a) v) ∧
    ∀ b, b ≠ a → u.m.rd b = s.m.rd b

/-- What a read of a register shows (R14, R20, R21): its fields in their places, WO fields and reserved bits zero, and zero
for an address of no register. -/
def Shows (s : State) (a : Nat) (v : Word) : Prop :=
  match regAt a with
  | some r => (∀ f ∈ r.fields, bits v f.hi f.lo = if f.acc = .wo then 0 else bits (s.m.rd a) f.hi f.lo) ∧
      ∀ i, i < 72 → (∀ f ∈ r.fields, i < f.lo ∨ f.hi < i) → v.getLsbD i = false
  | none => v = 0

/-- The blocks of the register space whose writes follow the field access codes alone: device identity 00h, decoding 04h and
DRAM 0Ah (chapters 1, 7 and 16). -/
def plainBlock (a : Nat) : Bool := a / 65536 == 0 || a / 65536 == 4 || a / 65536 == 0x0A

/-! ### What a device command does -/

/-- From s to u nothing changed but the registers of a list. -/
def OnlyRegs (s u : State) (l : List Nat) : Prop :=
  { u with m := { u.m with regs := s.m.regs } } = s ∧ ∀ a, a ∉ l → u.m.rd a = s.m.rd a

/-- The registers outside a list, the memories and the threads are as before. -/
def RegsBut (s u : State) (l : List Nat) : Prop :=
  (∀ a, a ∉ l → u.m.rd a = s.m.rd a) ∧ u.mem = s.mem ∧ u.m.threads = s.m.threads

/-- A DRAM word that no protection keeps from a writer, and that holds no pool's metadata (R92, R414, R480). -/
def Unguarded (s : State) (w : Writer) (a : Nat) : Prop :=
  s.m.progLocked w a = false ∧ s.m.recordLocked w a = false ∧ s.m.metaPool a = none

/-- The n DRAM words from a are those of a list, and every other word that is no pool's metadata is as before. -/
def Filled (s u : State) (a : Nat) (l : List Word) : Prop :=
  (∀ j, j < l.length → u.dram (a + j) = nthWord l j) ∧
    ∀ b, (b < a ∨ a + l.length ≤ b) → s.m.metaPool b = none → u.dram b = s.dram b

/-- What a cold reset leaves before the boot chain (R616, R627, R628): both memories as unwritten, every register at its reset
value but those of the battery domain, the supply strap and the cause, no thread, and the flash as before. -/
structure ColdState (s u : State) (last : Nat) : Prop where
  mem : u.mem = {}
  regs : ∀ a, a ∉ [CAL_CTRL_addr, CALENDAR_STATUS_addr, SUPPLY_STATUS_addr, BOOT_STATUS_addr] → u.m.rd a = regReset a
  battery : u.m.rd CAL_CTRL_addr = s.m.rd CAL_CTRL_addr ∧ u.m.rd CALENDAR_STATUS_addr = s.m.rd CALENDAR_STATUS_addr
  why : u.m.g BOOT_STATUS_LAST_RESET = last
  threads : u.m.threads = []
  flash : u.m.journal = s.m.journal
  queue : u.pending = s.pending

/-- The device after a reset and its boot chain (R623–R625): host-ready in RUN, with the governor in AUTO and service mode off;
or BOOT_FAIL, never host-ready, with FAULT_N low. No channel is loaded. -/
structure Booted (s u : State) (last : Nat) : Prop where
  why : u.m.g BOOT_STATUS_LAST_RESET = last
  ends : (u.m.hostReady = true ∧ u.m.g POWER_STATUS_STATE = 1 ∧ u.m.g GOV_CTRL_MODE = 1 ∧ u.m.on DMA_GLOBAL_SERVICE = false) ∨
    (u.m.hostReady = false ∧ u.m.on BOOT_STATUS_BOOT_FAIL = true ∧ u.m.g POWER_STATUS_STATE = 4 ∧ u.m.on FAULT_STATUS_FAULT_N_LOW = true)
  channels : ∀ t, t < 512 → (u.m.th t).st = .empty
  queue : u.pending = s.pending

/-- A gate of thread t returns (R229): W1 holds the status and the outcome, Z is set on DONE, and the program counter is as
before. -/
def GateEnds (s u : State) (t status outcome : Nat) : Prop :=
  (u.m.th t).rw 1 = Word.of (status + 256 * outcome) ∧ (u.m.th t).z = (status == 0) ∧ (u.m.th t).pc = (s.m.th t).pc

/-- No KILL command and no program exchange wait for the end of thread t's engine work (R173, R175). -/
def Steady (s : State) (t : Nat) : Prop := t < 512 → s.m.on (CHAN_STATUS_CMD_BUSY t) = false ∧ s.m.swapOf t = none

/-- The ticket of an entry has completed with a status, an engine instance and a result (R141). -/
def Finished (u : State) (e : QEntry) (status engine result : Nat) : Prop :=
  ∀ k ∈ (u.m.th e.t).tickets, k.word = e.ticket → k.done = some (completionWord status engine result)

/-- What a counter reads after one more count: wrapping, and saturating (R19). -/
def Dev.wrapped (m : Dev) (f : RF) : Nat := (m.g f + 1) % 2 ^ (f.hi + 1 - f.lo)
def Dev.counted (m : Dev) (f : RF) : Nat := min (m.g f + 1) f.max

/-- What of a number a field keeps. -/
def RF.keeps (f : RF) (v : Nat) : Nat := v % 2 ^ (f.hi + 1 - f.lo)

/-- What the command sent out, newest first, beyond what had been sent before. -/
def Sent (s u : State) (l : List Out) : Prop := u.m.out = l ++ s.m.out

end Sys2Proof.Machine
end

