-- ==== Sys2Proof/Certificates/Slice0/Obligations.lean ====
section
/-!
DEFINITION. Certificates/Slice0/Obligations.lean: the statements for the provers. A statement about commands of one shape says
of each, under conditions on the state and the operands alone, that it answers a next state, what that state holds, and what it
leaves as it was.
-/

open Sys2Proof Sys2Proof.Machine

/-! ### The whole block -/

/-- A step takes the command at the front of the queue and runs it on the state with the queue's rest. -/
def Obligations.StepRunsFrontCommand : Prop := ∀ (c : Instr) (r : List Instr) (s : State), s.pending = c :: r → step s = exec c { s with pending := r }

/-- With no command waiting the block idles: device time goes on by 1 ns and nothing else changes (log entry 4, the model's choice). -/
def Obligations.StepIdlesWithoutCommand : Prop :=
  ∀ s : State, s.pending = [] → step s = .next { s with m := { s.m with now := s.m.now + 1 } }

/-- The canonical form of the two memories holds at reset. -/
def Obligations.ResetIsSound : Prop := State.reset.sound

/-- Every step keeps the canonical form of the two memories. -/
def Obligations.StepKeepsSound : Prop := ∀ s t : State, s.sound → step s = .next t → t.sound

/-- Every command answers a next state, and leaves the queue of waiting commands as it was. -/
def Obligations.EveryCommandAnswers : Prop := ∀ (c : Instr) (s : State), ∃ t, exec c s = .next t ∧ t.pending = s.pending


/-! ### Word instructions -/

/-- The additions and subtractions of R119: result, Z, N, C and V, and nothing else (R89). The bitwise instructions, the minima
and maxima and the move of R119, bit by bit and as numbers. The shifts, the rotation and the two counts of R119; s is W[b][6:0].
-/
def Obligations.WordArithmeticAndLogicResults : Prop :=
   (∀ (s : State) (t : Nat) (c : BitVec 4) (d a b : BitVec 5), Ready s t c →
      let x := (s.m.th t).rw a
      let y := (s.m.th t).rw b
      let k := if (s.m.th t).c then 1 else 0
      let sum := fun (r : Word) (k : Nat) => flagsZN r ++
        [(39, decide (2 ^ 72 ≤ x.toNat + y.toNat + k)), (38, decide (r.toInt ≠ x.toInt + y.toInt + k))]
      let dif := fun (p q r : Word) (k : Nat) => flagsZN r ++
        [(39, decide (q.toNat + k ≤ p.toNat)), (38, decide (r.toInt ≠ p.toInt - q.toInt - k))]
      Computes (.add t c d a b) s t d (x + y) (sum (x + y) 0)
      ∧ Computes (.adc t c d a b) s t d (x + y + Word.of k) (sum (x + y + Word.of k) k)
      ∧ Computes (.sub t c d a b) s t d (x - y) (dif x y (x - y) 0)
      ∧ Computes (.sbc t c d a b) s t d (x - y - Word.of (1 - k)) (dif x y (x - y - Word.of (1 - k)) (1 - k))
      ∧ Computes (.cmp t c a b) s t 0 0 (dif x y (x - y) 0)
      ∧ Computes (.neg t c d a) s t d (0 - x) (dif 0 x (0 - x) 0))
 ∧
   ((∀ (s : State) (t : Nat) (c : BitVec 4) (d a b : BitVec 5), Ready s t c →
        let x := (s.m.th t).rw a
        let y := (s.m.th t).rw b
        let bitwise := fun (i : Instr) (f : Bool → Bool → Bool) => ∃ r : Word, Computes i s t d r (flagsZN r) ∧
          ∀ k, k < 72 → r.getLsbD k = f (x.getLsbD k) (y.getLsbD k)
        let least := fun (i : Instr) (f : Word → Int) => ∃ r : Word, Computes i s t d r [] ∧ (r = x ∨ r = y) ∧ f r ≤ f x ∧ f r ≤ f y
        let most := fun (i : Instr) (f : Word → Int) => ∃ r : Word, Computes i s t d r [] ∧ (r = x ∨ r = y) ∧ f x ≤ f r ∧ f y ≤ f r
        bitwise (.and t c d a b) (fun p q => p && q)
        ∧ bitwise (.or t c d a b) (fun p q => p || q)
        ∧ bitwise (.xor t c d a b) (fun p q => p != q)
        ∧ bitwise (.andn t c d a b) (fun p q => p && !q)
        ∧ bitwise (.not t c d a) (fun p _ => !p)
        ∧ Computes (.tst t c a b) s t 0 0 (flagsZN (x &&& y))
        ∧ least (.min t c d a b) BitVec.toInt
        ∧ most (.max t c d a b) BitVec.toInt
        ∧ least (.minu t c d a b) (fun w => w.toNat)
        ∧ most (.maxu t c d a b) (fun w => w.toNat)
        ∧ Computes (.mov t c d a) s t d x [])
    ∧ (∀ (s : State) (t : Nat) (c : BitVec 4) (d a b : BitVec 5), Ready s t c →
        let x := (s.m.th t).rw a
        let n := bits ((s.m.th t).rw b) 6 0
        (∃ r : Word, Computes (.shl t c d a b) s t d r (flagsZN r) ∧ r.toNat = x.toNat * 2 ^ n % 2 ^ 72)
        ∧ (∃ r : Word, Computes (.shr t c d a b) s t d r (flagsZN r) ∧ r.toNat = x.toNat / 2 ^ n)
        ∧ (∃ r : Word, Computes (.sar t c d a b) s t d r (flagsZN r) ∧ r.toInt = x.toInt / (2 ^ n : Nat))
        ∧ (∃ r : Word, Computes (.rol t c d a b) s t d r (flagsZN r) ∧ ∀ i, i < 72 → r.getLsbD ((i + n) % 72) = x.getLsbD i)
        ∧ (∃ k : Nat, Computes (.clz t c d a) s t d (Word.of k) (flagZ (Word.of k)) ∧ k ≤ 72 ∧ x.toNat < 2 ^ (72 - k) ∧
            (k < 72 → 2 ^ (71 - k) ≤ x.toNat))
        ∧ (∃ k : Nat, Computes (.popc t c d a) s t d (Word.of k) (flagZ (Word.of k)) ∧
            k = ((List.range 72).filter (fun i => x.getLsbD i)).length)))

/-- The multiplies and the divides of R120 and R121, with DIVIDE_ZERO on a zero divisor. -/
def Obligations.MultiplyDivideResults : Prop :=
  ∀ (s : State) (t : Nat) (c : BitVec 4) (d a b : BitVec 5), Ready s t c →
    let x := (s.m.th t).rw a
    let y := (s.m.th t).rw b
    (∃ r : Word, Computes (.mul t c d a b) s t d r (flagsZN r) ∧ r.toNat = x.toNat * y.toNat % 2 ^ 72)
    ∧ (∃ r : Word, Computes (.mulhu t c d a b) s t d r [] ∧ r.toNat = x.toNat * y.toNat / 2 ^ 72)
    ∧ (∃ r : Word, Computes (.mulhs t c d a b) s t d r [] ∧ r.toInt = x.toInt * y.toInt / (2 ^ 72 : Nat))
    ∧ (y ≠ 0 →
        (∃ r : Word, Computes (.divu t c d a b) s t d r [] ∧ r.toNat = x.toNat / y.toNat)
        ∧ (∃ (r : Word) (v : Bool), Computes (.divs t c d a b) s t d r [(38, v)] ∧
            (v = true ↔ x.toInt = -2 ^ 71 ∧ y.toInt = -1) ∧
            r.toInt = if v then -2 ^ 71 else x.toInt.tdiv y.toInt)
        ∧ (∃ r : Word, Computes (.remu t c d a b) s t d r [] ∧ r.toNat = x.toNat % y.toNat)
        ∧ (∃ r : Word, Computes (.rems t c d a b) s t d r [] ∧ r.toInt = x.toInt.tmod y.toInt))
    ∧ (y = 0 →
        Traps (.divu t c d a b) s t 0x0F (s.m.th t).pc ∧ Traps (.divs t c d a b) s t 0x0F (s.m.th t).pc
        ∧ Traps (.remu t c d a b) s t 0x0F (s.m.th t).pc ∧ Traps (.rems t c d a b) s t 0x0F (s.m.th t).pc)

/-- The arithmetic and logical immediates of R122, with imm sign-extended (R84). LDHI, the immediate shifts and the
bit-field instructions of R122 within their limits, and ILLEGAL_OPCODE outside them. -/
def Obligations.ImmediateResults : Prop :=
  (∀ (s : State) (t : Nat) (c : BitVec 4) (d a : BitVec 5) (imm : BitVec 48), Ready s t c →
      let x := (s.m.th t).rw a
      ∃ y : Word, y.toInt = imm.toInt ∧
        Computes (.addi t c d a imm) s t d (x + y) (flagsZN (x + y) ++
          [(39, decide (2 ^ 72 ≤ x.toNat + y.toNat)), (38, decide ((x + y).toInt ≠ x.toInt + imm.toInt))])
        ∧ Computes (.cmpi t c a imm) s t 0 0 (flagsZN (x - y) ++
          [(39, decide (y.toNat ≤ x.toNat)), (38, decide ((x - y).toInt ≠ x.toInt - imm.toInt))])
        ∧ Computes (.andi t c d a imm) s t d (x &&& y) (flagsZN (x &&& y))
        ∧ Computes (.ori t c d a imm) s t d (x ||| y) (flagsZN (x ||| y))
        ∧ Computes (.xori t c d a imm) s t d (x ^^^ y) (flagsZN (x ^^^ y))
        ∧ Computes (.ldi t c d imm) s t d y [])
  ∧ (∀ (s : State) (t : Nat) (c : BitVec 4) (d a : BitVec 5) (imm : BitVec 48), Ready s t c →
      let x := (s.m.th t).rw a
      let old := (s.m.th t).rw d
      let n := imm.toNat
      let pos := n % 128
      let width := n / 128
      (n < 2 ^ 24 → ∃ r : Word, Computes (.ldhi t c d imm) s t d r [] ∧ r.toNat = n * 2 ^ 48 + old.toNat % 2 ^ 48)
      ∧ (n < 72 →
          (∃ r : Word, Computes (.shli t c d a imm) s t d r (flagsZN r) ∧ r.toNat = x.toNat * 2 ^ n % 2 ^ 72)
          ∧ (∃ r : Word, Computes (.shri t c d a imm) s t d r (flagsZN r) ∧ r.toNat = x.toNat / 2 ^ n)
          ∧ (∃ r : Word, Computes (.sari t c d a imm) s t d r (flagsZN r) ∧ r.toInt = x.toInt / (2 ^ n : Nat)))
      ∧ (1 ≤ width → pos + width ≤ 72 →
          (∃ r : Word, Computes (.extu t c d a imm) s t d r [] ∧ r.toNat = x.toNat / 2 ^ pos % 2 ^ width)
          ∧ (∃ r : Word, Computes (.exts t c d a imm) s t d r [] ∧ ∀ i, i < 72 → r.getLsbD i = x.getLsbD (pos + min i (width - 1)))
          ∧ (∃ r : Word, Computes (.ins t c d a imm) s t d r [] ∧ ∀ i, i < 72 →
              r.getLsbD i = if pos ≤ i ∧ i < pos + width then x.getLsbD (i - pos) else old.getLsbD i))
      ∧ (2 ^ 24 ≤ n → Traps (.ldhi t c d imm) s t 0x01 (s.m.th t).pc)
      ∧ (72 ≤ n → Traps (.shli t c d a imm) s t 0x01 (s.m.th t).pc ∧ Traps (.shri t c d a imm) s t 0x01 (s.m.th t).pc
          ∧ Traps (.sari t c d a imm) s t 0x01 (s.m.th t).pc)
      ∧ (width = 0 ∨ 72 < pos + width → Traps (.extu t c d a imm) s t 0x01 (s.m.th t).pc
          ∧ Traps (.exts t c d a imm) s t 0x01 (s.m.th t).pc ∧ Traps (.ins t c d a imm) s t 0x01 (s.m.th t).pc))


/-! ### Packed lanes -/

/-- The six-pack instructions that give a lane for a lane (R123). The nine-pack instructions that give a lane for a lane (R123).
The sums and the lane compares of both packings, with the mask and the predicates P0 and P1 (R123, R124). -/
def Obligations.PackedLanesSumsAndCompares : Prop :=
   ((∀ (s : State) (t : Nat) (c : BitVec 4) (d a b : BitVec 5), Ready s t c →
        let x := fun k => laneOf 12 k ((s.m.th t).rw a)
        let y := fun k => laneOf 12 k ((s.m.th t).rw b)
        let n := bits ((s.m.th t).rw b) 3 0
        let lane := fun (i : Instr) (f : Nat → Nat) => ∃ r : Word, Computes i s t d r (flagZ r) ∧ ∀ k, k < 6 → laneOf 12 k r = f k
        lane (.s6add t c d a b) (fun k => (x k + y k) % 4096)
        ∧ lane (.s6adds t c d a b) (fun k => min 4095 (x k + y k))
        ∧ lane (.s6sub t c d a b) (fun k => (x k + 4096 - y k) % 4096)
        ∧ lane (.s6subs t c d a b) (fun k => x k - y k)
        ∧ lane (.s6avg t c d a b) (fun k => (x k + y k + 1) / 2)
        ∧ lane (.s6min t c d a b) (fun k => min (x k) (y k))
        ∧ lane (.s6max t c d a b) (fun k => max (x k) (y k))
        ∧ lane (.s6absd t c d a b) (fun k => max (x k) (y k) - min (x k) (y k))
        ∧ lane (.s6mulq t c d a b) (fun k => (x k * y k + 2048) / 4096)
        ∧ lane (.s6shrr t c d a b) (fun k => if n = 0 then x k else if 12 < n then 0 else (x k + 2 ^ (n - 1)) / 2 ^ n)
        ∧ lane (.s6shl t c d a b) (fun k => min 4095 (x k * 2 ^ n))
        ∧ lane (.s6bcast t c d a) (fun _ => x 0))
    ∧ (∀ (s : State) (t : Nat) (c : BitVec 4) (d a b : BitVec 5), Ready s t c →
        let x := fun k => laneOf 8 k ((s.m.th t).rw a)
        let y := fun k => laneOf 8 k ((s.m.th t).rw b)
        let n := bits ((s.m.th t).rw b) 3 0
        let lane := fun (i : Instr) (f : Nat → Nat) => ∃ r : Word, Computes i s t d r (flagZ r) ∧ ∀ k, k < 9 → laneOf 8 k r = f k
        lane (.n9add t c d a b) (fun k => (x k + y k) % 256)
        ∧ lane (.n9adds t c d a b) (fun k => min 255 (x k + y k))
        ∧ lane (.n9sub t c d a b) (fun k => (x k + 256 - y k) % 256)
        ∧ lane (.n9subs t c d a b) (fun k => x k - y k)
        ∧ lane (.n9avg t c d a b) (fun k => (x k + y k + 1) / 2)
        ∧ lane (.n9min t c d a b) (fun k => min (x k) (y k))
        ∧ lane (.n9max t c d a b) (fun k => max (x k) (y k))
        ∧ lane (.n9absd t c d a b) (fun k => max (x k) (y k) - min (x k) (y k))
        ∧ lane (.n9mulq t c d a b) (fun k => (x k * y k + 128) / 256)
        ∧ lane (.n9shrr t c d a b) (fun k => if n = 0 then x k else if 8 < n then 0 else (x k + 2 ^ (n - 1)) / 2 ^ n)
        ∧ lane (.n9shl t c d a b) (fun k => min 255 (x k * 2 ^ n))
        ∧ lane (.n9bcast t c d a) (fun _ => x 0)))
 ∧
   (∀ (s : State) (t : Nat) (c : BitVec 4) (d a b : BitVec 5), Ready s t c →
      let x := fun l k => laneOf l k ((s.m.th t).rw a)
      let y := fun l k => laneOf l k ((s.m.th t).rw b)
      let total := fun (i : Instr) (n : Nat) (f : Nat → Nat) => ∃ r : Word, Computes i s t d r (flagZ r) ∧
        r.toNat = ((List.range n).map f).sum
      let mask := fun (i : Instr) (n : Nat) (f : Nat → Bool) => ∃ r : Word,
        Computes i s t d r (flagZ r ++ [(34, (List.range n).all f), (35, (List.range n).any f)]) ∧
        ∀ k, k < 72 → r.getLsbD k = (decide (k < n) && f k)
      total (.s6sad t c d a b) 6 (fun k => max (x 12 k) (y 12 k) - min (x 12 k) (y 12 k))
      ∧ total (.s6hsum t c d a) 6 (fun k => x 12 k)
      ∧ total (.n9sad t c d a b) 9 (fun k => max (x 8 k) (y 8 k) - min (x 8 k) (y 8 k))
      ∧ total (.n9hsum t c d a) 9 (fun k => x 8 k)
      ∧ mask (.s6ceq t c d a b) 6 (fun k => x 12 k == y 12 k)
      ∧ mask (.s6cgt t c d a b) 6 (fun k => decide (y 12 k < x 12 k))
      ∧ mask (.n9ceq t c d a b) 9 (fun k => x 8 k == y 8 k)
      ∧ mask (.n9cgt t c d a b) 9 (fun k => decide (y 8 k < x 8 k)))

/-- The QUAD and CNV instructions, lane by lane (R125). -/
def Obligations.QuadAndConvertLanes : Prop :=
  ∀ (s : State) (t : Nat) (c : BitVec 4) (d a b : BitVec 5), Ready s t c →
    let va := (s.m.th t).rw a
    let vb := (s.m.th t).rw b
    let q := fun (w : Word) (k : Nat) => (BitVec.ofNat 18 (laneOf 18 k w)).toInt
    let sat := fun (v : Int) => max (-131072) (min 131071 v)
    let n := min 17 (bits vb 4 0)
    let quad := fun (i : Instr) (f : Nat → Int) => ∃ r : Word, Computes i s t d r (flagZ r) ∧ ∀ k, k < 4 → q r k = f k
    let lane := fun (i : Instr) (l m : Nat) (f : Nat → Nat) => ∃ r : Word, Computes i s t d r (flagZ r) ∧ ∀ k, k < m → laneOf l k r = f k
    quad (.q4adds t c d a b) (fun k => sat (q va k + q vb k))
    ∧ quad (.q4subs t c d a b) (fun k => sat (q va k - q vb k))
    ∧ quad (.q4shrr t c d a b) (fun k => if n = 0 then q va k else (q va k + (2 ^ (n - 1) : Nat)) / (2 ^ n : Nat))
    ∧ quad (.q4clipu t c d a b) (fun k => min (max (q va k) 0) (bits vb 11 0))
    ∧ lane (.cnv96 t c d a b) 8 9 (fun k => min 255 (if k < 6 then laneOf 12 k va else laneOf 12 (k - 6) vb))
    ∧ lane (.cnv69l t c d a) 12 6 (fun k => laneOf 8 k va)
    ∧ lane (.cnv69h t c d a) 12 6 (fun k => if k < 3 then laneOf 8 (k + 6) va else 0)
    ∧ lane (.cnvq6 t c d a b) 12 6 (fun k => (min (max (if k < 4 then q va k else q vb (k - 4)) 0) 4095).toNat)


/-! ### Issue, conditions, privilege, traps -/

/-- A thread that does not issue is left alone by an instruction command: its clerk is down, it is not READY, a long
instruction of it runs, or it is shed (R112, R113, R185). An instruction that is fetched and whose condition is false goes
on at the next address with no other effect, unless its word is illegal (R85, R88). A fetch outside the window, or of a
poisoned word, traps whatever the instruction is (R88, R91, R100). -/
def Obligations.IssueOutcomes : Prop :=
  (∀ (i : Instr) (t : Nat) (c : BitVec 4) (s : State), issuerOf i = some (t, c) → s.m.issues t = false → exec i s = .next s)
  ∧ (∀ (i : Instr) (t : Nat) (c : BitVec 4) (s : State), issuerOf i = some (t, c) → s.m.issues t = true → s.fetchTrap t = none →
      (s.m.th t).saved = none → s.m.microSound = true → (s.m.th t).cond c = false → (s.m.th t).step = false →
      Computes i s t 0 0 [] ∨ Traps i s t 0x01 (s.m.th t).pc)
  ∧ (∀ (i : Instr) (t : Nat) (c : BitVec 4) (s : State), issuerOf i = some (t, c) → s.m.issues t = true →
      let x := s.m.th t
      (x.priv = true → x.pc < 0x440 ∨ 0xFFFFF < x.pc → Traps i s t 0x07 x.pc)
      ∧ (x.priv = false → x.pc < s.m.g (CHAN_WINDOW_WIN_BASE t) ∨ s.m.g (CHAN_WINDOW_WIN_LIMIT t) < x.pc → Traps i s t 0x07 x.pc)
      ∧ (x.priv = true → 0x440 ≤ x.pc → x.pc ≤ 0xFFFFF → s.dramPoison (s.m.progAddr x.pc) = true → Traps i s t 0x08 x.pc))

/-- The microword at the entry point of an opcode (R187–R192, R200), with NOP, opcode 010h: what its check says; a microword that
fails it is repaired from the first clerk whose copy passes, and then executes or is a fault; with no copy the clerk fails; a
microcode fault isolates the thread. -/
def Obligations.MicrowordCheckResults : Prop :=
  (∀ w j : Nat, j < 8 → microPasses w = true → w.testBit (136 + j) = (List.range 17).foldl (fun b k => b ^^ w.testBit (8 * k + j)) false)
  ∧ (∀ (s : State) (t n : Nat) (c : BitVec 4), s.m.issues t = true → s.fetchTrap t = none →
      ((s.m.th t).inTrap = true ∨ (s.m.th t).saved = none) →
      let k := s.m.clerkOf t % 32
      let a := 0x010
      let copy := fun (j : Nat) => s.m.uword ((k + j) % 32) a
      let x := s.m.th t
      (microPasses (copy 0) = false → 0 < n → n < 32 → (∀ j, 0 < j → j < n → microPasses (copy j) = false) → microPasses (copy n) = true →
        microFaulty (copy n) = false → x.cond c = true → x.step = false → Answers (.nop t c) s (fun u =>
          u.m.uword k a = copy n ∧ u.m.g (UC_CLERK_RELOADS k) = min (s.m.g (UC_CLERK_RELOADS k) + 1) (2 ^ 16 - 1) ∧
          u.m.th t = { x with pc := nextPc x.pc } ∧ (∀ j, j ≠ t → u.m.th j = s.m.th j) ∧ u.mem = s.mem))
      ∧ ((∀ j, j < 32 → microPasses (copy j) = false) → Answers (.nop t c) s (fun u =>
          u.m.on (UC_CLERK_FAILED k) = true ∧ u.m.g (UC_CLERK_FAIL_UPC k) = a ∧ u.m.issues t = false ∧ (512 ≤ t ∨ (u.m.th t).st = .isolated)))
      ∧ (512 ≤ t → microPasses (copy 0) = true → microFaulty (copy 0) = true → s.m.escFree.isSome = true → Answers (.nop t c) s (fun u =>
          (u.m.th t).st = .isolated ∧ u.mem = s.mem ∧ u.m.on (UC_CLERK_UFAULT k) = true ∧ u.m.g (UC_CLERK_UFAULT_UPC k) = a ∧
          u.m.g DOLRY_DTRAP_FIRST_CAUSE = x.lastCause ∧ u.m.g DOLRY_DTRAP_SECOND_CAUSE = 0x3E)))

/-- Trap entry (R101, R102): a synchronous trap of a thread that is not in a trap, with a valid vector. BRK takes BREAK with the
next instruction as its return point (R102, R127). A trap in a trap handler, or one with an invalid vector, of a service context
is a double trap (R101, R105), here with an escalation entry free (R610): the thread is ISOLATED, DOLRY_DTRAP holds the event,
and the memories and every other thread are as before. -/
def Obligations.TrapEntryAndDoubleTrap : Prop :=
   ((∀ (s : State) (t cause ret pc : Nat), cause < 64 → (s.m.th t).inTrap = false →
        let e := s.dram (s.m.progAddr (0x400 + cause))
        s.dramPoison (s.m.progAddr (0x400 + cause)) = false → bits e 71 71 = 1 → 0x440 ≤ bits e 23 0 → bits e 23 0 ≤ 0xFFFFF →
        Entered s (s.trapTo t cause ret pc) t cause ret (bits e 23 0))
    ∧ (∀ (s : State) (t : Nat) (c : BitVec 4), Ready s t c → (s.m.th t).inTrap = false →
        let e := s.dram (s.m.progAddr 0x414)
        s.dramPoison (s.m.progAddr 0x414) = false → bits e 71 71 = 1 → 0x440 ≤ bits e 23 0 → bits e 23 0 ≤ 0xFFFFF →
        Answers (.brk t c) s (fun u => Entered s u t 0x14 (nextPc (s.m.th t).pc) (bits e 23 0))))
 ∧
   (∀ (s : State) (t cause ret pc : Nat), 512 ≤ t → t < 544 → cause < 64 → pc < 2 ^ 24 → (s.m.th t).st = .ready →
      s.m.escFree.isSome = true →
      ((s.m.th t).inTrap = true ∨ bits (s.dram (s.m.progAddr (0x400 + cause))) 71 71 = 0) →
      let u := s.trapTo t cause ret pc
      let first := if (s.m.th t).inTrap then (s.m.th t).lastCause else cause
      let second := if (s.m.th t).inTrap then cause else 0x3F
      (u.m.th t).st = .isolated ∧ u.mem = s.mem ∧ u.pending = s.pending
      ∧ bits (u.m.rd DOLRY_DTRAP_addr) 71 71 = 1 ∧ bits (u.m.rd DOLRY_DTRAP_addr) 52 47 = first
      ∧ bits (u.m.rd DOLRY_DTRAP_addr) 46 41 = second ∧ bits (u.m.rd DOLRY_DTRAP_addr) 40 17 = pc)

/-- At channel privilege a firmware-only instruction raises PRIV_INSTR (R99, R127, R133, R156). With TSW.STEP = 1 an
instruction that completes at channel privilege raises STEP, with the next instruction as its return point (R657); NOP shows
it. -/
def Obligations.PrivilegeAndStepTraps : Prop :=
  (∀ (s : State) (t : Nat) (c : BitVec 4) (d a b : BitVec 5) (scale : BitVec 3) (off : BitVec 40), Ready s t c →
      (s.m.th t).priv = false →
      Traps (.gret t c) s t 0x02 (s.m.th t).pc ∧ Traps (.tret t c) s t 0x02 (s.m.th t).pc
      ∧ (b.toNat ≤ 9 → Traps (.mfs t c d b) s t 0x02 (s.m.th t).pc) ∧ (b.toNat ≤ 5 → Traps (.mts t c a b) s t 0x02 (s.m.th t).pc)
      ∧ Traps (.swap t c d a b) s t 0x02 (s.m.th t).pc ∧ Traps (.kill t c d a) s t 0x02 (s.m.th t).pc
      ∧ Traps (.ldp t c d a b scale off) s t 0x02 (s.m.th t).pc ∧ Traps (.drainc t c d a) s t 0x02 (s.m.th t).pc)
  ∧ (∀ (s : State) (t : Nat) (c : BitVec 4), s.m.issues t = true → s.fetchTrap t = none → (s.m.th t).saved = none →
      s.m.microSound = true → (s.m.th t).priv = false → (s.m.th t).step = true →
      let x := s.m.th t
      exec (.nop t c) s = .next ({ s with m := s.m.setTh t { x with pc := nextPc x.pc } }.trapTo t 0x15 (nextPc x.pc) x.pc))


/-! ### Status, time, special registers, control -/

/-- RDTSW, WRTSW, CMPP, NOP and FENCE (R126, R127). -/
def Obligations.StatusAndSystemResults : Prop :=
  ∀ (s : State) (t : Nat) (c : BitVec 4) (d a b : BitVec 5) (func : BitVec 11), Ready s t c →
    let x := (s.m.th t).rw a
    let y := (s.m.th t).rw b
    let rel := func.toNat / 128
    let holds := if rel = 9 then decide (x = y) else if rel = 10 then decide (x ≠ y)
      else if rel = 11 then decide (x.toInt < y.toInt) else if rel = 12 then decide (y.toInt ≤ x.toInt)
      else if rel = 13 then decide (x.toNat < y.toNat) else decide (y.toNat ≤ x.toNat)
    Computes (.rdtsw t c d) s t d (s.m.th t).tsw []
    ∧ Computes (.wrtsw t c a) s t 0 0 (((List.range 9).map (fun i => (33 + i, x.getLsbD (33 + i)))) ++
        (if (s.m.th t).priv then [(32, x.getLsbD 32)] else []))
    ∧ (9 ≤ rel → rel ≤ 14 → func.toNat % 128 < 4 → Computes (.cmpp t c a b func) s t 0 0 [(34 + func.toNat % 4, holds)])
    ∧ (rel < 9 ∨ 14 < rel ∨ 4 ≤ func.toNat % 128 → Traps (.cmpp t c a b func) s t 0x01 (s.m.th t).pc)
    ∧ Computes (.nop t c) s t 0 0 []
    ∧ Computes (.fence t c) s t 0 0 []

/-- RDT, WRT, RDTIME and TADD (R12, R127, R129, R130). -/
def Obligations.TimeResults : Prop :=
  ∀ (s : State) (t : Nat) (c : BitVec 4) (d a b : BitVec 5), Ready s t c →
    let x := (s.m.th t).rw a
    let y := (s.m.th t).rw b
    let k := b.toNat
    (k < 4 → Computes (.rdt t c d b) s t d (s.m.timer t k) [])
    ∧ (4 ≤ k → Traps (.rdt t c d b) s t 0x01 (s.m.th t).pc ∧ Traps (.wrt t c d a b) s t 0x01 (s.m.th t).pc)
    ∧ (k < 4 → x ≠ 0 → 1000000000 ≤ bits x 29 0 → Computes (.wrt t c d a b) s t d 3 [])
    ∧ (k < 4 → x = 0 ∨ (bits x 29 0 < 1000000000 ∧ s.m.now < timeNs x) → Answers (.wrt t c d a b) s (fun u =>
        u.m.timer t k = x ∧ (∀ n j, j < 4 → ¬(n = t ∧ j = k) → u.m.timer n j = s.m.timer n j)
        ∧ Wrote { s with m := { s.m with timers := u.m.timers } } u t d 0 [] (nextPc (s.m.th t).pc)))
    ∧ (s.m.now < 2 ^ 42 * 1000000000 → ∃ r : Word, Computes (.rdtime t c d) s t d r [] ∧
        bits r 71 30 = s.m.now / 1000000000 ∧ bits r 29 0 = s.m.now % 1000000000)
    ∧ (∃ (r : Word) (v : Bool), Computes (.tadd t c d a b) s t d r [(38, v)] ∧
        if bits x 29 0 < 1000000000 ∧ timeNs x + y.toNat < 2 ^ 42 * 1000000000 then
          v = false ∧ timeNs r = timeNs x + y.toNat ∧ bits r 29 0 < 1000000000
        else v = true ∧ r = 0)

/-- MFS and MTS at firmware privilege (R128, R104). -/
def Obligations.SpecialRegisterAccess : Prop :=
  ∀ (s : State) (t : Nat) (c : BitVec 4) (d a b : BitVec 5), Ready s t c → (s.m.th t).priv = true →
    let th := s.m.th t
    let x := th.rw a
    let n := b.toNat
    let next := nextPc th.pc
    (n = 0 → Computes (.mfs t c d b) s t d th.glink [])
    ∧ (n = 1 → Computes (.mfs t c d b) s t d th.xlink [])
    ∧ (2 ≤ n → n ≤ 5 → Computes (.mfs t c d b) s t d (th.kreg (n - 2)) [])
    ∧ (6 ≤ n → n ≤ 9 → Computes (.mfs t c d b) s t d (th.ureg (n - 6)) [])
    ∧ (n = 0 → exec (.mts t c a b) s = .next { s with m := s.m.setTh t { th with glink := x, pc := next } })
    ∧ (n = 1 → ∃ v : Word, exec (.mts t c a b) s = .next { s with m := s.m.setTh t { th with xlink := v, pc := next } } ∧
        bits v 71 48 = bits x 71 48 ∧ bits v 47 42 = bits th.xlink 47 42 ∧ bits v 41 32 = bits x 41 32 ∧
        bits v 31 0 = bits th.xlink 31 0)
    ∧ (2 ≤ n → n ≤ 5 → ∃ k, exec (.mts t c a b) s = .next { s with m := s.m.setTh t { th with k := k, pc := next } } ∧
        ∀ j, j < 4 → tget (fun _ => 0) k j = if j = n - 2 then x else th.kreg j)
    ∧ (10 ≤ n → Traps (.mfs t c d b) s t 0x01 th.pc) ∧ (6 ≤ n → Traps (.mts t c a b) s t 0x01 th.pc)

/-- JMP and JMPR: the link in W[d], and the target (R86, R127, R135). GATE: its checks in the order of R97, and its effect
(R98). GRET and TRET: what they load from the link word, where they go on, and SEQUENCE out of order (R98, R99, R104). -/
def Obligations.ControlTransfers : Prop :=
  (∀ (s : State) (t : Nat) (c : BitVec 4) (d a : BitVec 5) (target : BitVec 24), Ready s t c →
      let link := Word.of (((s.m.th t).pc + 1) % 2 ^ 24)
      Answers (.jmp t c d target) s (fun u => Wrote s u t d link [] target.toNat)
      ∧ Answers (.jmpr t c d a) s (fun u => Wrote s u t d link [] (bits ((s.m.th t).rw a) 23 0)))
  ∧ (∀ (s : State) (t : Nat) (c : BitVec 4) (imm : BitVec 48), Ready s t c → imm.toNat < 1024 →
      let th := s.m.th t
      let p := s.m.progAddr imm.toNat
      let e := if s.dramPoison p then (0 : Word) else s.dram p
      let target := bits e 23 0
      (th.priv = true → Traps (.gate t c imm) s t 0x06 th.pc)
      ∧ (th.priv = false → bits e 71 71 = 0 → Traps (.gate t c imm) s t 0x04 th.pc)
      ∧ (th.priv = false → bits e 71 71 = 1 → bits e (70 - th.cls) (70 - th.cls) = 0 ∨ s.gateBit t imm.toNat = false →
          Traps (.gate t c imm) s t 0x05 th.pc)
      ∧ (th.priv = false → bits e 71 71 = 1 → bits e (70 - th.cls) (70 - th.cls) = 1 → s.gateBit t imm.toNat = true →
          if 0x440 ≤ target ∧ target ≤ 0xFFFFF then
            Answers (.gate t c imm) s (fun u => ElseSame s u t ∧ (u.m.th t).pc = target
              ∧ StatusWritten s u t [(47, true), (44, true)]
              ∧ bits (u.m.th t).glink 71 48 = (th.pc + 1) % 2 ^ 24 ∧ bits (u.m.th t).glink 47 0 = bits th.tsw 47 0
              ∧ { u.m.th t with glink := th.glink, tsw := th.tsw, pc := th.pc } = th)
          else Traps (.gate t c imm) s t 0x04 th.pc))
  ∧ (∀ (s : State) (t : Nat) (c : BitVec 4), Ready s t c → (s.m.th t).priv = true →
      let th := s.m.th t
      let saved := fun (w : Word) (l : List Nat) => l.map (fun i => (i, w.getLsbD i))
      (th.inGate = true → th.inTrap = false → Answers (.gret t c) s (fun u =>
          Wrote s u t 0 0 (saved th.glink [33, 34, 35, 36, 37, 38, 39, 40, 41] ++ [(47, false), (44, false)]) (bits th.glink 71 48)))
      ∧ (th.inGate = false ∨ th.inTrap = true → Traps (.gret t c) s t 0x0D th.pc)
      ∧ (th.inTrap = true → Answers (.tret t c) s (fun u =>
          Wrote s u t 0 0 (saved th.xlink [32, 33, 34, 35, 36, 37, 38, 39, 40, 41, 42, 44, 47] ++ [(43, false)]) (bits th.xlink 71 48)))
      ∧ (th.inTrap = false → Traps (.tret t c) s t 0x0D th.pc))


/-! ### Memory -/

/-- The effective address of R93, and its form for ACAS and ACASV (R134). The loads of R133: LD, LDV and, at firmware privilege,
LDP; their traps in the order of R93; and the errors of a vault word (R457). The stores of R133: one word written, every other word as before, no register written;
and what the protections of R92 and R414 keep a store from. -/
def Obligations.LoadAndStoreResults : Prop :=
   ((∀ (x : Thread) (a b : BitVec 5) (scale : BitVec 3) (off : BitVec 40),
        ((x.ea a b scale off : Nat) : Int) = (((x.rw a).toNat : Int) + (x.rw b).toNat * 2 ^ scale.toNat + off.toInt) % 2 ^ 72
        ∧ ((x.eaCas a off : Nat) : Int) = (((x.rw a).toNat : Int) + off.toInt) % 2 ^ 72)
    ∧ (∀ (s : State) (t : Nat) (c : BitVec 4) (d a b : BitVec 5) (scale : BitVec 3) (off : BitVec 40), Ready s t c →
        let ad := (s.m.th t).ea a b scale off
        let p := s.m.progAddr ad
        let ld := Instr.ld t c d a b scale off
        let ldv := Instr.ldv t c d a b scale off
        let ldp := Instr.ldp t c d a b scale off
        let pc := (s.m.th t).pc
        (DramOpen s t ad → if s.dramPoison ad then Traps ld s t 0x0C pc else Computes ld s t d (s.dram ad) [])
        ∧ (¬ DramOpen s t ad → Traps ld s t 0x09 pc)
        ∧ (VaultOpen s t ad → s.vaultErr ad = 0 → if s.vaultPoison ad then Traps ldv s t 0x0C pc else Computes ldv s t d (s.vault ad) [])
        ∧ (VaultOpen s t ad → s.vaultErr ad = 1 → s.vaultPoison ad = false → Answers ldv s (fun u =>
            Wrote { s with mem := u.mem, m := { s.m with regs := u.m.regs } } u t d (s.vault ad) [] (nextPc pc) ∧ u.vaultErr ad = 0 ∧
            (∀ k, u.vault k = s.vault k) ∧ u.m.g VAULT_ERRORS_CE_COUNT = min (s.m.g VAULT_ERRORS_CE_COUNT + 1) (2 ^ 20 - 1)))
        ∧ (VaultOpen s t ad → 2 ≤ s.vaultErr ad → ∃ r : State, exec ldv s = .next (r.trapTo t 0x0E pc pc) ∧ r.mem = s.mem ∧
            r.m.threads = s.m.threads ∧ r.m.on VAULT_EVENTS_UE = true ∧ r.m.g VAULT_ERRORS_LAST_UE_BANK = ad / 32768 ∧
            r.m.g VAULT_ERRORS_LAST_UE_OFFSET = ad % 32768 ∧ r.m.g VAULT_ERRORS_UE_COUNT = min (s.m.g VAULT_ERRORS_UE_COUNT + 1) (2 ^ 12 - 1))
        ∧ (192 * 32768 ≤ ad → Traps ldv s t 0x0B pc)
        ∧ (ad < 192 * 32768 → ¬ VaultOpen s t ad → Traps ldv s t 0x0A pc)
        ∧ ((s.m.th t).priv = true → if s.dramPoison p then Traps ldp s t 0x0C pc else Computes ldp s t d (s.dram p) [])))
 ∧
   (∀ (s : State) (t : Nat) (c : BitVec 4) (d a b : BitVec 5) (scale : BitVec 3) (off : BitVec 40), Ready s t c →
      let ad := (s.m.th t).ea a b scale off
      let v := (s.m.th t).rw d
      let st := Instr.st t c d a b scale off
      let stv := Instr.stv t c d a b scale off
      let w := Writer.master (s.m.threadMaster t)
      (DramOpen s t ad → DramFree s t ad → SwapsDram st s t ad v 0 [])
      ∧ (DramOpen s t ad → s.m.progLocked w ad = true → Answers st s (fun u => u.mem = s.mem))
      ∧ (DramOpen s t ad → s.m.progLocked w ad = false → s.m.recordLocked w ad = true → Answers st s (fun u => u.mem = s.mem ∧
          u.m.g CAL_STATUS_WRITE_DROPS = (s.m.g CAL_STATUS_WRITE_DROPS + 1) % 2 ^ (CAL_STATUS_WRITE_DROPS.hi + 1 - CAL_STATUS_WRITE_DROPS.lo)))
      ∧ (¬ DramOpen s t ad → Traps st s t 0x09 (s.m.th t).pc)
      ∧ (VaultOpen s t ad → SwapsVault stv s t ad v 0 [])
      ∧ (192 * 32768 ≤ ad → Traps stv s t 0x0B (s.m.th t).pc)
      ∧ (ad < 192 * 32768 → ¬ VaultOpen s t ad → Traps stv s t 0x0A (s.m.th t).pc))

/-- The atomics of R134: the old word to W[d], the new word stored, and Z of a compare and swap. -/
def Obligations.AtomicResults : Prop :=
  ∀ (s : State) (t : Nat) (c : BitVec 4) (d a b : BitVec 5) (scale : BitVec 3) (off : BitVec 40), Ready s t c →
    let x := s.m.th t
    let ad := x.ea a b scale off
    let ca := x.eaCas a off
    (DramOpen s t ad → DramFree s t ad → s.dramPoison ad = false →
        SwapsDram (.aadd t c d a b scale off) s t ad (s.dram ad + x.rw d) d []
        ∧ SwapsDram (.aswp t c d a b scale off) s t ad (x.rw d) d [])
    ∧ (DramOpen s t ca → DramFree s t ca → s.dramPoison ca = false →
        if s.dram ca = x.rw d then SwapsDram (.acas t c d a b 0 off) s t ca (x.rw b) d [(41, true)]
        else Computes (.acas t c d a b 0 off) s t d (s.dram ca) [(41, false)])
    ∧ (VaultOpen s t ad → s.vaultErr ad = 0 → s.vaultPoison ad = false → SwapsVault (.aaddv t c d a b scale off) s t ad (s.vault ad + x.rw d) d [])
    ∧ (VaultOpen s t ca → s.vaultErr ca = 0 → s.vaultPoison ca = false →
        if s.vault ca = x.rw d then SwapsVault (.acasv t c d a b 0 off) s t ca (x.rw b) d [(41, true)]
        else Computes (.acasv t c d a b 0 off) s t d (s.vault ca) [(41, false)])
    ∧ (scale ≠ 0 → Traps (.acas t c d a b scale off) s t 0x01 x.pc ∧ Traps (.acasv t c d a b scale off) s t 0x01 x.pc)
    ∧ (¬ DramOpen s t ad → Traps (.aadd t c d a b scale off) s t 0x09 x.pc ∧ Traps (.aswp t c d a b scale off) s t 0x09 x.pc)
    ∧ (DramOpen s t ad → s.dramPoison ad = true →
        Traps (.aadd t c d a b scale off) s t 0x0C x.pc ∧ Traps (.aswp t c d a b scale off) s t 0x0C x.pc)


/-! ### Registers reached by a thread -/

/-- The fields of every register lie within its word and share no bit (R13, R45). -/
def Obligations.RegisterFieldsApart : Prop := ∀ (a : Nat) (r : RegDef), regAt a = some r → r.apart = true

/-- LDR and STR (R133): firmware in the plainly written blocks, a channel in words 20h–3Fh of its own block, the stores that
R174 ignores, and PRIV_REGISTER (R93, R94). -/
def Obligations.RegisterLoadStoreResults : Prop :=
  ∀ (s : State) (t : Nat) (c : BitVec 4) (d a b : BitVec 5) (scale : BitVec 3) (off : BitVec 40), Ready s t c → s.m.held = false →
    let x := s.m.th t
    let ad := x.ea a b scale off
    let ldr := Instr.ldr t c d a b scale off
    let str := Instr.str t c d a b scale off
    let own := t < 512 ∧ 0x020000 + 64 * t ≤ ad ∧ ad < 0x020040 + 64 * t
    let firm := x.priv = true ∧ plainBlock ad = true
    let mine := x.priv = false ∧ own ∧ 32 ≤ ad % 64
    (firm ∨ mine → (∀ r, regAt ad = some r → ∀ f ∈ r.fields, f.acc ≠ .rc) → ∃ v, Computes ldr s t d v [] ∧ Shows s ad v)
    ∧ (firm ∨ mine → s.m.regLocked ad = false → regAt ad ≠ none → Answers str s (fun u => FieldsWritten s u ad (x.rw d) ∧
        Wrote { s with m := { s.m with regs := u.m.regs } } u t 0 0 [] (nextPc x.pc)))
    ∧ (firm ∨ mine → s.m.regLocked ad = true ∨ regAt ad = none → Computes str s t 0 0 [])
    ∧ (x.priv = false → own → ad % 64 < 32 → Computes str s t 0 0 [])
    ∧ (2 ^ 24 ≤ ad ∨ (x.priv = false ∧ ¬ own) → Traps ldr s t 0x03 x.pc ∧ Traps str s t 0x03 x.pc)


/-! ### Queues, FIFOs, mailboxes, banks -/

/-- ENQ (R136, R139, R140): the ticket and the queued copy, its refusals, and its traps. TSTAT (R142, R146): PENDING, or the
completion collected, or TICKET_INVALID. The FIFO instructions on a FIFO of single words (R146, R488, R489): the word pushed
behind the others, FULL with an overrun, EMPTY, the count, and FIFO_DENIED. A pop takes the oldest item of the highest priority
that has one (R488). -/
def Obligations.QueueAndFifoInstructionResults : Prop :=
   ((∀ (s : State) (t : Nat) (c : BitVec 4) (d a : BitVec 5) (queue flags : BitVec 8) (len : BitVec 32), Ready s t c →
        1 ≤ len.toNat → len.toNat ≤ 64 → flags.toNat < 4 →
        let x := s.m.th t
        let q := queue.toNat
        let n := len.toNat
        let p := (x.rw a).toNat
        let cls := workClass q x.cls
        let i := Instr.enq t c d a queue flags len
        let inside := p + n ≤ s.m.capacity ∧ (x.priv = true ∨ s.owns t p n = true)
        (queueOpen q x.cls = true → inside → x.tickets.length < 64 → s.m.queueRoom q cls = true → s.anyPoison p n = false →
          Answers i s (fun u => ∃ w : Word,
            bits w 71 71 = 1 ∧ bits w 70 63 = q ∧ bits w 62 54 = bits x.tsw 25 17 ∧ bits w 53 49 = bits x.tsw 16 12 ∧
            bits w 48 45 = bits x.tsw 11 8 ∧ bits w 44 32 = 0 ∧ bits w 31 0 = x.serial % 2 ^ 32 ∧
            RegWritten s u t d w ∧ StatusWritten s u t [(41, false)] ∧ (u.m.th t).pc = nextPc x.pc ∧
            (u.m.th t).tickets = x.tickets ++ [Ticket.mk w none] ∧
            (u.m.th t).serial = (if x.serial = 0xFFFFFFFF then 1 else x.serial + 1) ∧
            (∃ e, u.m.queue q = s.m.queue q ++ [e] ∧ e.ticket = w ∧ e.t = t ∧ e.cls = cls ∧ e.flags = flags.toNat ∧
              e.block = s.drams p n) ∧
            (∀ k, k ≠ q → u.m.queue k = s.m.queue k) ∧ u.mem = s.mem ∧ u.m.regs = s.m.regs ∧ ∀ k, k ≠ t → u.m.th k = s.m.th k))
        ∧ (queueOpen q x.cls = true → inside → 64 ≤ x.tickets.length → Computes i s t d 7 [(41, true)])
        ∧ (queueOpen q x.cls = true → inside → x.tickets.length < 64 → s.m.queueRoom q cls = false → Computes i s t d 5 [(41, true)])
        ∧ (queueOpen q x.cls = true → inside → x.tickets.length < 64 → s.m.queueRoom q cls = true → s.anyPoison p n = true →
            Traps i s t 0x0C x.pc)
        ∧ (queueOpen q x.cls = false → Traps i s t 0x10 x.pc)
        ∧ (queueOpen q x.cls = true → ¬ inside → Traps i s t 0x09 x.pc))
    ∧ (∀ (s : State) (t : Nat) (c : BitVec 4) (d a b : BitVec 5), Ready s t c →
        let x := s.m.th t
        let w := x.rw a
        let i := Instr.tstat t c d a b
        ((w.getLsbD 71 = false ∨ ∀ k ∈ x.tickets, k.word ≠ w) → Traps i s t 0x11 x.pc)
        ∧ (∀ k, w.getLsbD 71 = true → x.tickets.find? (fun k => k.word == w) = some k →
            (k.done = none → Computes i s t d 9 [])
            ∧ (∀ v, k.done = some v → Answers i s (fun u => ElseSame s u t ∧
                (u.m.th t).tickets = x.tickets.filter (fun j => j.word != w) ∧ (u.m.th t).tsw = x.tsw ∧ (u.m.th t).pc = nextPc x.pc ∧
                ∀ r, (u.m.th t).rw r = if r = 0 then 0 else if r = d then 0 else if r = b then v else x.rw r)))))
 ∧
   ((∀ (s : State) (t : Nat) (c : BitVec 4) (d a b : BitVec 5), Ready s t c →
        let x := s.m.th t
        let f := bits (x.rw a) 5 0
        let q := bits (x.rw a) 10 8
        let o := s.m.fifo f
        (x.priv = true ∨ s.m.chanFifo f t = true → s.m.on (FIFO_CTRL_ENABLE f) = true → s.m.on (FIFO_CTRL_PACKET f) = false →
          (o.count < 256 → Answers (.fpush t c d a b) s (fun u => RegWritten s u t d 0 ∧ (u.m.th t).pc = nextPc x.pc ∧
            u.m.fifo f = { o with items := o.items ++ [(q, [x.rw b])] } ∧ (∀ g, g ≠ f → u.m.fifo g = s.m.fifo g) ∧ u.mem = s.mem))
          ∧ (256 ≤ o.count → Answers (.fpush t c d a b) s (fun u => RegWritten s u t d 5 ∧ (u.m.th t).pc = nextPc x.pc ∧
            u.m.fifos = s.m.fifos ∧ u.mem = s.mem)))
        ∧ (s.m.mayPop t f = true → (x.priv = true ∨ s.m.chanReads f t = true) →
          (∀ w l, o.cur = w :: l → Answers (.ftry t c d a b) s (fun u => u.m.fifo f = { o with cur := l } ∧ u.mem = s.mem ∧
            (u.m.th t).pc = nextPc x.pc ∧ ∀ r, (u.m.th t).rw r = if r = 0 then 0 else if r = d then 0 else if r = b then w else x.rw r))
          ∧ (o.cur = [] → o.items = [] → Computes (.ftry t c d a b) s t d 6 []))
        ∧ (s.m.mayPop t f = false → x.priv = true → Computes (.ftry t c d a b) s t d 8 [])
        ∧ (x.priv = true ∨ s.m.chanFifo f t = true → Computes (.flen t c d a) s t d (Word.of o.ready) [])
        ∧ (x.priv = false → s.m.chanFifo f t = false → Traps (.fpush t c d a b) s t 0x12 x.pc ∧ Traps (.flen t c d a) s t 0x12 x.pc)
        ∧ (x.priv = false → s.m.chanReads f t = false → Traps (.ftry t c d a b) s t 0x12 x.pc))
    ∧ (∀ (m : Dev) (f q : Nat) (w : Word) (pre post : List (Nat × List Word)), q < 8 →
        (∀ i ∈ pre, i.1 < q) → (∀ i ∈ post, i.1 ≤ q) → (m.fifo f).cur = [] →
        (m.fifo f).items = pre ++ (q, [w]) :: post →
        (m.fifoPop f).2 = some w ∧ ((m.fifoPop f).1.fifo f).items = pre ++ post))

/-- The mailbox instructions on a mailbox bound to the thread's cluster (R146, R526, R529–R531), and MAILBOX_DENIED. -/
def Obligations.MailboxInstructionResults : Prop :=
  ∀ (s : State) (t : Nat) (c : BitVec 4) (d a b : BitVec 5) (side : Bool), Ready s t c →
    let x := s.m.th t
    let k := bits (x.rw a) 5 0
    let mine := s.m.side k side
    let theirs := s.m.side k (!side)
    let went := fun (u : State) (r : Word) => RegWritten s u t d r ∧ (u.m.th t).pc = nextPc x.pc ∧ u.mem = s.mem
    (s.m.clusterSide t k = some side →
      (mine.slot = 0 → Answers (.mpost t c d a b) s (fun u => went u 0 ∧ (u.m.side k side).slot = 1 ∧
        (u.m.side k side).msg = x.rw b ∧ (u.m.side k side).ackValid = false ∧ u.m.side k (!side) = theirs))
      ∧ (mine.slot ≠ 0 → Answers (.mpost t c d a b) s (fun u => went u 5 ∧ u.m.mbx = s.m.mbx))
      ∧ (theirs.slot = 1 → Answers (.mrecv t c d a b) s (fun u => (u.m.side k (!side)).slot = 2 ∧ u.m.side k side = mine ∧
        u.mem = s.mem ∧ (u.m.th t).pc = nextPc x.pc ∧
        ∀ r, (u.m.th t).rw r = if r = 0 then 0 else if r = d then 0 else if r = b then theirs.msg else x.rw r))
      ∧ (theirs.slot ≠ 1 → Computes (.mrecv t c d a b) s t d 6 [])
      ∧ (theirs.slot = 2 → theirs.stale = false → Answers (.mack t c d a b) s (fun u => went u 0 ∧
        (u.m.side k (!side)).slot = 0 ∧ (u.m.side k (!side)).ackValid = true ∧ (u.m.side k (!side)).ackTaken = true ∧
        (u.m.side k (!side)).timeout = false ∧ (u.m.side k (!side)).ackCode = bits (x.rw b) 15 0 ∧ u.m.side k side = mine))
      ∧ (theirs.slot ≠ 2 → Computes (.mack t c d a b) s t d 6 [])
      ∧ (∃ r, Computes (.mstat t c d a) s t d r [] ∧ bits r 71 70 = mine.slot % 4 ∧ bits r 49 48 = theirs.slot % 4))
    ∧ (s.m.clusterSide t k = none → Traps (.mpost t c d a b) s t 0x13 x.pc ∧ Traps (.mrecv t c d a b) s t 0x13 x.pc
        ∧ Traps (.mack t c d a b) s t 0x13 x.pc ∧ Traps (.mstat t c d a) s t 0x13 x.pc)

/-- GIVE in the order of its checks, and OWNER (R146–R148). -/
def Obligations.BankInstructionResults : Prop :=
  ∀ (s : State) (t : Nat) (c : BitVec 4) (d a b : BitVec 5), Ready s t c →
    let x := s.m.th t
    let k := bits (x.rw a) 7 0
    let code := bits (x.rw b) 11 0
    let mine := s.m.g (VAULT_OWNER_OWNER k) = s.m.clusterOf t
    let give := Instr.give t c d a b
    let bad := ownerCode code = false ∨ ((code = 0x700 ∨ code = 0x800) ∧ x.priv = false)
    (k ≤ 191 → Computes (.owner t c d a) s t d (Word.of (s.m.g (VAULT_OWNER_OWNER k))) [])
    ∧ (191 < k → Traps give s t 0x0B x.pc ∧ Traps (.owner t c d a) s t 0x0B x.pc)
    ∧ (k ≤ 191 → ¬ mine → Traps give s t 0x0A x.pc)
    ∧ (k ≤ 191 → mine → bad → Computes give s t d 8 [])
    ∧ (k ≤ 191 → mine → ¬ bad → s.m.markedBy (s.m.clusterOf t) k = true → Computes give s t d 7 [])
    ∧ (k ≤ 191 → mine → ¬ bad → s.m.markedBy (s.m.clusterOf t) k = false → code ≠ s.m.clusterOf t → s.m.handoverBar k code ≠ 0 →
        Computes give s t d 8 [])
    ∧ (k ≤ 191 → mine → ¬ bad → s.m.markedBy (s.m.clusterOf t) k = false → s.m.handoverBar k code = 0 →
        Answers give s (fun u => u.m.g (VAULT_OWNER_OWNER k) = code ∧ (∀ j, j ≠ VAULT_OWNER_addr k → u.m.rd j = s.m.rd j) ∧
          Wrote { s with m := { s.m with regs := u.m.regs } } u t d 0 [] (nextPc x.pc)))


/-! ### Waits and long instructions -/

/-- A wait instruction whose condition does not hold and whose guard has not passed leaves its thread WAITING at the same
address; one that can end at once ends with its code (R110, R111, R143). -/
def Obligations.WaitStartResults : Prop :=
  ∀ (s : State) (t : Nat) (c : BitVec 4) (d a b : BitVec 5) (guard : BitVec 3), Ready s t c → guard = 0 ∨ 4 ≤ guard.toNat →
    let x := s.m.th t
    let w := x.rw a
    let f := bits w 5 0
    let past := s.m.guardPast t (if 4 ≤ guard.toNat then some (guard.toNat - 4) else none)
    let waits := fun (i : Instr) (kind : WaitKind) => Answers i s (fun u => ElseSame { s with m := { s.m with waitCtr := u.m.waitCtr } } u t ∧
      (u.m.th t).st = .waiting ∧ (u.m.th t).pc = x.pc ∧ ∃ v, (u.m.th t).wait = some v ∧ v.kind = kind ∧ v.operand = w ∧ v.d = d.toNat)
    (s.m.latchOf t &&& bits w 7 0 = 0 → past = false → waits (.waite t c d a b guard) .waite)
    ∧ (s.m.latchOf t &&& bits w 7 0 = 0 → past = true → Computes (.waite t c d a b guard) s t d 1 [])
    ∧ (s.m.latchOf t &&& bits w 7 0 ≠ 0 → Answers (.waite t c d a b guard) s (fun u => (u.m.th t).pc = nextPc x.pc ∧
        u.m.latchOf t = s.m.latchOf t &&& (255 - bits w 7 0) ∧ u.mem = s.mem ∧ ∀ r, (u.m.th t).rw r = if r = 0 then 0
          else if r = d then 0 else if r = b then Word.of (s.m.latchOf t &&& bits w 7 0) else x.rw r))
    ∧ (1000000000 ≤ bits w 29 0 → Computes (.waitt t c d a guard) s t d 3 [])
    ∧ (bits w 29 0 < 1000000000 → timeNs w < s.m.now → Computes (.waitt t c d a guard) s t d 4 [])
    ∧ (bits w 29 0 < 1000000000 → timeNs w = s.m.now → Computes (.waitt t c d a guard) s t d 0 [])
    ∧ (bits w 29 0 < 1000000000 → s.m.now < timeNs w → past = false → waits (.waitt t c d a guard) .waitt)
    ∧ (∀ k, w.getLsbD 71 = true → x.tickets.find? (fun k => k.word == w) = some k →
        (k.done = none → past = false → waits (.waitk t c d a b guard) .waitk)
        ∧ (∀ v, k.done = some v → Answers (.waitk t c d a b guard) s (fun u => ElseSame s u t ∧
            (u.m.th t).tickets = x.tickets.filter (fun j => j.word != w) ∧ (u.m.th t).pc = nextPc x.pc ∧
            ∀ r, (u.m.th t).rw r = if r = 0 then 0 else if r = d then 0 else if r = b then v else x.rw r)))
    ∧ (w.getLsbD 71 = false ∨ (∀ k ∈ x.tickets, k.word ≠ w) → Traps (.waitk t c d a b guard) s t 0x11 x.pc)
    ∧ ((x.priv = true ∨ s.m.chanReads f t = true) → (s.m.fifo f).ready = 0 → past = false → waits (.fpop t c d a b guard) .fpop)
    ∧ (x.priv = false → s.m.chanReads f t = false → Traps (.fpop t c d a b guard) s t 0x12 x.pc)

/-- The condition of a WAITT is met when device time reaches its deadline: the thread goes on with DONE (R110, R111). A
channel's asynchronous cause traps an open thread between instructions (R100, R103); with DEBUG_STOP the handler stops the
thread (R658). -/
def Obligations.BetweenInstructions : Prop :=
  (∀ (s : State) (t : Nat) (w : Wait), s.m.coreUp = true → t < 544 → (s.m.th t).wait = some w → w.kind = .waitt → w.d < 32 →
      (s.m.th t).step = false →
      Answers (.waitConditionMet t) s (fun u => timeNs w.operand ≤ u.m.now ∧ s.m.now ≤ u.m.now ∧ (u.m.th t).st = .ready ∧
        (u.m.th t).wait = none ∧ (u.m.th t).pc = nextPc (s.m.th t).pc ∧ RegWritten s u t (BitVec.ofNat 5 w.d) 0 ∧ u.mem = s.mem ∧
        ∀ k, k ≠ t → u.m.th k = s.m.th k))
  ∧ (∀ (s : State) (n cause : Nat), s.m.coreUp = true → n < 512 → s.m.asyncCause n = some cause → (s.m.th n).asyncOpen = true →
      s.m.swapFirst n = false → (s.m.th n).long = none →
      let e := s.dram (s.m.progAddr (0x400 + cause))
      s.dramPoison (s.m.progAddr (0x400 + cause)) = false → bits e 71 71 = 1 → 0x440 ≤ bits e 23 0 → bits e 23 0 ≤ 0xFFFFF →
      (cause ≠ 0x25 → Answers (.asyncTrap n) s (fun u => Entered s u n cause (s.m.th n).pc (bits e 23 0)))
      ∧ (cause = 0x25 → Answers (.asyncTrap n) s (fun u => (u.m.th n).st = .stopped ∧ (u.m.th n).stopReq = false ∧
          (u.m.th n).inTrap = true ∧ bits (u.m.th n).xlink 71 48 = (s.m.th n).pc % 2 ^ 24 ∧ u.mem = s.mem)))

/-- The long instructions start with their operands read once and nothing done (R149, R150, R152), or complete at once on a
count of zero. COMPOSE takes the layer's staging area and starts, or answers BUSY where the area is held (R154, R397), here
at firmware privilege. -/
def Obligations.LongStartResults : Prop :=
  (∀ (s : State) (t : Nat) (c : BitVec 4) (d a b : BitVec 5), Ready s t c →
      let x := s.m.th t
      let n := bits (x.rw b) 35 0
      let va := (x.rw a).toNat
      let vd := (x.rw d).toNat
      let dram := fun (p k : Nat) => s.m.dramExtent p k = true ∧ s.dramOwned t p k = true
      let vault := fun (p k : Nat) => vaultExtent p k = true ∧ s.m.vaultOwned t p k = true
      let starts := fun (i : Instr) (kind : LongKind) (src dst count : Nat) => Answers i s (fun u => (u.m.th t).pc = x.pc ∧
        ∃ l, (u.m.th t).long = some l ∧ l.kind = kind ∧ l.src = src ∧ l.dst = dst ∧ l.count = count ∧ l.done = 0 ∧ l.d = d.toNat)
      (n ≠ 0 → dram va n → dram vd n → starts (.moveDramDram t c d a b) .moveDD va vd n)
      ∧ (n ≠ 0 → dram va n → vault vd n → starts (.moveDramVault t c d a b) .moveDV va vd n)
      ∧ (n ≠ 0 → vault va n → dram vd n → starts (.moveVaultDram t c d a b) .moveVD va vd n)
      ∧ (n ≠ 0 → vault va n → vault vd n → starts (.moveVaultVault t c d a b) .moveVV va vd n)
      ∧ (n ≠ 0 → dram vd n → starts (.fillDram t c d a b) .fillD 0 vd n)
      ∧ (n ≠ 0 → vault vd n → starts (.fillVault t c d a b) .fillV 0 vd n)
      ∧ (n ≠ 0 → dram va n → starts (.sumDram t c d a b) .sumD va 0 n)
      ∧ (n ≠ 0 → vault va n → starts (.sumVault t c d a b) .sumV va 0 n)
      ∧ (n = 0 → Computes (.moveDramDram t c d a b) s t 0 0 [] ∧ Computes (.fillVault t c d a b) s t 0 0 []
          ∧ Computes (.sumDram t c d a b) s t d 0 [] ∧ Computes (.sumVault t c d a b) s t d 0 [])
      ∧ ((∀ k ∈ x.tickets, k.done ≠ none) → bits (x.rw a) 7 0 = 0xFF → Computes (.draink t c d a) s t d 0 [])
      ∧ (∀ l, l = (x.tickets.filter (fun k => k.done.isNone)).length → l ≠ 0 → bits (x.rw a) 7 0 = 0xFF →
          starts (.draink t c d a) .draink 0xFF 0 l)
      ∧ (x.priv = true → starts (.drainc t c d a) .drainc (bits (x.rw a) 8 0) 0 11))
  ∧ (∀ (s : State) (t : Nat) (c : BitVec 4) (d a b : BitVec 5), Ready s t c → (s.m.th t).priv = true →
      let x := s.m.th t
      let src := (x.rw a).toNat
      let len := bits (x.rw b) 11 0
      let w0 := s.dram src
      let l := bits w0 59 52
      len ≠ 0 → src + len ≤ s.m.capacity → s.dramPoison src = false →
      ((s.m.layer l).staging ≠ none → Computes (.compose t c d a b) s t d 7 [])
      ∧ ((s.m.layer l).staging = none → s.m.pendingFull l (bits w0 63 60) = true → Computes (.compose t c d a b) s t d 7 [])
      ∧ ((s.m.layer l).staging = none → s.m.pendingFull l (bits w0 63 60) = false → Answers (.compose t c d a b) s (fun u =>
          (u.m.layer l).staging = some t ∧ (u.m.th t).pc = x.pc ∧
          ∃ o, (u.m.th t).long = some o ∧ o.kind = .compose ∧ o.src = src ∧ o.count = len ∧ o.layer = l ∧ o.done = 0)))

/-- A progress step of a FILL of vault words writes up to 8 words and nothing else; the last one completes the instruction
(R149, R152, R153). The wait of a long instruction for a hold ends once the buffer can take one more (R152, R194). -/
def Obligations.LongProgressResults : Prop :=
  (∀ (s : State) (t : Nat) (l : LongOp), s.m.longRuns t = true → (s.m.th t).long = some l → l.kind = .fillV → l.todo = [] →
      l.holds = [] → l.done < l.count → (s.m.th t).step = false →
      let k := min 8 (l.count - l.done)
      let first := l.dst + l.done
      Answers (.longProgressStep t) s (fun u =>
        (∀ j, j < k → u.vault (first + j) = l.pattern)
        ∧ (∀ j, j < first ∨ first + k ≤ j → u.vault j = s.vault j) ∧ u.mem.dram = s.mem.dram ∧ u.m.regs = s.m.regs
        ∧ (∀ j, j ≠ t → u.m.th j = s.m.th j)
        ∧ if l.done + k = l.count then (u.m.th t).long = none ∧ (u.m.th t).pc = nextPc (s.m.th t).pc
          else (u.m.th t).long = some { l with done := l.done + k } ∧ (u.m.th t).pc = (s.m.th t).pc))
  ∧ (∀ (s : State) (t a : Nat) (l : LongOp), s.m.longRuns t = true → (s.m.th t).long = some l → l.todo = [a] →
      (s.holdFull a = false → Answers (.microwordWaitEnd t) s (fun u =>
        (u.m.th t).long = some { l with holds := l.holds ++ [a], todo := [] } ∧ u.mem = (s.hold a).mem))
      ∧ (s.holdFull a = true → Answers (.microwordWaitEnd t) s (fun u => (u.m.th t).long = some l ∧ u.mem = s.mem)))


/-! ### Channels -/

/-- A write of CHAN_CTRL (R157): an EMPTY channel takes the word, or MAP_CONFLICT; another takes SHED_RANK alone. A command
while another is under way is dropped and noted; a reserved code is refused (R173). The other commands of a channel: KILL,
STOP with its timeout, RESUME, CLEAR and UNSHED (R132, R173, R186, R658). -/
def Obligations.ChannelCommands : Prop :=
  (∀ (s : State) (mst n : Nat) (v : Word), n < 512 → s.m.mayWrite mst (CHAN_CTRL_addr n) = true →
      let conflict := bits v 69 69 = 1 ∧ ∃ k, k < 512 ∧ k ≠ n ∧ s.m.on (CHAN_CTRL_HOME_VALID k) = true ∧
        s.m.g (CHAN_CTRL_HOME_CLERK k) = bits v 68 64 ∧ s.m.g (CHAN_CTRL_HOME_SLOT k) = bits v 63 60
      ((s.m.th n).st = .empty → ¬ conflict → Answers (.chanCtrlWrite mst n v) s (fun u =>
          OnlyRegs s u [CHAN_CTRL_addr n, CHAN_STATUS_addr n] ∧ bits (u.m.rd (CHAN_CTRL_addr n)) 71 56 = bits v 71 56
          ∧ u.m.on (CHAN_STATUS_MAP_CONFLICT n) = false))
      ∧ ((s.m.th n).st = .empty → conflict → Answers (.chanCtrlWrite mst n v) s (fun u =>
          OnlyRegs s u [CHAN_STATUS_addr n] ∧ u.m.on (CHAN_STATUS_MAP_CONFLICT n) = true))
      ∧ ((s.m.th n).st ≠ .empty → Answers (.chanCtrlWrite mst n v) s (fun u => OnlyRegs s u [CHAN_CTRL_addr n]
          ∧ u.m.g (CHAN_CTRL_SHED_RANK n) = bits v 59 56 ∧ u.m.g (CHAN_CTRL_CLASS n) = s.m.g (CHAN_CTRL_CLASS n)
          ∧ u.m.g (CHAN_CTRL_HOME_CLERK n) = s.m.g (CHAN_CTRL_HOME_CLERK n))))
  ∧ (∀ (s : State) (mst n rec cmd : Nat), n < 512 → s.m.mayWrite mst (CHAN_CMD_addr n) = true →
      (s.m.on (CHAN_STATUS_CMD_BUSY n) = true →
        ∀ i, i ∈ [Instr.cmdLoad mst n rec, .cmdSwap mst n rec, .cmdKill mst n, .cmdStop mst n, .cmdResume mst n, .cmdClear mst n,
            .cmdUnshed mst n, .cmdReserved mst n cmd] →
          Answers i s (fun u => OnlyRegs s u [CHAN_STATUS_addr n] ∧ u.m.on (CHAN_STATUS_CMD_DROP n) = true
            ∧ u.m.g (CHAN_STATUS_CMD_RESULT n) = s.m.g (CHAN_STATUS_CMD_RESULT n)))
      ∧ (s.m.on (CHAN_STATUS_CMD_BUSY n) = false → Answers (.cmdReserved mst n cmd) s (fun u =>
          OnlyRegs s u [CHAN_STATUS_addr n] ∧ u.m.g (CHAN_STATUS_CMD_RESULT n) = 8)))
  ∧ (∀ (s : State) (mst n : Nat), n < 512 → s.m.mayWrite mst (CHAN_CMD_addr n) = true →
      let x := s.m.th n
      let ends := fun (u : State) (r : Nat) => u.m.on (CHAN_STATUS_CMD_BUSY n) = false ∧ u.m.g (CHAN_STATUS_CMD_RESULT n) = r
      (s.m.on (CHAN_STATUS_CMD_BUSY n) = false →
        (s.m.engineBusy n = false → Answers (.cmdKill mst n) s (fun u => ends u (if x.st = .empty then 6 else 0) ∧ (u.m.th n).st = .empty))
        ∧ (x.st = .ready ∨ x.st = .waiting → Answers (.cmdStop mst n) s (fun u => u.m.on (CHAN_STATUS_CMD_BUSY n) = true
            ∧ u.m.g (CHAN_CMD_CMD n) = 4 ∧ u.m.th n = { x with stopReq := true } ∧ tget (fun _ => 0) u.m.stopAt n = s.m.now + 1000000))
        ∧ (x.st ≠ .ready → x.st ≠ .waiting → Answers (.cmdStop mst n) s (fun u => ends u 8 ∧ u.m.th n = x))
        ∧ (x.st = .stopped → x.inTrap = true → Answers (.cmdResume mst n) s (fun u => ends u 0 ∧ (u.m.th n).st = .ready
            ∧ (u.m.th n).pc = bits x.xlink 71 48 ∧ (u.m.th n).inTrap = false ∧ (u.m.th n).priv = x.xlink.getLsbD 47))
        ∧ (x.st ≠ .stopped → x.stopReq = true → Answers (.cmdResume mst n) s (fun u => ends u 0 ∧ u.m.th n = { x with stopReq := false }))
        ∧ (x.st ≠ .stopped → x.stopReq = false → Answers (.cmdResume mst n) s (fun u => ends u 8 ∧ u.m.th n = x))
        ∧ (x.st = .isolated → Answers (.cmdClear mst n) s (fun u => ends u 0 ∧ (u.m.th n).st = .empty
            ∧ u.m.on (CHAN_STATUS_ADMITTED n) = false))
        ∧ (x.st ≠ .isolated → Answers (.cmdClear mst n) s (fun u => ends u 8 ∧ u.m.th n = x))
        ∧ (s.m.on (CHAN_STATUS_SHED n) = true → Answers (.cmdUnshed mst n) s (fun u => ends u 0 ∧ u.m.on (CHAN_STATUS_SHED n) = false
            ∧ u.m.th n = x))
        ∧ (s.m.on (CHAN_STATUS_SHED n) = false → Answers (.cmdUnshed mst n) s (fun u => ends u 8 ∧ u.m.th n = x)))
      ∧ (s.m.on (CHAN_STATUS_CMD_BUSY n) = true → s.m.g (CHAN_CMD_CMD n) = 4 → Answers (.stopTimeout n) s (fun u =>
          ends u (if x.stopReq then 9 else 8) ∧ tget (fun _ => 0) s.m.stopAt n ≤ u.m.now ∧ u.m.th n = x)))

/-- LOAD and SWAP commands (R171–R173, R175, R178): what an accepted one leaves, and the statuses of a refused one. -/
def Obligations.LoadAndSwapCommands : Prop :=
  ∀ (s : State) (mst n rec : Nat), n < 512 → s.m.mayWrite mst (CHAN_CMD_addr n) = true → s.m.on (CHAN_STATUS_CMD_BUSY n) = false →
    let cls := s.m.g (CHAN_CTRL_CLASS n)
    let st := (s.m.th n).st
    let limited := mst = 0 ∧ cls = 0 ∧ s.m.on HOST_ABI_KW40_MODE = true
    let ends := fun (u : State) (r : Nat) => u.m.on (CHAN_STATUS_CMD_BUSY n) = false ∧ u.m.g (CHAN_STATUS_CMD_RESULT n) = r ∧ u.mem = s.mem
    (st ≠ .empty → Answers (.cmdLoad mst n rec) s (fun u => ends u 7 ∧ u.m.th n = s.m.th n))
    ∧ (st = .empty → s.m.on (CHAN_CTRL_HOME_VALID n) = false ∨ cls = 3 ∨ s.m.on DMA_GLOBAL_SERVICE = true ∨ limited →
        Answers (.cmdLoad mst n rec) s (fun u => ends u 8 ∧ u.m.th n = s.m.th n))
    ∧ (∀ ws, st = .empty → s.m.on (CHAN_CTRL_HOME_VALID n) = true → cls ≠ 3 → s.m.on DMA_GLOBAL_SERVICE = false → ¬ limited →
        s.record rec = some ws → s.m.admitCheck (s.m.recordDemand n ws) 512 = (0, 0) →
        Answers (.cmdLoad mst n rec) s (fun u => ends u 0 ∧ (u.m.th n).st = .ready ∧ (u.m.th n).pc = bits (nthWord ws 1) 23 0
          ∧ bits (u.m.th n).tsw 46 45 = cls ∧ (u.m.th n).priv = false ∧ bits (u.m.th n).tsw 25 17 = n
          ∧ u.m.rd (CHAN_WINDOW_addr n) = nthWord ws 1 ∧ u.m.on (CHAN_STATUS_ADMITTED n) = true
          ∧ u.m.g (CHAN_GATES_GATE_LIST n) = bits (nthWord ws 2) 35 0))
    ∧ (st = .empty ∨ st = .isolated → Answers (.cmdSwap mst n rec) s (fun u => ends u 8 ∧ u.m.th n = s.m.th n))
    ∧ (st ≠ .empty → st ≠ .isolated → s.m.swapOf n ≠ none → Answers (.cmdSwap mst n rec) s (fun u => ends u 7 ∧ u.m.th n = s.m.th n
        ∧ u.m.swapOf n = s.m.swapOf n))
    ∧ (∀ ws, st ≠ .empty → st ≠ .isolated → s.m.swapOf n = none → ¬ limited → s.record rec = some ws → bits (nthWord ws 0) 57 57 = 1 →
        Answers (.cmdSwap mst n rec) s (fun u => ends u 0 ∧ u.m.th n = s.m.th n ∧ u.m.on (CHAN_STATUS_SWAP_PENDING n) = true
          ∧ ∃ w, u.m.swapOf n = some w ∧ w.ws = ws ∧ w.mode = bits (nthWord ws 0) 63 60 ∧ w.byCmd = true))

/-- A pending exchange takes effect at a wait (MODE 0h), at a boundary once SWAP_LIMIT has passed, or when EFFECT_TIME is
reached (R175–R177): the thread starts at the record's entry at channel privilege. -/
def Obligations.ExchangeEffects : Prop :=
  ∀ (s : State) (n : Nat) (w : Swap), n < 512 → s.m.coreUp = true → s.m.swapOf n = some w → (s.m.th n).priv = false →
    (s.m.th n).long = none → (s.m.th n).saved = none →
    let x := s.m.th n
    let keep := bits (nthWord w.ws 0) 59 59 = 1
    let swapped := fun (u : State) (how : Nat) => (u.m.th n).st = .ready ∧ (u.m.th n).pc = bits (nthWord w.ws 1) 23 0
      ∧ (u.m.th n).priv = false ∧ (u.m.th n).ie = false ∧ (u.m.th n).wait = none ∧ (u.m.th n).tickets = x.tickets
      ∧ (keep → ∀ r, (∀ k, x.wait = some k → r ≠ BitVec.ofNat 5 k.d) → (u.m.th n).rw r = x.rw r)
      ∧ (¬ keep → ∀ r, (u.m.th n).rw r = 0)
      ∧ u.m.swapOf n = none ∧ u.m.on (CHAN_STATUS_SWAP_PENDING n) = false ∧ u.m.g (CHAN_SWAP_STATUS_HOW n) = how
      ∧ u.m.g (CHAN_SWAP_STATUS_OLD_PC n) = x.pc % 2 ^ 24 ∧ u.m.rd (CHAN_WINDOW_addr n) = nthWord w.ws 1
    (x.st = .waiting → w.mode = 0 → Answers (.exchangeEffect n) s (fun u => swapped u 0))
    ∧ (x.st = .ready → w.mode = 0 → Answers (.swapLimitExpiry n) s (fun u => swapped u 2 ∧ w.at_ns ≤ u.m.now))
    ∧ (x.st = .ready ∨ x.st = .waiting → w.mode = 1 → Answers (.effectTimeReached n) s (fun u => swapped u 1 ∧ w.at_ns ≤ u.m.now))

/-- SWAP and KILL at firmware privilege (R131, R132): their statuses, and what DONE leaves. -/
def Obligations.SwapAndKillInstructions : Prop :=
  ∀ (s : State) (t : Nat) (c : BitVec 4) (d a b : BitVec 5), Ready s t c → (s.m.th t).priv = true →
    let x := s.m.th t
    let n := bits (x.rw a) 8 0
    let at36 := bits (x.rw b) 35 0
    let y := s.m.th n
    (y.st = .empty ∨ y.st = .isolated → Computes (.swap t c d a b) s t d 8 [])
    ∧ (y.st ≠ .empty → y.st ≠ .isolated → s.m.swapOf n ≠ none → Computes (.swap t c d a b) s t d 7 [])
    ∧ (∀ ws, y.st ≠ .empty → y.st ≠ .isolated → s.m.swapOf n = none → s.record at36 = some ws → bits (nthWord ws 0) 57 57 = 1 →
        Answers (.swap t c d a b) s (fun u => RegWritten s u t d 0 ∧ (u.m.th t).pc = nextPc x.pc ∧ u.mem = s.mem
          ∧ u.m.on (CHAN_STATUS_SWAP_PENDING n) = true ∧ (∃ w, u.m.swapOf n = some w ∧ w.ws = ws ∧ w.byCmd = false)
          ∧ ∀ k, k ≠ t → u.m.th k = s.m.th k))
    ∧ (y.st = .empty → Computes (.kill t c d a) s t d 6 [])
    ∧ (y.st ≠ .empty → n = t → Computes (.kill t c d a) s t d 8 [])
    ∧ (y.st ≠ .empty → n ≠ t → y.tickets.any (fun k => k.done.isNone) = true → Computes (.kill t c d a) s t d 7 [])
    ∧ (y.st ≠ .empty → n ≠ t → y.tickets.any (fun k => k.done.isNone) = false →
        Answers (.kill t c d a) s (fun u => RegWritten s u t d 0 ∧ (u.m.th t).pc = nextPc x.pc ∧ (u.m.th n).st = .empty
          ∧ (u.m.th n).tickets = [] ∧ u.m.on (CHAN_STATUS_ADMITTED n) = false))

/-- Windows, timers and the schedule table (R161, R164, R179, R182–R184). -/
def Obligations.ChannelTimeEvents : Prop :=
  ∀ (s : State) (mst n k c used load live : Nat) (v : Word), n < 512 → k < 4 → c < 32 →
    (s.m.on (CHAN_STATUS_ADMITTED n) = false ∨ s.m.g (CHAN_CTRL_CLASS n) ≠ 0 → Answers (.liveIssueWindow n used) s (fun u =>
      OnlyRegs s u [CHAN_USAGE_addr n] ∧ u.m.g (CHAN_USAGE_ISSUE_NS n) = (s.m.g (CHAN_USAGE_ISSUE_NS n) + used) % 2 ^ 72))
    ∧ (s.m.liveFalseReason n = none → Answers (.liveGuaranteeRestore n) s (fun u =>
        u.m.on (CHAN_STATUS_LIVE_GUARANTEE n) = true ∧ u.m.g (CHAN_STATUS_SUSPEND_REASON n) = 0 ∧ u.mem = s.mem))
    ∧ (s.m.timer n k ≠ 0 → (s.m.th n).wait = none → Answers (.timerExpiry n k) s (fun u => timeNs (s.m.timer n k) ≤ u.m.now
        ∧ u.m.on (CHAN_TIMER_CTRL_EXP n k) = true ∧ (s.m.g (CHAN_TIMER_CTRL_PERIOD n k) = 0 → u.m.timer n k = 0)
        ∧ u.m.th n = s.m.th n ∧ u.mem = s.mem))
    ∧ (s.m.mayWrite mst SCHED_CTRL_addr = true → s.m.on SCHED_CTRL_ENABLE = false → Answers (.schedEnable mst v) s (fun u =>
        OnlyRegs s u [SCHED_CTRL_addr, SCHED_STATUS_addr] ∧ u.m.g SCHED_CTRL_TABLE_BASE = bits v 71 36
        ∧ u.m.g SCHED_CTRL_ENTRIES = bits v 35 23 ∧ u.m.g SCHED_CTRL_ENABLE = bits v 22 22
        ∧ (bits v 22 22 = 1 → u.m.g SCHED_STATUS_NEXT_INDEX = 0 ∧ u.m.on SCHED_STATUS_EXHAUSTED = false)))
    ∧ (s.m.mayWrite mst SCHED_CTRL_addr = true → s.m.on SCHED_CTRL_ENABLE = true → Answers (.schedEnable mst v) s (fun u =>
        OnlyRegs s u [SCHED_CTRL_addr] ∧ u.m.g SCHED_CTRL_TABLE_BASE = s.m.g SCHED_CTRL_TABLE_BASE
        ∧ u.m.g SCHED_CTRL_ENTRIES = s.m.g SCHED_CTRL_ENTRIES ∧ u.m.g SCHED_CTRL_ENABLE = bits v 22 22))
    ∧ (s.m.coreUp = true → s.m.on SCHED_CTRL_ENABLE = true → s.m.on SCHED_STATUS_EXHAUSTED = false → s.schedNext = none →
        Answers .schedEntryDue s (fun u => OnlyRegs s u [SCHED_STATUS_addr] ∧ u.m.on SCHED_STATUS_EXHAUSTED = true))
    ∧ (∀ i w0 w1, s.m.coreUp = true → s.m.on SCHED_CTRL_ENABLE = true → s.m.on SCHED_STATUS_EXHAUSTED = false → s.schedNext = some i →
        w0 = s.dram (s.m.g SCHED_CTRL_TABLE_BASE + 2 * i) → w1 = s.dram (s.m.g SCHED_CTRL_TABLE_BASE + 2 * i + 1) →
        timeOk w0 = true → s.m.now ≤ timeNs w0 → bits w1 70 68 = 2 → Answers .schedEntryDue s (fun u =>
          u.m.g (CHAN_GATES_GATE_LIST (bits w1 67 59)) = bits w1 58 23 ∧ Nat.testBit (u.m.latchOf (bits w1 67 59)) 6 = true
          ∧ u.m.g SCHED_STATUS_NEXT_INDEX = (i + 1) % 4096 ∧ timeNs w0 ≤ u.m.now))
    ∧ (s.m.coreUp = true → Answers (.loadWindow c load live) s (fun u => u.m.g (CLERK_LOAD_LOAD c) = load % 2 ^ 10
        ∧ u.m.g (CLERK_LOAD_LIVE_LOAD c) = live % 2 ^ 10 ∧ u.mem = s.mem))


/-! ### Pools and FIFOs -/

/-- A pool is enabled, initialised and disabled (R478). Takes, returns, passes and RECLAIM by the host, and the end of a
hold (R479–R486); buffer k of pool p is named by its handle. -/
def Obligations.PoolCommands : Prop :=
  (∀ (s : State) (mst p upTo : Nat) (v : Word), p < 16 →
      let cfg := (((s.m.p (POOL_CFG_A_BASE p) (bits v 71 36)).p (POOL_CFG_A_CLASS p) (bits v 35 33)).p
        (POOL_CFG_A_FALLBACK p) (bits v 32 29)).p (POOL_CFG_A_FB_EN p) (bits v 28 28)
      (s.m.mayWrite mst (POOL_CFG_A_addr p) = true →
        (s.m.on (POOL_CFG_A_ENABLE p) = false → bits v 27 27 = 1 → Answers (.poolEnable mst p v) s (fun u =>
          u.m.g (POOL_CFG_A_BASE p) = bits v 71 36 ∧ u.m.g (POOL_CFG_A_CLASS p) = bits v 35 33 ∧
          RegsBut s u [POOL_CFG_A_addr p, POOL_STATUS_addr p] ∧
          (cfg.poolCheck p = 0 → u.m.on (POOL_CFG_A_ENABLE p) = true ∧ u.m.g (POOL_STATUS_STATE p) = 1 ∧ u.m.g (POOL_STATUS_FREE p) = 0
            ∧ u.m.ring p = [])
          ∧ (cfg.poolCheck p ≠ 0 → u.m.on (POOL_CFG_A_ENABLE p) = false ∧ u.m.g (POOL_STATUS_STATE p) = 3
            ∧ u.m.g (POOL_STATUS_REASON p) = cfg.poolCheck p)))
        ∧ (s.m.on (POOL_CFG_A_ENABLE p) = true → bits v 27 27 = 0 → s.m.g (POOL_STATUS_FREE p) = s.m.g (POOL_CFG_B_COUNT p) →
          Answers (.poolDisable mst p v) s (fun u => u.m.on (POOL_CFG_A_ENABLE p) = false ∧ u.m.g (POOL_STATUS_STATE p) = 0
            ∧ RegsBut s u [POOL_CFG_A_addr p, POOL_STATUS_addr p]))
        ∧ (s.m.on (POOL_CFG_A_ENABLE p) = true → bits v 27 27 = 0 → s.m.g (POOL_STATUS_FREE p) ≠ s.m.g (POOL_CFG_B_COUNT p) →
          exec (.poolDisable mst p v) s = .next s))
      ∧ (s.m.g (POOL_STATUS_STATE p) = 1 → tget (fun _ => 0) s.m.poolPlaced p = 0 → s.m.ring p = [] → s.m.g (POOL_STATUS_FREE p) = 0 →
          0 < s.m.g (POOL_CFG_B_COUNT p) → s.m.g (POOL_CFG_B_COUNT p) ≤ upTo → Answers (.poolInitDone p upTo) s (fun u =>
            u.m.g (POOL_STATUS_STATE p) = 2 ∧ u.m.g (POOL_STATUS_FREE p) = s.m.g (POOL_CFG_B_COUNT p)
            ∧ u.m.ring p = [(0, s.m.g (POOL_CFG_B_COUNT p) - 1)] ∧ u.m.threads = s.m.threads)))
  ∧ (∀ (s : State) (mst p k lo hi : Nat) (l : List (Nat × Nat)) (v : Word), p < 16 →
      let ready := s.m.g (POOL_STATUS_STATE p) = 2 ∧ smem s.m.poolUndef p = false
      let open_ := fun (a : Nat) => s.m.progLocked .poolManager a = false ∧ s.m.recordLocked .poolManager a = false
      let h := s.m.g POOL_HOST_HANDLE_HANDLE
      let rec_ := s.buf p k
      (s.m.mayRead mst (POOL_TAKE_addr p) = true → ready → s.m.ring p = (lo, hi) :: l → open_ (s.m.poolMeta p + lo) →
        Answers (.poolTake mst p) s (fun u => u.m.out = .readData mst (POOL_TAKE_addr p) (s.m.handle p lo (s.buf p lo).gen) :: s.m.out
          ∧ u.m.g (POOL_STATUS_FREE p) = (s.m.g (POOL_STATUS_FREE p) - 1) % 2 ^ 26
          ∧ u.m.ring p = (if lo < hi then (lo + 1, hi) :: l else l)
          ∧ u.dram (s.m.poolMeta p + lo) = bufWord { s.buf p lo with st := 1, owner := ownerOf mst }
          ∧ ∀ a, a ≠ s.m.poolMeta p + lo → u.dram a = s.dram a))
      ∧ (s.m.mayRead mst (POOL_TAKE_addr p) = true → s.m.g (POOL_STATUS_STATE p) = 2 → s.m.ring p = [] →
          s.m.on (POOL_CFG_A_FB_EN p) = false → Answers (.poolTake mst p) s (fun u =>
            u.m.g (POOL_COUNTS_EMPTIES p) = (s.m.g (POOL_COUNTS_EMPTIES p) + 1) % 2 ^ 16
            ∧ u.m.out.head? = some (.readData mst (POOL_TAKE_addr p) 0) ∧ u.mem = s.mem))
      ∧ (s.m.mayWrite mst POOL_HOST_CMD_addr = true → s.m.on POOL_HOST_STATUS_BUSY = false →
          (bits v 71 70 = 1 → bits (Word.of h) 35 32 = p → s.putCheck (Word.of h) (ownerOf mst) none = (0, k) → rec_.holds = 0 →
            open_ (s.m.poolMeta p + k) → Answers (.poolHostPut mst v) s (fun u => u.m.g POOL_HOST_STATUS_RESULT = 0
              ∧ u.dram (s.m.poolMeta p + k) = bufWord ⟨0, 0x3FF, 0, rec_.gen + 1⟩ ∧ u.m.ring p = s.m.ring p ++ [(k, k)]
              ∧ u.m.g (POOL_STATUS_FREE p) = (s.m.g (POOL_STATUS_FREE p) + 1) % 2 ^ 26
              ∧ ∀ a, a ≠ s.m.poolMeta p + k → u.dram a = s.dram a))
          ∧ (∀ r, bits v 71 70 = 1 → (s.putCheck (Word.of h) (ownerOf mst) none).1 = r → r ≠ 0 → Answers (.poolHostPut mst v) s (fun u =>
              u.m.g POOL_HOST_STATUS_RESULT = 8 ∧ u.m.g POOL_HOST_STATUS_REASON = r % 16 ∧ u.m.g POOL_BAD_REASON = r % 16 ∧ u.mem = s.mem))
          ∧ (bits v 71 70 = 2 → bits (Word.of h) 35 32 = p → s.putCheck (Word.of h) (ownerOf mst) (some (bits v 69 60)) = (0, k) →
              open_ (s.m.poolMeta p + k) → Answers (.poolHostPass mst v) s (fun u => u.m.g POOL_HOST_STATUS_RESULT = 0
                ∧ u.dram (s.m.poolMeta p + k) = bufWord { rec_ with owner := bits v 69 60 }
                ∧ (∀ a, a ≠ s.m.poolMeta p + k → u.dram a = s.dram a) ∧ RegsBut { s with mem := u.mem } u [POOL_HOST_STATUS_addr]))
          ∧ (bits v 71 70 = 3 → (s.m.th (bits v 59 51)).st = .empty → Answers (.reclaim mst v) s (fun u =>
              u.m.on POOL_HOST_STATUS_BUSY = true ∧ u.m.reclaim = some (bits v 59 51) ∧ RegsBut s u [POOL_HOST_STATUS_addr]))
          ∧ (bits v 71 70 = 3 → (s.m.th (bits v 59 51)).st ≠ .empty → Answers (.reclaim mst v) s (fun u =>
              OnlyRegs s u [POOL_HOST_STATUS_addr] ∧ u.m.g POOL_HOST_STATUS_RESULT = 8)))
      ∧ (∀ n, s.m.reclaim = some n → (∀ q, q < 16 → s.takenBy q n = []) → Answers .reclaimDone s (fun u =>
          u.m.on POOL_HOST_STATUS_BUSY = false ∧ u.m.g POOL_HOST_STATUS_RESULT = 0 ∧ u.m.reclaim = none
          ∧ RegsBut s u [POOL_HOST_STATUS_addr]))
      ∧ (s.m.on (POOL_CFG_A_ENABLE p) = true → k < s.m.g (POOL_CFG_B_COUNT p) → rec_.st = 2 → rec_.holds = 1 →
          open_ (s.m.poolMeta p + k) → Answers (.holdEnd p k) s (fun u =>
            u.dram (s.m.poolMeta p + k) = bufWord ⟨0, 0x3FF, 0, rec_.gen + 1⟩ ∧ u.m.ring p = s.m.ring p ++ [(k, k)]
            ∧ ∀ a, a ≠ s.m.poolMeta p + k → u.dram a = s.dram a)))

/-- The FIFO registers (R488–R492): pop, push, close, discard and flush. The pool and FIFO gates at firmware privilege (R481,
R483, R484, R490): W1 holds the status, Z is set on DONE. -/
def Obligations.FifoCommandsAndGates : Prop :=
   (∀ (s : State) (mst f q : Nat) (v : Word), f < 64 → q < 8 →
      let o := s.m.fifo f
      let z := bits v 71 69
      let keep := fun (u : State) => (∀ g, g ≠ f → u.m.fifo g = s.m.fifo g) ∧ u.mem = s.mem
      (s.m.mayRead mst (FIFO_POP_addr f) = true → s.m.popMaster mst f = true →
        (∀ w l, o.cur = w :: l → Answers (.fifoPop mst f) s (fun u => u.m.fifo f = { o with cur := l } ∧ keep u
          ∧ u.m.out.head? = some (.readData mst (FIFO_POP_addr f) w)))
        ∧ (o.cur = [] → o.items = [] → Answers (.fifoPop mst f) s (fun u => OnlyRegs { s with m := { s.m with out := u.m.out } } u [FIFO_COUNTS_addr f]
          ∧ u.m.out = .readData mst (FIFO_POP_addr f) 0 :: s.m.out
          ∧ u.m.g (FIFO_COUNTS_EMPTY_POPS f) = (s.m.g (FIFO_COUNTS_EMPTY_POPS f) + 1) % 2 ^ 16)))
      ∧ (s.m.mayWrite mst (FIFO_PUSH_addr f q) = true → s.m.on (FIFO_CTRL_ENABLE f) = true → s.m.on (FIFO_CTRL_PACKET f) = false →
          (o.count < 256 → Answers (.fifoPush mst f q v) s (fun u => u.m.fifo f = { o with items := o.items ++ [(q, [v])] } ∧ keep u))
          ∧ (256 ≤ o.count → Answers (.fifoPush mst f q v) s (fun u => u.m.fifos = s.m.fifos ∧ u.mem = s.mem
            ∧ u.m.g (FIFO_COUNTS_OVERRUNS f) = (s.m.g (FIFO_COUNTS_OVERRUNS f) + 1) % 2 ^ 24)))
      ∧ (s.m.mayWrite mst (FIFO_CLOSE_addr f) = true →
          (∀ k, o.pkt z = some k → k.broken = false → bits v 68 68 = 0 → Answers (.hostFifoClose mst f v) s (fun u => keep u
            ∧ (u.m.fifo f).pkt z = none ∧ ∃ w, (u.m.fifo f).items = o.items ++ [(z, w :: k.body)] ∧ bits w 71 68 = 1
            ∧ bits w 58 56 = z ∧ bits w 7 0 = k.body.length % 256))
          ∧ (bits v 68 68 = 1 → Answers (.fifoDiscard mst f v) s (fun u => (u.m.fifo f).pkt z = none ∧ (u.m.fifo f).items = o.items
            ∧ (∀ y, y ≠ z → (u.m.fifo f).pkt y = o.pkt y) ∧ keep u)))
      ∧ (s.m.mayWrite mst (FIFO_CTRL_addr f) = true → s.m.on (FIFO_CTRL_ENABLE f) = true → bits v 71 71 = 0 →
          Answers (.fifoFlush mst f v) s (fun u => u.m.fifo f = {} ∧ u.m.on (FIFO_CTRL_ENABLE f) = false ∧ keep u
            ∧ u.m.g (FIFO_COUNTS_FLUSHED f) = (s.m.g (FIFO_COUNTS_FLUSHED f) + o.count) % 2 ^ 16)))
 ∧
   (∀ (s : State) (t : Nat), s.m.gateRuns t = true →
      let x := s.m.th t
      let w2 := x.rw 2
      let ends := fun (u : State) (code : Nat) => (u.m.th t).rw 1 = Word.of code ∧ (u.m.th t).z = (code == 0) ∧ (u.m.th t).pc = x.pc
      Answers (.poolGet t) s (fun u => (u.m.th t).rw 2 = (s.poolTake (bits w2 3 0) (gateOwner t) (bits w2 4 4 == 1)).2
        ∧ ends u (if (u.m.th t).rw 2 = 0 then 6 else 0)
        ∧ u.mem = (s.poolTake (bits w2 3 0) (gateOwner t) (bits w2 4 4 == 1)).1.mem)
      ∧ (∀ r k, s.putCheck w2 (gateOwner t) none = (r, k) → Answers (.poolPut t) s (fun u => ends u (if r = 0 then 0 else 8)
          ∧ (r ≠ 0 → (u.m.th t).rw 3 = Word.of r ∧ u.mem = s.mem)
          ∧ (r = 0 → u.mem = (s.bufReturn (bits w2 35 32) k).mem)))
      ∧ (∀ r k, s.putCheck w2 (gateOwner t) (some (bits (x.rw 3) 9 0)) = (r, k) → Answers (.poolPass t) s (fun u =>
          ends u (if r = 0 then 0 else 8) ∧ (r ≠ 0 → (u.m.th t).rw 3 = Word.of r ∧ u.mem = s.mem)
          ∧ (r = 0 → u.mem = (s.setBuf (bits w2 35 32) k { s.buf (bits w2 35 32) k with owner := bits (x.rw 3) 9 0 }).mem)))
      ∧ (512 ≤ t ∨ s.m.chanFifo (bits w2 5 0) t = true → s.m.on (FIFO_CTRL_PACKET (bits w2 5 0)) = true →
          Answers (.fifoClose t) s (fun u => ((u.m.fifo (bits w2 5 0)).pkt (bits w2 10 8)) = none ∧ u.mem = s.mem
            ∧ ends u (if ((s.m.fifo (bits w2 5 0)).pkt (bits w2 10 8)).isSome then 0 else 6))))

/-! ### Register access -/

/-- A register written and read by a master, alone or through the management port: the field access codes of R14, the read value
of R16, R20 and R21, and what R46 refuses (R643). -/
def Obligations.RegisterCommands : Prop :=
  ∀ (s : State) (mst a n : Nat) (v : Word), a + 1 < 2 ^ 24 →
    let write := Instr.registerWrite mst a v
    let plainly := a / 65536 ≠ 0x0B ∧ a / 65536 ≠ 0x0D ∧ s.m.shownWord a = s.m.rd a
    let reads := fun (i : Instr) (by_ : Nat) => Answers i s (fun u => ∃ w, Shows s a w ∧ Sent s u [.readData by_ a w] ∧
      (∀ r, regAt a = some r → ∀ f ∈ r.fields, bits (u.m.rd a) f.hi f.lo = if f.acc = .rc then 0 else bits (s.m.rd a) f.hi f.lo) ∧
      OnlyRegs { s with m := { s.m with out := u.m.out } } u [a])
    (s.m.mayWrite mst a = true → plainBlock a = true → s.m.regLocked a = false → (regAt a).isSome = true →
      Answers write s (fun u => FieldsWritten s u a v ∧ OnlyRegs s u [a]))
    ∧ (s.m.mayWrite mst a = true → plainBlock a = true → s.m.regLocked a = true ∨ (regAt a).isSome = false → exec write s = .next s)
    ∧ (s.m.mayWrite mst a = false → mst ≠ 1 → s.m.d3hot = false → exec write s = .next s)
    ∧ (s.m.mayRead mst a = true → plainly → reads (.rcRead mst a) mst)
    ∧ (s.m.mayRead 1 a = true → plainly → reads (.mgmtRead a 1) 1 ∧
        ∀ u, exec (.mgmtRead a 1) s = .next u → exec (.mgmtRead a (n + 2)) s = exec (.mgmtRead (a + 1) (n + 1)) u)
    ∧ (s.m.mayRead 1 a = false → exec (.mgmtRead a (n + 1)) s = .next (s.onM (fun m => m.send .nack)))
    ∧ (s.m.mayWrite 1 a = false → exec (.mgmtWrite a v) s = .next (s.onM (fun m => m.send .nack)))
    ∧ (∀ b, b < 64 → s.m.held = false → s.m.sideOpen 1 b false = true → (s.m.side b false).slot = 0 →
        Answers (.mgmtWrite (0x0D0002 + 16 * b) v) s (fun u => (u.m.side b false).slot = 1 ∧ (u.m.side b false).msg = v ∧
          u.mem = s.mem))

/-- BAR0 (R494, R495): the stage and the latch, and a bad access; and the two halves of a microword that the boot master loads
(R203). -/
def Obligations.WindowRegisterCommands : Prop :=
  ∀ (s : State) (off a c : Nat) (data : BitVec 64) (v : Word), s.m.held = false → s.m.d3hot = false → a < 2 ^ 24 → c < 32 →
    let sent := fun (u : State) (at_ : Nat) (w : BitVec 64) => Sent s u [.barData 0 at_ w false]
    let plainly := s.m.mayRead 0 a = true ∧ a / 65536 ≠ 0x0B ∧ a / 65536 ≠ 0x0D ∧ s.m.shownWord a = s.m.rd a
    exec (.bar0StageWrite (16 * a + 8) 8 data) s = .next (s.onM (fun m => { m with bar0Stage := some (a, data.toNat % 256) }))
    ∧ (∀ h, s.m.bar0Stage = some (a, h) → s.m.mayWrite 0 a = true → plainBlock a = true → s.m.regLocked a = false →
        (regAt a).isSome = true → Answers (.bar0StageWrite (16 * a) 8 data) s (fun u => u.m.bar0Stage = none ∧
          FieldsWritten s u a (Word.of (h * 2 ^ 64 + data.toNat)) ∧ u.mem = s.mem ∧ u.m.threads = s.m.threads))
    ∧ (plainly → Answers (.bar0HighRead (16 * a) 8) s (fun u => ∃ w, Shows s a w ∧ sent u (16 * a) (BitVec.ofNat 64 w.toNat) ∧
        u.m.bar0Latch = some (a, bits w 71 64) ∧ u.mem = s.mem ∧ ∀ b, b ≠ a → u.m.rd b = s.m.rd b))
    ∧ (∀ h, s.m.bar0Latch = some (a, h) → Answers (.bar0HighRead (16 * a + 8) 8) s (fun u =>
        sent u (16 * a + 8) (BitVec.ofNat 64 h) ∧ u.m.bar0Latch = none ∧ u.m.regs = s.m.regs))
    ∧ (off % 8 ≠ 0 → Answers (.bar0StageWrite off 8 data) s (fun u => OnlyRegs s u [HOST_ERRORS_addr] ∧
        u.m.g HOST_ERRORS_BAD_ACCESS = min (s.m.g HOST_ERRORS_BAD_ACCESS + 1) (2 ^ 24 - 1)))
    ∧ (off % 8 ≠ 0 → Answers (.bar0HighRead off 8) s (fun u => sent u off 0 ∧
        u.m.g HOST_ERRORS_BAD_ACCESS = min (s.m.g HOST_ERRORS_BAD_ACCESS + 1) (2 ^ 24 - 1)))
    ∧ (s.m.hostReady = false → s.m.on UC_CTRL_LOCK = false →
        exec (.ucLoadLo 0xB v) s = .next (s.onM (fun m => { m with ucStage := v }))
        ∧ Answers (.ucLoadHi 0xB v) s (fun u => OnlyRegs { s with m := { s.m with ucode := u.m.ucode } } u [UC_LOAD_ADDR_addr] ∧
            u.m.g UC_LOAD_ADDR_ADDR = (s.m.g UC_LOAD_ADDR_ADDR + 1) % 2 ^ 13 ∧
            ∀ k, k < 8192 → tget (fun _ => 0) u.m.ucode (c * 8192 + k) =
              if k = s.m.g UC_LOAD_ADDR_ADDR ∧ Nat.testBit (s.m.g UC_LOAD_ADDR_CLERK_MASK) c = true then
                v.toNat * 2 ^ 72 + s.m.ucStage.toNat else tget (fun _ => 0) s.m.ucode (c * 8192 + k)))
    ∧ (s.m.hostReady = false → s.m.on UC_CTRL_LOCK = true → exec (.ucLoadLo 0xB v) s = .next s ∧ exec (.ucLoadHi 0xB v) s = .next s)

/-! ### Pace, supply and temperature -/

/-- The end of a pace window (R56, R59), here with no monitor above T_CRIT: what every monitor measured, the slowest one left,
and the index under the user's derate (R76). The governor (R64–R71): the 50 µs point with the supply in range and AVSBus well,
the firmware loop in AUTO, a target missed for 10 ms, and the retries of an AVSBus frame. -/
def Obligations.PaceWindowAndGovernorResults : Prop :=
   (∀ (s : State) (paces : List Nat) (temps : List Int), s.m.pins.pwrOk = true →
      (∀ k, k < 16 → temps.getD k 0 ≤ thermLimit (s.m.g THERM_CTRL_T_CRIT)) →
      Answers (.paceWindow paces temps) s (fun u =>
        let open_ := fun k => k < 16 ∧ u.m.on (PACE_MON_MON_EXCLUDED k) = false
        let raw := u.m.g PACE_NOW_PACE_RAW
        (∀ k, k < 16 → u.m.g (PACE_MON_MON_PACE k) = min 4095 (paces.getD k 0) ∧ u.m.on (PACE_MON_MON_VALID k) = true ∧
          (s.m.on (PACE_MON_MON_EXCLUDED k) = true → u.m.on (PACE_MON_MON_EXCLUDED k) = true))
        ∧ (u.m.excludedCount < 4 → (∀ k, open_ k → raw ≤ u.m.g (PACE_MON_MON_PACE k)) ∧
            open_ (u.m.g PACE_NOW_SLOW_MONITOR) ∧ raw = u.m.g (PACE_MON_MON_PACE (u.m.g PACE_NOW_SLOW_MONITOR)))
        ∧ (4 ≤ u.m.excludedCount → raw = 0)
        ∧ u.m.g PACE_NOW_PACE_INDEX = raw * (1024 - min 64 (s.m.g TRIM_USER_PACE_DERATE)) / 1024
        ∧ u.m.g PACE_NOW_UPDATE_COUNT = (s.m.g PACE_NOW_UPDATE_COUNT + 1) % 2 ^ 32 ∧ u.m.on PACE_NOW_VALID = true
        ∧ u.mem = s.mem))
 ∧
   (∀ (s : State) (mv cur other status : Nat),
      let m := s.m
      let set := m.g GOV_STATUS_VCORE_SET
      let power := mv * cur / 2000 + m.otherPower
      let limit := max 160 (min 600 (m.g GOV_CTRL_POWER_LIMIT))
      let drive := fun (u : State) (v : Nat) => Sent s u [.avs true (v + min 40 (m.g TRIM_USER_VCORE_OFFSET))]
      (m.govRuns = true → 580 ≤ mv → mv ≤ 920 → 600 ≤ set → set ≤ 900 → m.on GOV_STATUS_AVS_FAULT = false → power < 1024 →
        Answers (.governorPoint mv cur) s (fun u => u.m.g GOV_STATUS_VCORE_MEAS = mv ∧ u.m.g GOV_STATUS_IVCORE = min 4095 cur ∧
          u.m.g GOV_STATUS_DEVICE_POWER = power ∧ u.mem = s.mem ∧
          u.m.on GOV_STATUS_LIMIT_POWER = (decide (limit < power) ||
            (m.on GOV_STATUS_LIMIT_POWER && decide (98 * limit < 100 * power))) ∧
          u.m.g GOV_STATUS_VCORE_SET = (if u.m.on GOV_STATUS_LIMIT_POWER = true ∨ u.m.on GOV_STATUS_LIMIT_THERMAL = true ∨ m.thermCrit = true
            then max 600 (set - 5) else if set < m.govSetpoint then min 900 (set + min 5 (m.govSetpoint - set))
            else max 600 (set - min 5 (set - m.govSetpoint))) ∧
          u.m.on GOV_STATUS_LIMIT_CEILING = decide (u.m.g GOV_STATUS_VCORE_SET = 900) ∧
          u.m.on GOV_STATUS_LIMIT_FLOOR = decide (u.m.g GOV_STATUS_VCORE_SET = 600)))
      ∧ (m.coreUp = true → m.g GOV_CTRL_MODE = 1 → m.paceLost = false → m.on GOV_STATUS_LIMIT_POWER = false →
          m.on GOV_STATUS_LIMIT_THERMAL = false → m.thermCrit = false → Answers (.governorLoop other) s (fun u =>
            u = s.onM (fun m => { m with otherPower := other, govAuto := u.m.govAuto }) ∧
            u.m.govAuto = if m.g PACE_NOW_PACE_INDEX < m.paceTarget then min 900 (m.govAuto + 5)
              else if m.paceTarget + 16 < m.g PACE_NOW_PACE_INDEX then max 600 (m.govAuto - 5) else m.govAuto))
      ∧ (1000 ≤ m.missWins → Answers .targetMiss s (fun u => u.m.on PACE_EVENTS_TARGET_MISS = true ∧ u.m.missWins = 0 ∧ u.mem = s.mem))
      ∧ (m.missWins < 1000 → exec .targetMiss s = .next s)
      ∧ (m.govRuns = true → m.on GOV_STATUS_AVS_FAULT = false →
          exec (.avsFrame true status) s = .next (s.onM (fun m => { m with avsTries := 0 }))
          ∧ (m.avsTries < 3 → Answers (.avsFrame false status) s (fun u => drive u set ∧ u.m.avsTries = m.avsTries + 1 ∧
              u.m.regs = m.regs))
          ∧ (3 ≤ m.avsTries → m.escFree.isSome = true → Answers (.avsFrame false status) s (fun u =>
              u.m.on GOV_STATUS_AVS_FAULT = true ∧ u.m.on PACE_EVENTS_AVS_FAIL = true ∧ u.mem = s.mem))))

/-! ### Mailboxes and interrupt groups -/

/-- The mailbox registers of a side that the master is bound to (R526–R537), the denial of any other master (R528), and the
teller table (R527). The interrupt groups and MSI-X (R542–R545): a group's control, the end of its hold-off, the MSI-X enable,
and a vector unmasked. -/
def Obligations.MailboxAndInterruptCommands : Prop :=
   (∀ (s : State) (mst b : Nat) (side : Bool) (v : Word) (code : BitVec 16), b < 64 →
      let mine := s.m.side b side
      let theirs := s.m.side b (!side)
      let may := fun (off : Nat) => s.m.mayWrite mst (mbxAddr b side off) = true
      (s.m.sideOpen mst b side = true →
        (may 2 → mine.slot = 0 → Answers (.mbxPost mst b side v) s (fun u => (u.m.side b side).slot = 1 ∧ (u.m.side b side).msg = v ∧
          u.m.side b (!side) = theirs ∧ u.m.g (MBX_COUNTS_POSTS b) = (s.m.g (MBX_COUNTS_POSTS b) + 1) % 2 ^ 24 ∧ u.mem = s.mem))
        ∧ (may 2 → mine.slot ≠ 0 → Answers (.mbxPost mst b side v) s (fun u => u.m.mbx = s.m.mbx ∧ u.mem = s.mem ∧
          u.m.g (MBX_COUNTS_FULL_WRITES b) = (s.m.g (MBX_COUNTS_FULL_WRITES b) + 1) % 2 ^ 12 ∧
          Sent s u (if mst = 0 then [.aer 1 (b * 16 + (if side then 6 else 2))] else if mst = 1 then [.nack] else [])))
        ∧ (s.m.mayRead mst (mbxAddr b side 3) = true → Answers (.mbxRecv mst b side) s (fun u => u.m.side b side = mine ∧ u.m.regs = s.m.regs ∧
          if theirs.slot = 1 then u.m.side b (!side) = { theirs with slot := 2 } ∧ Sent s u [.readData mst (mbxAddr b side 3) theirs.msg]
          else u.m.mbx = s.m.mbx ∧ Sent s u [.readData mst (mbxAddr b side 3) 0]))
        ∧ (may 4 → theirs.slot = 2 → theirs.stale = false → Answers (.mbxAck mst b side code) s (fun u => u.m.side b side = mine ∧
          u.m.side b (!side) = { theirs with slot := 0, stale := false, ackValid := true, timeout := false, ackTaken := true, ackCode := code.toNat }))
        ∧ (may 4 → theirs.slot ≠ 2 → exec (.mbxAck mst b side code) s = .next s)
        ∧ (may 4 → theirs.slot = 0 → Answers (.sideReset mst b side) s (fun u => u.m.side b (!side) = theirs ∧ u.m.regs = s.m.regs ∧
          u.m.side b side = (if mine.slot = 0 then { mine with epoch := (mine.epoch + 1) % 256 }
            else { mine with epoch := (mine.epoch + 1) % 256, stale := true, ackValid := false }))))
      ∧ (s.m.sideOpen mst b side = false → mst ≠ 1 → may 2 → may 4 → ∀ i, i ∈ [Instr.mbxPost mst b side v, .mbxAck mst b side code, .sideReset mst b side] →
          Answers i s (fun u => OnlyRegs s u [MBX_COUNTS_addr b] ∧
            u.m.g (MBX_COUNTS_DENIED b) = (s.m.g (MBX_COUNTS_DENIED b) + 1) % 2 ^ 12))
      ∧ (mine.slot ≠ 0 → mine.stale = false → Answers (.mbxTimeout b side) s (fun u => mine.deadline ≤ u.m.now ∧
          u.m.g (MBX_COUNTS_TIMEOUTS b) = (s.m.g (MBX_COUNTS_TIMEOUTS b) + 1) % 2 ^ 12 ∧ u.m.side b (!side) = theirs ∧
          u.m.side b side = { mine with slot := 0, stale := false, ackValid := true, timeout := true, ackTaken := mine.slot == 2, ackCode := 1 }))
      ∧ (s.m.mayWrite mst (TELLER_addr b) = true →
          if s.m.on MBX_GLOBAL_TELLER_LOCK = true ∨ 9 < bits v 70 67 ∨ 9 < bits v 66 63 ∨ bits v 70 67 = bits v 66 63 then
            exec (.tellerWrite mst b v) s = .next s
          else Answers (.tellerWrite mst b v) s (fun u => OnlyRegs s u [TELLER_addr b] ∧ u.m.g (TELLER_VALID b) = bits v 71 71 ∧
            u.m.sideMaster b false = bits v 70 67 ∧ u.m.sideMaster b true = bits v 66 63)))
 ∧
   (∀ (s : State) (mst g vec : Nat) (v : Word) (all : Bool) (entry : BitVec 128),
      let recorded := (tget (fun _ => []) s.m.grpRec g).filter (fun id => s.m.on (groupBit g id))
      (g < 44 → s.m.mayWrite mst (GROUP_CTRL_addr g) = true → s.m.on (GROUP_CTRL_ENABLE g) = true ∨ bits v 71 71 = 0 →
        Answers (.groupCtrlWrite mst g v) s (fun u => u.m.g (GROUP_CTRL_ENABLE g) = bits v 71 71 ∧
          u.m.g (GROUP_CTRL_MASTER g) = bits v 70 67 ∧ u.m.g (GROUP_CTRL_HOLDOFF g) = bits v 66 51 ∧
          u.m.g (GROUP_CTRL_VECTOR g) = bits v 50 40 ∧
          OnlyRegs { s with m := { s.m with grpRec := u.m.grpRec } } u [GROUP_CTRL_addr g, GROUP_STATUS_addr g] ∧
          (bits v 70 67 ≠ s.m.g (GROUP_CTRL_MASTER g) → u.m.on (GROUP_STATUS_HOLDING g) = false ∧ tget (fun _ => []) u.m.grpRec g = [])))
      ∧ (44 ≤ g → g < 64 → s.m.mayWrite mst (GROUP_CTRL_addr g) = true → exec (.groupCtrlWrite mst g v) s = .next s)
      ∧ (g < 44 → s.m.on (GROUP_STATUS_HOLDING g) = true → Answers (.holdoffExpiry g) s (fun u => u.mem = s.mem ∧
          u.m.on (GROUP_STATUS_RECORDED g) = false ∧ tget (fun _ => []) u.m.grpRec g = [] ∧
          if recorded = [] then u.m.on (GROUP_STATUS_HOLDING g) = false ∧ u.m.out = s.m.out
          else u.m.on (GROUP_STATUS_HOLDING g) = decide (s.m.g (GROUP_CTRL_HOLDOFF g) ≠ 0) ∧
            (s.m.halted = false → u.m.g (GROUP_STATUS_SIGNALS g) = (s.m.g (GROUP_STATUS_SIGNALS g) + 1) % 2 ^ 30)))
      ∧ (exec (.msixEnable false all) s = .next (s.onM (fun m => { m with msixOn := false, msixMaskAll := all })))
      ∧ (s.m.msixOn = true → Answers (.msixEnable true false) s (fun u => u.m.msixOn = true ∧ u.m.msixMaskAll = false ∧ u.m.regs = s.m.regs ∧
          ∀ k, k ∈ s.m.pba → Nat.testBit (tget msixDefault s.m.msixTbl k) 96 = false → k ∉ u.m.pba ∧ Out.msix k ∈ u.m.out))
      ∧ (vec < 2048 → s.m.d3hot = false → Answers (.msixUnmask vec entry) s (fun u => tget msixDefault u.m.msixTbl vec = entry.toNat ∧
          (∀ k, k ≠ vec → tget msixDefault u.m.msixTbl k = tget msixDefault s.m.msixTbl k) ∧ u.m.regs = s.m.regs ∧
          if s.m.msixOn = true ∧ vec ∈ s.m.pba ∧ s.m.msixMaskAll = false ∧ Nat.testBit entry.toNat 96 = false then
            Sent s u [.msix vec] ∧ u.m.pba = sremove s.m.pba vec else Sent s u [] ∧ u.m.pba = s.m.pba)))

/-! ### The host port -/

/-- BAR4 (R497, R498): a DRAM word and a vault word read and written through their two halves, and what lies outside the window;
and D3hot (R493). -/
def Obligations.HostWindowCommands : Prop :=
  ∀ (s : State) (i h : Nat) (data : BitVec 64) (enter : Bool), s.m.held = false → s.m.halted = false → i < 2 ^ 27 →
    let a := s.m.g HOST_WINDOW_DRAM_WIN_BASE / 2 ^ 27 * 2 ^ 27 + i
    let vaultOff := 2 ^ 31 + 16 * i
    let vOpen := i < 192 * 32768 ∧ s.m.bankOpen (i / 32768) 0x700 = true
    let w := Word.of (h * 2 ^ 64 + data.toNat)
    exec (.d3hot enter) s = .next (s.onM (fun m => { m with d3hot := enter }))
    ∧ (s.m.d3hot = true → exec (.bar4Read (16 * i) 8) s = .next (s.onM (fun m => m.send (.unsupported (16 * i)))))
    ∧ (s.m.d3hot = false →
      exec (.bar4Write (16 * i + 8) 8 data) s = .next (s.onM (fun m => { m with bar4Stage := some (i, data.toNat % 256) }))
      ∧ (a < s.m.capacity → exec (.bar4Read (16 * i) 8) s = .next (s.onM (fun m =>
          { m.send (.barData 4 (16 * i) (BitVec.ofNat 64 (s.dram a).toNat) (s.dramPoison a)) with bar4Latch := some (i, bits (s.dram a) 71 64) })))
      ∧ (s.m.bar4Latch = some (i, h) → exec (.bar4Read (16 * i + 8) 8) s = .next (s.onM (fun m =>
          { m.send (.barData 4 (16 * i + 8) (BitVec.ofNat 64 h) false) with bar4Latch := none })))
      ∧ (a < s.m.capacity → s.m.bar4Stage = some (i, h) → Unguarded s (.master 0) a → Answers (.bar4Write (16 * i) 8 data) s (fun u =>
          StoredDram s u a w ∧ u.m = { s.m with bar4Stage := none }))
      ∧ (s.m.capacity ≤ a → Answers (.bar4Write (16 * i) 8 data) s (fun u => u.mem = s.mem ∧
          u.m.g HOST_ERRORS_BAR4_RANGE = min (s.m.g HOST_ERRORS_BAR4_RANGE + 1) (2 ^ 24 - 1)))
      ∧ (vOpen → s.m.bar4Stage = some (2 ^ 27 + i, h) → Answers (.bar4Write vaultOff 8 data) s (fun u =>
          StoredVault s u i w ∧ u.m = { s.m with bar4Stage := none }))
      ∧ (vOpen → s.vaultErr i = 0 → Answers (.bar4Read vaultOff 8) s (fun u =>
          Sent s u [.barData 4 vaultOff (BitVec.ofNat 64 (s.vault i).toNat) (s.vaultPoison i)] ∧ u.mem = s.mem ∧ u.m.regs = s.m.regs))
      ∧ (vOpen → 2 ≤ s.vaultErr i → Answers (.bar4Read vaultOff 8) s (fun u =>
          Sent s u [.barData 4 vaultOff (BitVec.ofNat 64 (s.vault i).toNat) true] ∧ u.mem = s.mem ∧ u.m.on VAULT_EVENTS_UE = true))
      ∧ (i < 192 * 32768 → ¬ vOpen → Answers (.bar4Write vaultOff 8 data) s (fun u => u.mem = s.mem ∧
          u.m.g VAULT_ERRORS_HOST_DENIED = min (s.m.g VAULT_ERRORS_HOST_DENIED + 1) (2 ^ 17 - 1))))

/-- The work rings (R496, R499–R512, R525): the ABI, the enabling and disabling of a ring, the four doorbells, and an entry
fetched. The entries of a ring served (R504–R510): a message, a transfer in each direction and its end, the two admin commands,
and the gates HOST_RETIRE and HOST_COMPLETE. -/
def Obligations.RingAndEntryCommands : Prop :=
   (∀ (s : State) (mst r n : Nat) (v : Word) (ws : List Word) (mark : BitVec 8), r < 513 → n < 2 ^ 16 → s.m.held = false →
      s.m.d3hot = false →
      let q := bits v 71 64
      let data := BitVec.ofNat 64 n
      let sized := 4 ≤ bits v 70 66 ∧ bits v 70 66 ≤ (if s.m.on HOST_ABI_KW40_MODE then 12 else 16)
      let lead := (n + 2 ^ s.m.g (rSqSize r) - s.m.g (rSqDoorbell r)) % 2 ^ s.m.g (rSqSize r)
      let sqRung := fun (u : State) => u.m.g (rSqDoorbell r) = n ∧ u.m.sqLeadOf r = s.m.sqLeadOf r + lead ∧ u.mem = s.mem ∧
        u.m.ringEntries r = s.m.ringEntries r
      (s.m.mayWrite mst HOST_ABI_addr = true →
        (s.m.anyRing = true → exec (.hostAbiWrite mst v) s = .next s)
        ∧ (s.m.anyRing = false → Answers (.hostAbiWrite mst v) s (fun u => OnlyRegs s u [HOST_ABI_addr] ∧
            (u.m.g HOST_ABI_ACCEPTED, u.m.g HOST_ABI_KW40_MODE, u.m.g HOST_ABI_REJECTED) =
              if q / 16 = 3 then (0x30, 0, 0) else if q / 16 = 2 then (if q % 16 < 4 then q else 0x23, 1, 0) else (0, 0, 1))))
      ∧ (s.m.mayWrite mst (ringSet r + 4) = true → s.m.on (rCqEnable r) = false → bits v 71 71 = 1 →
          Answers (.ringEnable mst r true v) s (fun u => u.m.g (rCqSize r) = bits v 70 66 ∧
            u.m.on (rCqEnable r) = decide (s.m.g HOST_ABI_ACCEPTED ≠ 0 ∧ sized) ∧
            OnlyRegs s u [ringSet r + 4, ringSet r + 5] ∧
            (u.m.on (rCqEnable r) = true → u.m.g (rCqTail r) = 0 ∧ u.m.g (rCqHead r) = 0 ∧ u.m.g (rCqPhase r) = 1)))
      ∧ (s.m.mayWrite mst (ringSet r + 1) = true → s.m.on (rSqEnable r) = false → bits v 71 71 = 1 → s.sqOk r v = true →
          Answers (.ringEnable mst r false v) s (fun u => u.m.on (rSqEnable r) = true ∧ u.m.g (rSqSize r) = bits v 70 66 ∧
            u.m.g (rSqFetch r) = 0 ∧ u.m.g (rSqHead r) = 0 ∧ u.m.g (rSqDoorbell r) = 0 ∧ u.m.g (rSqPhase r) = 1 ∧
            u.m.ringEntries r = [] ∧ u.mem = s.mem))
      ∧ (s.m.mayWrite mst (ringSet r + 1) = true → s.m.on (rSqEnable r) = true → bits v 71 71 = 0 → s.m.ringEntries r = [] →
          Answers (.ringEnable mst r false v) s (fun u => u.m.on (rSqEnable r) = false ∧ u.m.ringEntries r = [] ∧ u.mem = s.mem))
      ∧ (s.m.halted = false → s.m.on (rSqEnable r) = true → n < 2 ^ s.m.g (rSqSize r) →
          (r < 512 → Answers (.sqDoorbell r 4 data) s (fun u => sqRung u ∧ Nat.testBit (u.m.latchOf r) 7 = true))
          ∧ (r = 512 → Answers (.adminSqDoorbell 4 data) s sqRung))
      ∧ (s.m.halted = false → s.m.on (rCqEnable r) = true → n < 2 ^ s.m.g (rCqSize r) →
          (r < 512 → Answers (.cqDoorbell r 8 data) s (fun u => OnlyRegs s u [ringSet r + 5] ∧ u.m.g (rCqHead r) = n))
          ∧ (r = 512 → Answers (.adminCqDoorbell 8 data) s (fun u => u.m.g (rCqHead 512) = n ∧ u.mem = s.mem ∧ u.m.threads = s.m.threads)))
      ∧ (r < 512 → Answers (.sqDoorbell r 2 data) s (fun u => OnlyRegs s u [HOST_ERRORS_addr] ∧
          u.m.g HOST_ERRORS_BAD_ACCESS = min (s.m.g HOST_ERRORS_BAD_ACCESS + 1) (2 ^ 24 - 1)))
      ∧ (s.m.sqMayFetch r = true → mark.toNat = 0xAA + s.m.g (rSqPhase r) → entryReason r (s.m.on HOST_ABI_KW40_MODE) ws = 0 →
          Answers (.sqEntryFetch r ws mark) s (fun u => u.mem = s.mem ∧
            u.m.ringEntries r = s.m.ringEntries r ++ [{ idx := s.m.g (rSqFetch r), ws := ws.take 7, phase := s.m.g (rSqPhase r) }] ∧
            u.m.g (rSqFetch r) = ringNext (s.m.g (rSqSize r)) (s.m.g (rSqFetch r)) % 2 ^ 16 ∧ u.m.sqLeadOf r = s.m.sqLeadOf r - 1))
      ∧ (s.m.sqMayFetch r = true → mark.toNat = 0xAA + s.m.g (rSqPhase r) → entryReason r (s.m.on HOST_ABI_KW40_MODE) ws ≠ 0 →
          Answers (.sqEntryFetch r ws mark) s (fun u => u.m.ringStop = true ∧ u.m.ringEntries r = s.m.ringEntries r ∧ u.mem = s.mem)))
 ∧
   (∀ (s : State) (n t : Nat) (e : RingEntry) (data : List Word),
      let op := bits (nthWord e.ws 0) 63 56
      let front := s.m.ringDma = true ∧ n < 512 ∧ (s.m.ringEntries n).head? = some e
      let inbox := s.m.g (rSqInbox n) + 8 * e.idx
      let words := bits (nthWord e.ws 2) 35 0
      let h := nthWord e.ws 3
      let base := bits h 71 36 + bits (nthWord e.ws 4) 35 0
      let delivered := fun (u : State) => u.m.ringEntries n = (s.m.ringEntries n).drop 1 ∧ u.m.unretired n = s.m.unretired n + 1
      let moving := fun (u : State) => u.m.ringEntries n =
        { e with handle := h, moved := words, checked := true } :: (s.m.ringEntries n).drop 1
      let w2 := (s.m.th t).rw 2
      (front → op = 1 → (∀ j, j < 8 → Unguarded s .device (inbox + j)) → Answers (.message n) s (fun u => delivered u ∧
        Filled s u inbox [nthWord e.ws 0, nthWord e.ws 1, nthWord e.ws 2, nthWord e.ws 3, nthWord e.ws 4, nthWord e.ws 5,
          Word.of (at_ 71 56 e.idx + at_ 55 48 e.status + at_ 35 0 e.moved), Word.of e.phase]))
      ∧ (front → op = 2 → e.checked = false → h ≠ 0 → s.requestOk n h (bits (nthWord e.ws 4) 35 0) words = true →
          s.holdFull (bits h 71 36) = false → (∀ j, j < words → Unguarded s .device (base + j)) → data.length = words →
          Answers (.dataIn n data) s (fun u => moving u ∧ Filled s u base data))
      ∧ (front → op = 3 → e.checked = false → s.requestOk n h (bits (nthWord e.ws 4) 35 0) words = true →
          s.holdFull (bits h 71 36) = false → 0 < words → s.anyPoison base words = false → Answers (.dataOut n) s (fun u => moving u ∧
            Sent s u [.hostWrite (bits (nthWord e.ws 1) 63 0) (s.drams base words) false] ∧ Filled s u base []))
      ∧ (front → op = 2 ∨ op = 3 → e.checked = true → Answers (.dataTransferDone n) s delivered)
      ∧ (s.m.ringDma = true → (s.m.ringEntries 512).head? = some e → op = 0 → Answers .adminNop s (fun u =>
          u.m.ringEntries 512 = (s.m.ringEntries 512).drop 1 ∧ u.mem = s.mem ∧
          u.m.g (rSqHead 512) = ringNext (s.m.g (rSqSize 512)) (s.m.g (rSqHead 512)) % 2 ^ 16))
      ∧ (s.m.ringDma = true → (s.m.ringEntries 512).head? = some e → op = 1 → e.checked = false →
          let k := bits (nthWord e.ws 1) 67 59
          let s1 := s.onM (fun m => m.setFront 512 { e with checked := true })
          s.m.on (CHAN_STATUS_CMD_BUSY k) = false → s1.m.mayWrite 0 (CHAN_CMD_addr k) = true →
            (bits (nthWord e.ws 1) 71 68 = 3 → exec .adminChanCmd s = exec (.cmdKill 0 k) s1)
            ∧ (bits (nthWord e.ws 1) 71 68 = 1 → exec .adminChanCmd s = exec (.cmdLoad 0 k (bits (nthWord e.ws 2) 35 0)) s1))
      ∧ (s.m.gateRuns t = true → t < 512 → w2.toNat ≤ s.m.unretired t → Answers (.hostRetire t) s (fun u => GateEnds s u t 0 0 ∧
          u.m.unretired t = s.m.unretired t - w2.toNat ∧ u.mem = s.mem ∧
          u.m.g (rSqHead t) = (s.m.g (rSqHead t) + w2.toNat) % 2 ^ s.m.g (rSqSize t) % 2 ^ 16))
      ∧ (s.m.gateRuns t = true → s.m.unretired t < w2.toNat → Answers (.hostRetire t) s (fun u => GateEnds s u t 8 0 ∧ u.m.regs = s.m.regs))
      ∧ (s.m.gateRuns t = true → t < 512 → s.m.on (rCqEnable t) = true → s.owns t w2.toNat 6 = true → s.anyPoison w2.toNat 6 = false →
          bits ((s.m.th t).rw 3) 0 0 = 0 →
          (s.m.cqFree t < 3 → Answers (.hostComplete t) s (fun u => GateEnds s u t 5 0 ∧ u.m.regs = s.m.regs))
          ∧ (3 ≤ s.m.cqFree t → Answers (.hostComplete t) s (fun u => GateEnds s u t 0 0 ∧ u.mem = s.mem ∧
              u.m.g (rCqTail t) = ringNext (s.m.g (rCqSize t)) (s.m.g (rCqTail t)) % 2 ^ 16))))

/-- The DMA engine (R513–R519): START on a good and on a bad descriptor, the end of a descriptor, ABORT, RESUME, a bus error and
its CLEAR, service mode, and the host port reset. -/
def Obligations.DmaCommands : Prop :=
  ∀ (s : State) (mst k reason speed width : Nat) (v : Word) (data : List Word), 2 ≤ k → k < 32 →
    let st := s.m.g (DMA_STATUS_STATE k)
    let desc := s.m.g (DMA_CTRL_DESC k)
    let d := s.dmaDesc k
    let done := s.m.g (DMA_PROGRESS_WORDS_DONE k)
    let left := (s.descWords d).drop done
    let took := fun (u : State) => u.m.g (DMA_PROGRESS_CURRENT k) = desc ∧ u.m.g (DMA_PROGRESS_WORDS_DONE k) = 0 ∧ u.mem = s.mem
    (s.m.coreUp = true → s.m.d3hot = false → st = 0 ∨ st = 2 ∨ st = 5 →
      (s.descReason desc = 0 → Answers (.dmaStart mst k none) s (fun u => took u ∧ u.m.g (DMA_STATUS_STATE k) = 1 ∧
        OnlyRegs s u [DMA_STATUS_addr k, DMA_PROGRESS_addr k]))
      ∧ (s.descReason desc ≠ 0 → Answers (.dmaStart mst k none) s (fun u => took u ∧ u.m.g (DMA_STATUS_STATE k) = 3 ∧
        u.m.g (DMA_STATUS_DESC_ERR k) = s.descReason desc)))
    ∧ (s.m.coreUp = true → s.m.d3hot = false → st = 1 ∨ st = 3 ∨ st = 4 → exec (.dmaStart mst k none) s = .next s)
    ∧ (s.m.coreUp = true → st = 1 → d.toHost = false → d.vault = false → d.irq = false → d.last = true → data.length = left.length →
        (left.map (·.1)).Nodup → (∀ e ∈ left, Unguarded s .device e.1) → done + left.length < 2 ^ 36 →
        Answers (.dmaDescriptorDone k data) s (fun u => u.m.g (DMA_STATUS_STATE k) = 2 ∧
          u.m.g (DMA_PROGRESS_WORDS_DONE k) = done + left.length ∧
          (∀ j, j < left.length → u.dram ((left.map (·.1)).getD j 0) = nthWord data j) ∧
          ∀ a, a ∉ left.map (·.1) → u.dram a = s.dram a))
    ∧ (s.m.coreUp = true → st = 1 → d.toHost = false → data.length < left.length → exec (.dmaDescriptorDone k data) s = .next s)
    ∧ (s.m.mayWrite mst (DMA_CTRL_addr k) = true →
        (st = 1 → d.toHost = false → d.vault = false → Answers (.dmaAbort mst k [] 0) s (fun u =>
          u.m.g (DMA_STATUS_STATE k) = 5 ∧ u.m.g (DMA_PROGRESS_WORDS_DONE k) = done ∧ u.mem = s.mem))
        ∧ (st = 4 → Answers (.dmaResume mst k) s (fun u => u.m.g (DMA_STATUS_STATE k) = 1 ∧ OnlyRegs s u [DMA_STATUS_addr k]))
        ∧ (st ≠ 4 → exec (.dmaResume mst k) s = .next s))
    ∧ (s.m.coreUp = true → reason < 16 → st = 1 → Answers (.busError reason []) s (fun u => u.m.on DMA_GLOBAL_BUS_ERROR = true ∧
        u.m.g DMA_GLOBAL_BUS_REASON = reason ∧ u.m.g (DMA_STATUS_STATE k) = 4 ∧ u.m.g (DMA_PROGRESS_WORDS_DONE k) = done ∧
        u.mem = s.mem ∧ u.m.out.head? = some (.aer 2 0)))
    ∧ (s.m.mayWrite mst DMA_GLOBAL_addr = true →
        (s.m.on DMA_GLOBAL_BUS_ERROR = true → Answers (.dmaClear mst) s (fun u => OnlyRegs { s with m := { s.m with cqHeld := [], out := u.m.out } } u [DMA_GLOBAL_addr] ∧
          u.m.on DMA_GLOBAL_BUS_ERROR = false ∧ u.m.g DMA_GLOBAL_BUS_REASON = 0 ∧ ∀ o ∈ s.m.cqHeld, o ∈ u.m.out))
        ∧ (bits v 65 65 = 0 → Answers (.serviceWrite mst v) s (fun u => OnlyRegs s u [DMA_GLOBAL_addr] ∧
          u.m.g DMA_GLOBAL_BURST = bits v 64 62 ∧ u.m.g DMA_GLOBAL_SERVICE =
            if bits v 71 71 = 1 ∧ (List.range 512).any (fun n => (s.m.th n).st != .empty) = true then s.m.g DMA_GLOBAL_SERVICE else bits v 71 71)))
    ∧ (s.dmaSending = false → Answers (.hostPortReset 1 speed width) s (fun u => u.m.rd HOST_ABI_addr = 0 ∧ u.m.msixOn = false ∧
        u.m.anyRing = false ∧ u.m.g HOST_LINK_FLRS = (s.m.g HOST_LINK_FLRS + 1) % 2 ^ 16 ∧ u.m.g HOST_LINK_SPEED = speed % 8 ∧
        u.m.g HOST_LINK_WIDTH = width % 32))

/-! ### Vaults and DRAM -/

/-- Vault banks (R451–R462): a hand-over, accepted or refused, retirement, the power domains and their clearing, and an assay run
from its start to its end. -/
def Obligations.VaultCommands : Prop :=
  ∀ (s : State) (mst b d : Nat) (v : Word), b < 192 → d < 12 →
    let code := bits v 71 60
    let ok := fun (c : Nat) => ownerCode c = true ∧ s.m.marked b = false ∧ s.m.on (VAULT_OWNER_STAGING b) = false ∧
      (s.m.on (VAULT_OWNER_MAP b) = false ∨ c = 0x600) ∧ (s.m.on (VAULT_OWNER_RETIRED b) = false ∨ c = 0x800) ∧
      s.m.assayHolds b = false ∧ s.m.domainOn b = true ∧ s.m.on (VAULT_OWNER_CLEARING b) = false
    let on := s.m.g VAULT_POWER_DOMAIN_ON
    let inDomain := fun (k : Nat) => 16 * d ≤ k ∧ k < 16 * d + 16
    let run : AssayRun := ⟨bits v 71 71 == 1, bits v 70 70 == 1, bits v 69 62, bits v 61 54, bits v 53 46⟩
    (s.m.mayWrite mst (VAULT_OWNER_addr b) = true →
      (ok code → Answers (.vaultOwnerWrite mst b v) s (fun u => OnlyRegs s u [VAULT_OWNER_addr b] ∧ u.m.g (VAULT_OWNER_OWNER b) = code))
      ∧ (¬ ok code → Answers (.vaultOwnerWrite mst b v) s (fun u => u.m.g (VAULT_OWNER_OWNER b) = s.m.g (VAULT_OWNER_OWNER b) ∧
          u.m.on VAULT_EVENTS_HANDOVER_REFUSED = true ∧ u.m.g VAULT_EVENTS_REFUSED_BANK = b ∧
          1 ≤ u.m.g VAULT_EVENTS_REFUSE_REASON ∧ u.m.g VAULT_EVENTS_REFUSE_REASON ≤ 7 ∧ u.mem = s.mem)))
    ∧ (s.m.mayWrite mst VAULT_RETIRE_addr = true →
        (bits v 71 64 = b → ok 0x800 → Answers (.vaultRetire mst v) s (fun u => OnlyRegs s u [VAULT_OWNER_addr b] ∧
          u.m.g (VAULT_OWNER_OWNER b) = 0x800 ∧ u.m.on (VAULT_OWNER_RETIRED b) = true))
        ∧ (192 ≤ bits v 71 64 → exec (.vaultRetire mst v) s = .next s))
    ∧ (s.m.mayWrite mst VAULT_POWER_addr = true →
        (Nat.testBit on d = false → bits v 71 60 = on + 2 ^ d → Answers (.vaultPowerWrite mst v) s (fun u =>
          u.m.g VAULT_POWER_DOMAIN_ON = on + 2 ^ d ∧ (∀ k, inDomain k → u.m.on (VAULT_OWNER_CLEARING k) = true) ∧
          (∀ a, inDomain (a / 32768) → u.vault a = 0 ∧ u.vaultPoison a = false) ∧
          (∀ a, ¬ inDomain (a / 32768) → u.vault a = s.vault a) ∧ u.mem.dram = s.mem.dram))
        ∧ (Nat.testBit on d = true → bits v 71 60 + 2 ^ d = on → s.m.domainIdle d = true →
          Answers (.vaultPowerWrite mst v) s (fun u => OnlyRegs s u [VAULT_POWER_addr] ∧ u.m.g VAULT_POWER_DOMAIN_ON + 2 ^ d = on))
        ∧ (Nat.testBit on d = true → bits v 71 60 + 2 ^ d = on → s.m.domainIdle d = false →
          Answers (.vaultPowerWrite mst v) s (fun u => u.m.g VAULT_POWER_DOMAIN_ON = on ∧ u.m.on VAULT_EVENTS_POWER_REFUSED = true ∧
            u.mem = s.mem)))
    ∧ (∀ k, inDomain k → s.m.on (VAULT_OWNER_CLEARING k) = true → Answers (.domainClearDone d) s (fun u =>
        (∀ j, inDomain j → u.m.on (VAULT_OWNER_CLEARING j) = false) ∧ u.m.on VAULT_EVENTS_CLEARED = true ∧ u.mem = s.mem))
    ∧ (s.m.mayWrite mst ASSAY_CMD_addr = true → bits v 45 45 = 1 →
        (s.m.assayReason run = 0 → Answers (.assayStart mst v) s (fun u => u.m.assay = some run ∧ u.m.on ASSAY_STATUS_BUSY = true ∧
          u.m.g ASSAY_STATUS_CURRENT_BANK = run.first ∧ u.m.g ASSAY_STATUS_BANKS_DONE = 0 ∧ u.mem = s.mem))
        ∧ (s.m.assayReason run ≠ 0 → Answers (.assayStart mst v) s (fun u => OnlyRegs s u [ASSAY_STATUS_addr] ∧
          u.m.g ASSAY_STATUS_RESULT = s.m.assayReason run)))
    ∧ (∀ r, s.m.assay = some r → r.preserving = false → r.first ≤ r.last → r.last < 192 → Answers (.assayDone false []) s (fun u =>
        u.m.assay = none ∧ u.m.on ASSAY_STATUS_BUSY = false ∧ u.m.g ASSAY_STATUS_RESULT = 0 ∧
        u.m.g ASSAY_STATUS_BANKS_DONE = r.last + 1 - r.first ∧ u.m.g ASSAY_STATUS_BANKS_FAILED = 0 ∧ u.m.on VAULT_EVENTS_ASSAY_DONE = true ∧
        ∀ a, u.vault a = if r.first ≤ a / 32768 ∧ a / 32768 ≤ r.last then 0 else s.vault a))

/-- The DRAM controllers (R466–R468, R473, R474): refresh, temperature, calibration, patrol scrub, read bursts, correctable errors and their
interval, and an uncorrectable event, which freezes its channel and halts the device. -/
def Obligations.DramCommands : Prop :=
  ∀ (s : State) (ch bank rank cls held a err syn loc : Nat) (busy x2 ovr : Bool), ch < 8 → bank < 64 → rank < 2 → cls < 4 → a < 2 ^ 36 →
    let owed := tget (fun _ => 0) s.m.refOwed (ch * 64 + bank) + 1
    let other := tget (fun _ => 0) s.m.mr4 (ch * 2 + (1 - rank))
    let c := dramChannel a
    let counted := fun (u : State) (retried : Bool) => u.m.g (DRAM_CH_STATUS_CE_COUNT c) = (s.m.g (DRAM_CH_STATUS_CE_COUNT c) + 1) % 2 ^ 24 ∧
      u.m.g (DRAM_CH_CE_ADDR c) = a ∧ u.m.g (DRAM_CH_CE_SYNDROME c) = syn % 256 ∧ u.m.on (DRAM_CH_CE_RETRIED c) = retried ∧ u.mem = s.mem
    let f := if cls = 0 then DRAM_TRAFFIC_LIVE c else if cls = 1 then DRAM_TRAFFIC_FRAME c else if cls = 2 then DRAM_TRAFFIC_NORMAL c
      else DRAM_TRAFFIC_BACKGROUND c
    let n := tget (fun _ => 0) s.m.bursts (c * 4 + cls)
    let burst := fun (u : State) => tget (fun _ => 0) u.m.bursts (c * 4 + cls) = (n + 1) % 65536 ∧ u.mem = s.mem ∧
      u.m.g (DRAM_CH_STATUS_LIVE_PEAK c) = max (s.m.g (DRAM_CH_STATUS_LIVE_PEAK c)) (min 16 held) ∧
      u.m.g f = if n < 65535 then s.m.g f else min (2 ^ 18 - 1) (s.m.g f + 1)
    let frozen := fun (u : State) (k kind : Nat) => u.m.g (DRAM_CH_STATUS_STATE k) = 3 ∧ u.m.on DRAM_EVENTS_UE = true ∧
      bits (u.m.rd (DRAM_CH_UE_A_addr k)) 71 68 = 8 + kind ∧ u.mem = s.mem ∧ (s.m.escMatch 0x23 k = none → u.m.halted = true)
    Answers (.dramRefresh ch bank busy) s (fun u => u = s.onM (fun m => { m with refOwed := u.m.refOwed }) ∧
      tget (fun _ => 0) u.m.refOwed (ch * 64 + bank) = if busy then (if 4 ≤ owed then 3 else owed) else 0)
    ∧ Answers (.mr4Poll ch rank x2 ovr) s (fun u => u.m.on (DRAM_CH_STATUS_REFRESH_2X ch) = (x2 || decide (2 ≤ other)) ∧
        u.m.on (DRAM_CH_STATUS_TEMP_HIGH ch) = (ovr || other % 2 == 1) ∧ u.mem = s.mem)
    ∧ exec (.zqCalibration ch) s = .next s
    ∧ (s.m.g (DRAM_CH_STATUS_STATE (dramChannel s.m.scrubPos)) = 3 → exec (.patrolScrub err syn loc) s = .next s)
    ∧ (s.m.g (DRAM_CH_STATUS_STATE (dramChannel s.m.scrubPos)) ≠ 3 → s.m.scrubPos + 1 < s.m.capacity → exec (.patrolScrub 0 syn loc) s = .next (s.onM (fun m => { m with scrubPos := m.scrubPos + 1 })))
    ∧ (s.m.g (DRAM_CH_STATUS_STATE (dramChannel s.m.scrubPos)) ≠ 3 → s.m.capacity ≤ s.m.scrubPos + 1 → Answers (.patrolScrub 0 syn loc) s (fun u => u.m.scrubPos = 0 ∧
        u.m.on DRAM_EVENTS_SCRUB_DONE = true ∧ u.mem = s.mem))
    ∧ (s.m.g (DRAM_CH_STATUS_STATE c) ≠ 3 →
        Answers (.dramReadComplete cls held a 0 syn loc) s (fun u => burst u ∧ ∀ r, r ≠ DRAM_TRAFFIC_addr c → r ≠ DRAM_CH_STATUS_addr c → u.m.rd r = s.m.rd r)
        ∧ Answers (.dramReadComplete cls held a 1 syn loc) s (fun u => counted u false ∧ burst u)
        ∧ Answers (.dramReadComplete cls held a 2 syn loc) s (fun u => counted u true ∧ burst u)
        ∧ Answers (.dramReadComplete cls held a 3 syn loc) s (fun u => frozen u c 1))
    ∧ (s.m.g (DRAM_CH_STATUS_STATE c) = 3 → exec (.dramReadComplete cls held a err syn loc) s = .next s)
    ∧ Answers .ceInterval s (fun u => u = s.onM (fun m => { m with now := u.m.now, ceCount := [], ceSec := u.m.now / 1000000000 }) ∧ u.m.now % 1000000000 = 0 ∧
        s.m.now < u.m.now ∧ u.m.now ≤ s.m.now + 1000000000)
    ∧ exec (.caParityAlert ch a loc false) s = .next s
    ∧ (s.m.g (DRAM_CH_STATUS_STATE ch) ≠ 3 → Answers (.caParityAlert ch a loc true) s (fun u => frozen u ch 2) ∧
        Answers (.phyLockLoss ch) s (fun u => frozen u ch 4))

/-! ### The ledger and the calendar -/

/-- The ledger, its journal and its commands, the device record and the calendar (R437–R449). -/
def Obligations.LedgerAndCalendarCommands : Prop :=
  ∀ (s : State) (mst model : Nat) (v : Word) (diff : Int),
    let m := s.m
    let lamp := bits v 69 45
    let n := bits v 44 20 + 1
    let ranged := m.on LEDGER_STATUS_CMD_BUSY = false ∧ lamp + n ≤ m.g LAMP_RECORDS_LAMPS
    let started := fun (u : State) (op : Nat) => u.m.ledgerCmd = some (op, lamp, n) ∧ u.m.on LEDGER_STATUS_CMD_BUSY = true ∧
      u.m.on LEDGER_STATUS_CMD_DROP = false ∧ OnlyRegs { s with m := { m with ledgerCmd := u.m.ledgerCmd } } u [LEDGER_STATUS_addr, LIFE_COUNTS_addr] ∧
      u.m.g LIFE_COUNTS_ZEROINGS = min (m.g LIFE_COUNTS_ZEROINGS + 1) 4095
    let passes := fun (u : State) => u.m.pass = some ⟨m.passSlot, m.topSeq + 1, m.now⟩ ∧ u.m.on LEDGER_STATUS_PASS_BUSY = true ∧ u.mem = s.mem
    (m.mayWrite mst LEDGER_CTRL_addr = true →
      (bits v 71 70 = 2 → m.on LEDGER_CTRL_ENABLE = false → Answers (.ledgerEnable mst v) s (fun u => u.mem = s.mem ∧
        OnlyRegs s u [LEDGER_CTRL_addr, LEDGER_STATUS_addr] ∧ u.m.g LEDGER_CTRL_PERIOD_S = bits v 69 54 ∧
        u.m.on LEDGER_CTRL_ENABLE = m.on LAMP_RECORDS_LOCK ∧ (m.on LAMP_RECORDS_LOCK = true → u.m.g LEDGER_STATUS_STATE = 1)))
      ∧ (m.on LEDGER_CTRL_JOURNAL_EN = false → m.journalOk = false → Answers (.journalEnable mst v) s (fun u =>
        OnlyRegs s u [JOURNAL_COUNTS_addr] ∧ u.m.g JOURNAL_COUNTS_FAILS = (m.g JOURNAL_COUNTS_FAILS + 1) % 2 ^ 16))
      ∧ (m.journalOk = true → Answers (.journalEnable mst v) s (fun u => u.m.on LEDGER_CTRL_JOURNAL_EN = true ∧ u.mem = s.mem ∧
        u.m.nextPass = m.calNow + 32768 * max 60 (min 3600 (bits v 69 54)))))
    ∧ (∀ im, m.g LEDGER_STATUS_STATE = 1 → m.coreUp = true → m.newestImage = some im →
        (∀ i, i < m.g LAMP_RECORDS_LAMPS → Unguarded s .ledger (m.lampRec i + 3)) → Answers .ledgerRestoreDone s (fun u =>
          u.m.g LEDGER_STATUS_STATE = 2 ∧ u.m.on LEDGER_STATUS_LAMP_FOREIGN = (im.uid != m.g DEVICE_UID_UID) ∧
          u.m.on LEDGER_STATUS_LAMP_SHORT = decide (im.lamps < m.g LAMP_RECORDS_LAMPS) ∧
          ∀ i, i < m.g LAMP_RECORDS_LAMPS → u.dram (m.lampRec i + 3) = nthWord im.words i))
    ∧ (m.journalOn = true → m.coreUp = true → m.acctStop = false → m.pass = none → Answers .journalPassStart s (fun u => passes u ∧
        u.m.nextPass = m.nextPass + 32768 * m.passPeriod))
    ∧ (∀ p, m.pass = some p → m.passLate = false → m.g POWER_STATUS_STATE = 1 → m.halted = false →
        Answers (.journalPassDone true) s (fun u => u.m.g LEDGER_STATUS_LAST_SEQ = p.seq % 2 ^ 32 ∧ u.m.pass = none ∧ u.mem = s.mem ∧
          u.m.g JOURNAL_COUNTS_PASSES = (m.g JOURNAL_COUNTS_PASSES + 1) % 2 ^ 32 ∧ u.m.on LEDGER_EVENTS_PASS_DONE = true)
        ∧ Answers (.journalPassDone false) s (fun u => u.m.pass = none ∧ u.mem = s.mem ∧ u.m.journal = m.journal ∧
          u.m.g JOURNAL_COUNTS_FAILS = (m.g JOURNAL_COUNTS_FAILS + 1) % 2 ^ 16 ∧ u.m.on LEDGER_EVENTS_PASS_FAIL = true))
    ∧ (m.mayWrite mst LEDGER_CMD_addr = true →
        (m.on LEDGER_STATUS_CMD_BUSY = false → m.journalOn = true → m.pass = none → Answers (.ledgerPass mst v) s passes)
        ∧ (m.on LEDGER_STATUS_CMD_BUSY = true ∨ m.journalOn = false → Answers (.ledgerPass mst v) s (fun u =>
            OnlyRegs s u [LEDGER_STATUS_addr] ∧ u.m.on LEDGER_STATUS_CMD_DROP = true))
        ∧ (ranged → Answers (.zero mst v) s (fun u => started u 2) ∧ Answers (.import mst v) s (fun u => started u 3))
        ∧ (¬ ranged → ∀ i, i ∈ [Instr.zero mst v, .import mst v] → Answers i s (fun u => OnlyRegs s u [LEDGER_STATUS_addr] ∧
            u.m.on LEDGER_STATUS_CMD_DROP = true)))
    ∧ (∀ k c, m.coreUp = true → m.ledgerCmd = some (2, k, c) → (∀ i, i < c → Unguarded s .ledger (m.lampRec (k + i) + 3)) →
        Answers .ledgerCommandDone s (fun u => (∀ i, i < c → u.dram (m.lampRec (k + i) + 3) = 0) ∧ u.m.ledgerCmd = none ∧
          u.m.on LEDGER_STATUS_CMD_BUSY = false ∧ (∀ a, (∀ i, i < c → a ≠ m.lampRec (k + i) + 3) → u.dram a = s.dram a)))
    ∧ (m.hostReady = true → m.acctStop = false → Answers (.lifeSecond model) s (fun u => u.mem = s.mem ∧
        u.m.g LIFE_TIME_POWER_ON_S = min (m.g LIFE_TIME_POWER_ON_S + 1) (2 ^ 36 - 1)))
    ∧ (m.mayWrite mst CAL_SET_addr = true →
        (timeOk v = true → Answers (.calSet mst v) s (fun u => u.m.calNow = bits v 71 30 * 32768 + bits v 29 0 * 32768 / 1000000000 ∧
          u.m.on CALENDAR_STATUS_VALID = true ∧ u.m.on CALENDAR_STATUS_STOPPED = false ∧ u.m.now = m.now ∧ u.mem = s.mem))
        ∧ (timeOk v = false → Answers (.calSet mst v) s (fun u => OnlyRegs s u [CALENDAR_STATUS_addr] ∧
          u.m.on CALENDAR_STATUS_CMD_DROP = true)))
    ∧ Answers .calendarTrim s (fun u => u.m.calNow = ((m.calNow : Int) + signedOf 10 (m.g CAL_CTRL_TRIM)).toNat ∧ u.m.regs = m.regs ∧
        u.mem = s.mem)
    ∧ (m.coreUp = true → m.on CAL_CTRL_FOLLOW = true → m.timeSync = true → Answers (.calendarFollow diff) s (fun u =>
        u.m.calNow = nsTicks m.now ∧ u.m.on CALENDAR_STATUS_FOLLOWING = true ∧ u.m.on CALENDAR_STATUS_VALID = true ∧
        u.m.calDiffs = (diff :: m.calDiffs).take 16 ∧ u.mem = s.mem))
    ∧ (m.coreUp = true → m.on CAL_CTRL_FOLLOW = false ∨ m.timeSync = false → Answers (.calendarFollow diff) s (fun u =>
        OnlyRegs s u [CALENDAR_STATUS_addr] ∧ u.m.on CALENDAR_STATUS_FOLLOWING = false))

/-! ### Resets, power and faults -/

/-- Resets and the power pins (R616–R634, R636): every cause of a cold and of a warm reset, the host port's, sleep, power-down and
power failure. -/
def Obligations.ResetAndPowerCommands : Prop :=
  ∀ (s : State) (mst k : Nat) (v : Word) (b : BootInfo),
    let m := s.m
    let p := m.pins
    let rest := p.testEn = false ∧ p.tapHold = false
    (p.pwrOk = false → p.sysRstN = true → rest → Answers (.powerUp b) s (fun u => Booted s u 0 ∧ u.m.pins.pwrOk = true))
    ∧ (p.pwrOk = true → exec (.powerUp b) s = .next s)
    ∧ (p.pwrOk = true → Answers .pwrOkFall s (fun u => ColdState s u 0 ∧ u.m.pins = { p with pwrOk := false }))
    ∧ (p.sysRstN = true → Answers (.sysRstN false b) s (fun u => ColdState s u 1 ∧ u.m.pins = { p with sysRstN := false }))
    ∧ (p.sysRstN = false → p.pwrOk = true → rest → Answers (.sysRstN true b) s (fun u => Booted s u 1 ∧ u.m.pins.sysRstN = true))
    ∧ (p.testEn = false → Answers (.testEn true b) s (fun u => ColdState s u 1 ∧ u.m.pins = { p with testEn := true }))
    ∧ (p.testEn = true → p.pwrOk = true → p.sysRstN = true → p.tapHold = false → Answers (.testEn false b) s (fun u => Booted s u 1))
    ∧ (m.mayWrite mst RESET_CTRL_addr = true →
        (bits v 69 54 = 0x5A5A → bits v 71 71 = 1 → Answers (.coldReset mst v b) s (fun u => Booted s u 2))
        ∧ (bits v 69 54 = 0x5A5A → bits v 71 70 = 1 → m.g POWER_STATUS_STATE ≠ 3 → Answers (.warmReset mst v b) s (fun u => Booted s u 4 ∧
            (m.hostReady = true → u.m.rd TRIM_USER_addr = m.rd TRIM_USER_addr ∧
              (m.on DOLRY_SPACE_LOCK = true → ∀ a, m.retrained (dramChannel a) = false →
                a < m.progAddr 0 ∨ m.progAddr 0 + b.firmware.length ≤ a → u.dram a = s.dram a))))
        ∧ (bits v 69 54 ≠ 0x5A5A → bits v 71 70 ≠ 0 → ∀ i, i ∈ [Instr.coldReset mst v b, .warmReset mst v b] → Answers i s (fun u =>
            OnlyRegs s u [RESET_CTRL_addr] ∧ u.m.g RESET_CTRL_KEY_ERRORS = (m.g RESET_CTRL_KEY_ERRORS + 1) % 2 ^ 16)))
    ∧ (m.held = false → p.perstN = true →
        (m.on RESET_CTRL_PERST_MODE = true → m.hostReady = true → m.g POWER_STATUS_STATE ≠ 3 → Answers (.perstN false b) s (fun u => Booted s u 6))
        ∧ (m.on RESET_CTRL_PERST_MODE = false ∨ m.hostReady = false → Answers (.perstN false b) s (fun u => u.m.pins = { p with perstN := false } ∧
            u.m.g HOST_LINK_SPEED = 0 ∧ u.m.g HOST_LINK_WIDTH = 0 ∧ u.m.msixOn = false ∧ u.m.rd HOST_ABI_addr = 0)))
    ∧ (m.held = false → m.hostReady = true → p.perstN = false → Answers (.perstN true b) s (fun u =>
        OnlyRegs { s with m := { m with pins := { p with perstN := true } } } u [HOST_LINK_addr] ∧ u.m.g HOST_LINK_SPEED = b.linkSpeed % 8 ∧
        u.m.g HOST_LINK_WIDTH = b.linkWidth % 32))
    ∧ (m.coreUp = true → k < 8 → Nat.testBit (m.g POWER_STATUS_CLUSTER_AWAKE) k = true →
        if m.maySleep k then Answers (.clusterSleep k) s (fun u => OnlyRegs s u [POWER_STATUS_addr] ∧
          u.m.g POWER_STATUS_CLUSTER_AWAKE + 2 ^ k = m.g POWER_STATUS_CLUSTER_AWAKE)
        else exec (.clusterSleep k) s = .next s)
    ∧ (m.held = false → m.g POWER_STATUS_STATE = 0 → Answers .powerDown s (fun u => OnlyRegs s u [POWER_STATUS_addr] ∧
        u.m.g POWER_STATUS_STATE = 3 ∧ u.m.on POWER_STATUS_PWRDN_SEEN = true))
    ∧ (m.held = false → m.g POWER_STATUS_STATE = 1 → Answers .powerDown s (fun u => u.mem = s.mem ∧ u.m.ringStop = true ∧
        u.m.acctStop = true ∧ u.m.g POWER_STATUS_STATE = (if m.journalOn = true ∧ m.halted = false then 2 else 3) ∧
        (m.journalOn = true → m.halted = false → u.m.pass.isSome = true)))
    ∧ (m.held = false → m.hostReady = true → p.pwrfailN = true → Answers .pwrfail s (fun u => u.m.acctStop = true ∧ u.m.pass = none ∧
        u.m.pins = { p with pwrfailN := false } ∧ u.mem = s.mem ∧
        u.m.g POWER_STATUS_PWRFAIL_EVENTS = (m.g POWER_STATUS_PWRFAIL_EVENTS + 1) % 2 ^ 16))
    ∧ (p.pwrfailN = false → m.g POWER_STATUS_STATE = 1 → m.halted = false → Answers .pwrfailRise s (fun u => u.m.acctStop = false ∧
        u.m.pins = { p with pwrfailN := true } ∧ (m.journalOn = false → u.m.regs = m.regs) ∧
        (m.journalOn = true → u.m.pass.isSome = true) ∧ u.mem = s.mem))
    ∧ (p.pwrfailN = false → m.journalOn = true → m.halted = false → Answers (.tailRecordDone true) s (fun u => u.m.on POWER_STATUS_TAIL_DONE = true ∧
        u.mem = s.mem ∧ ∃ i, u.m.image (m.slotAddr (m.g JOURNAL_REGION_SLOTS)) = some i ∧ i.dev = m.lifeWords ∧ i.lamps = 0))
    ∧ exec (.tailRecordDone false) s = .next s

/-- Fault collection, test access, the clocks and the battery (R604–R615, R645–R652). -/
def Obligations.FaultAndPinCommands : Prop :=
  ∀ (s : State) (mst k clk : Nat) (v : Word) (b : BootInfo) (ppm : Int), k < 16 → clk < 4 →
    let m := s.m
    let p := m.pins
    let tap := fun (code : Nat) => s.onM (fun m => { m with pins := { p with tapReset := false, tapInstr := code } })
    let st := m.g (clkState clk)
    (m.escAt k = none → exec (.graceExpiry k b) s = .next s)
    ∧ (∀ x, m.escAt k = some x → x.rung = 0 → x.cls = 2 → x.subj < 512 → m.halted = false → (m.th x.subj).st = .ready →
        Answers (.graceExpiry k b) s (fun u => (u.m.th x.subj).st = .isolated ∧ x.deadline ≤ u.m.now))
    ∧ (m.mayWrite mst FAULT_ACK_addr = true →
        (bits v 55 55 = 1 → m.escWait = [] → Answers (.faultAck mst v) s (fun u => (∀ j, j < 16 → u.m.escAt j = none) ∧ u.m.escWait = [] ∧ u.mem = s.mem))
        ∧ (bits v 55 55 = 0 → m.escWait = [] → Answers (.faultAck mst v) s (fun u => u.mem = s.mem ∧ ∀ j, j < 16 → u.m.escAt j =
            match m.escAt j with | some x => if x.seq = bits v 71 56 then none else some x | none => none)))
    ∧ (m.mayWrite mst FAULT_CTRL_addr = true →
        (m.escMatch 0x3F 0 = none → Answers (.haltNow mst v) s (fun u => u.m.halted = true ∧ u.mem = s.mem))
        ∧ (bits v 57 57 = 0 → Answers (.fnHoldWrite mst v) s (fun u => OnlyRegs s u [FAULT_CTRL_addr, FAULT_STATUS_addr] ∧
            u.m.g FAULT_CTRL_FN_HOLD = bits v 58 58 ∧ u.m.g FAULT_CTRL_AUTO_HOLD = bits v 59 59 ∧ u.m.g FAULT_CTRL_GRACE_MS = bits v 71 60 ∧
            (m.fnPulse = false → m.halted = false → m.on BOOT_STATUS_BOOT_FAIL = false → u.m.g FAULT_STATUS_FAULT_N_LOW = bits v 58 58))))
    ∧ (m.halted = false → m.on BOOT_STATUS_BOOT_FAIL = false → Answers .faultNPulseEnd s (fun u => u.m.fnPulse = false ∧
        u.m.g FAULT_STATUS_FAULT_N_LOW = m.g FAULT_CTRL_FN_HOLD ∧ u.mem = s.mem))
    ∧ (m.halted = true → exec .faultNPulseEnd s = .next (s.onM (fun m => { m with fnPulse := false })))
    ∧ (p.trstN = true → exec .bypass s = .next (tap 1) ∧ exec .samplePreload s = .next (tap 3)
        ∧ exec .idcode s = .next ((tap 2).onM (fun m => m.send (.tdo 0x10072C9B)))
        ∧ ∀ e, e ∈ [(Instr.extest, 4), (.extestPulse, 5), (.extestTrain, 6), (.clamp, 7), (.highz, 8)] → Answers e.1 s (fun u =>
            ColdState s u 1 ∧ u.m.pins = { p with tapReset := false, tapInstr := e.2, tapHold := true }))
    ∧ (p.trstN = false → ∀ i, i ∈ [Instr.bypass, .idcode, .samplePreload, .extest, .extestPulse, .extestTrain, .clamp, .highz] →
        exec i s = .next s)
    ∧ (p.tapHold = false → exec (.trstN false b) s =
        .next (s.onM (fun m => { m with pins := { p with trstN := false, tapReset := true, tapInstr := 0 } })))
    ∧ (p.tapHold = true → p.pwrOk = true → p.sysRstN = true → p.testEn = false → Answers (.trstN false b) s (fun u => Booted s u 1))
    ∧ (m.held = false → Answers (.refclkGood clk ppm) s (fun u => OnlyRegs s u [CLK_STATUS_addr] ∧ u.m.g (clkState clk) = 1 ∧
        u.m.g (clkPpm clk) = satSigned 12 ppm))
    ∧ (m.held = false → st = 3 → Answers (.refclkStopped clk) s (fun u => OnlyRegs s u [CLK_STATUS_addr, CLK_COUNTS_addr] ∧
        u.m.g (clkState clk) = 2 ∧ u.m.g (clkLosses clk) = (m.g (clkLosses clk) + 1) % 2 ^ 8))
    ∧ (m.held = false → st = 2 → Answers (.refclkRange clk ppm) s (fun u => OnlyRegs s u [CLK_STATUS_addr, CLK_COUNTS_addr] ∧
        u.m.g (clkState clk) = 3 ∧ u.m.g (clkPpm clk) = satSigned 12 ppm))
    ∧ (m.held = false → st = 0 → exec (.refclkStopped clk) s = .next s)
    ∧ (m.held = false → clk = 1 → st = 1 → Answers (.refclkStopped clk) s (fun u => u.m.g (clkState clk) = 2 ∧ u.mem = s.mem ∧
        ∀ c, c < 8 → u.m.g (DRAM_CH_STATUS_STATE c) = 3))
    ∧ (m.held = false → m.g CLK_STATUS_XTAL32 = 1 → Answers .xtal32Stopped s (fun u => u.m.g CLK_STATUS_XTAL32 = 2 ∧ u.mem = s.mem ∧
        u.m.g CLK_COUNTS_XTAL32_LOSSES = (m.g CLK_COUNTS_XTAL32_LOSSES + 1) % 2 ^ 8 ∧ u.m.on CALENDAR_STATUS_STOPPED = true ∧
        u.m.on CALENDAR_STATUS_VALID = false ∧ u.m.calNow = m.calNow))
    ∧ (m.held = false → Answers .xtal32Good s (fun u => OnlyRegs s u [CLK_STATUS_addr] ∧ u.m.g CLK_STATUS_XTAL32 = 1))
    ∧ Answers .vbatLoss s (fun u => u.m.on CALENDAR_STATUS_STOPPED = true ∧ u.m.on CALENDAR_STATUS_VBAT_LOW = true ∧
        u.m.on CALENDAR_STATUS_VALID = false ∧ u.m.calNow = m.calNow ∧ u.mem = s.mem)
    ∧ (p.pwrOk = true → p.mgmtMode = true → exec (.setdasaEntdaa k) s =
        .next (s.onM (fun m => { m with pins := { p with mgmtAddr := k } })))

/-! ### Gates of the codecs and of REGION_OPEN -/

/-- The decode gates at firmware privilege (R228–R231, R237, R247, R254) and REGION_OPEN (R359, R360): the status and the outcome
in W1, the results in W2–W6, and the context. -/
def Obligations.DecodeGates : Prop :=
  ∀ (s : State) (t off : Nat) (x : DecUnit), t < 512 → s.m.gateRuns t = true →
    let w2 := (s.m.th t).rw 2
    let w3 := (s.m.th t).rw 3
    let at_2 := bits w2 35 0
    let used := min x.consumed w3.toNat
    let data := s.owns t (w2.toNat / 9) (max 1 (ceilDiv (w2.toNat % 9 + w3.toNat) 9)) = true
    let refused := fun (i : Instr) => Answers i s (fun u => GateEnds s u t 8 0 ∧ u.m.decs = s.m.decs ∧ u.mem = s.mem)
    (s.m.dec t = none → refused (.decNext t x) ∧ refused (.decPicDone t off) ∧ refused (.decOutput t off) ∧ refused (.decRelease t)
        ∧ refused (.decFlush t) ∧ refused (.decClose t) ∧ refused (.decGap t none) ∧ refused (.regionOpen t))
    ∧ (let ws := s.drams at_2 4
       if s.owns t at_2 4 = true ∧ s.anyPoison at_2 4 = false ∧ (s.m.dec t).isNone = true ∧ decRecordOk ws = true ∧
           s.decAreas t (decRecord ws) = true then
         Answers (.decOpen t) s (fun u => GateEnds s u t 0 0 ∧ u.m.dec t = some (decRecord ws) ∧ u.mem = s.mem)
       else refused (.decOpen t))
    ∧ (∀ c, s.m.dec t = some c →
        let gives := fun (u : State) (outcome n : Nat) => GateEnds s u t 0 outcome ∧ (u.m.th t).rw 2 = Word.of n ∧ u.mem = s.mem
        (data → c.hurt = [] → smem s.m.resync t = false → c.gap = none → x.damage = 0 →
          (c.discard = true → x.rap = false → Answers (.decNext t x) s (fun u => gives u 6 used ∧ u.m.dec t = some c))
          ∧ (c.discard = false → x.what = 1 → Answers (.decNext t x) s (fun u => gives u 2 used ∧ u.m.dec t = some c))
          ∧ (c.discard = false → x.what = 2 → Answers (.decNext t x) s (fun u => gives u 1 used ∧ u.m.dec t = some c))
          ∧ (c.discard = false → x.what = 5 → Answers (.decNext t x) s (fun u => gives u 7 used ∧ u.m.dec t = some c ∧
              u.m.g (DEC_CHAN_COUNTS_SKIPPED t) = (s.m.g (DEC_CHAN_COUNTS_SKIPPED t) + 1) %
                2 ^ ((DEC_CHAN_COUNTS_SKIPPED t).hi + 1 - (DEC_CHAN_COUNTS_SKIPPED t).lo)))
          ∧ (∀ q, c.discard = false → x.what = 4 → x.seq = some q → c.seqItem q = 0 →
              (c.exceeds q = true → Answers (.decNext t x) s (fun u => gives u 4 0 ∧ u.m.dec t = some c))
              ∧ (c.exceeds q = false → Answers (.decNext t x) s (fun u => gives u 2 used ∧
                  ∃ d, u.m.dec t = some d ∧ d.seq = some q ∧ d.unsupported = 0 ∧ d.cur = none)))
          ∧ (c.discard = false → x.what = 0 → c.unsupported = 0 → x.pic.isSome = true → c.freeSlot [] = none →
              Answers (.decNext t x) s (fun u => GateEnds s u t 7 0 ∧ u.m.dec t = some c ∧ u.mem = s.mem))
          ∧ (∀ p, c.discard = false → x.what = 0 → c.unsupported = 0 → x.pic = none → c.cur.bind c.pic = some p → x.params = [] →
              (∀ j, j < 4 → Unguarded s .device (c.workA + x.entOff % 32768 + j)) → Answers (.decNext t x) s (fun u => GateEnds s u t 0 0 ∧
                Filled s u (c.workA + x.entOff % 32768) (c.entropyBlock p.tag x x.dataBytes) ∧
                (u.m.th t).rw 3 = Word.of (c.workA + x.entOff % 32768) ∧ (u.m.th t).rw 5 = Word.of p.tag)))
        ∧ (data → c.hurt = [] → smem s.m.resync t = false → c.gap = none → c.discard = false → x.damage = 0 → c.unsupported ≠ 0 →
            x.what = 0 → Answers (.decNext t x) s (fun u => gives u 5 used ∧ (u.m.th t).rw 3 = Word.of c.unsupported))
        ∧ (∀ p, c.pic w2.toNat = some p →
            (p.reported = true ∨ p.closed = false → refused (.decPicDone t off))
            ∧ (p.reported = false → p.closed = true → s.m.hasWork 8 t (tagIs 51 20 w2.toNat) = false → c.hurt = [] → c.due = [] →
                Answers (.decPicDone t off) s (fun u => GateEnds s u t 0 0x0A ∧ u.mem = s.mem)))
        ∧ (s.m.dueNow t c = none → Answers (.decOutput t off) s (fun u => GateEnds s u t 0 0x0A ∧ u.m.dec t = some c ∧ u.mem = s.mem))
        ∧ (∀ p, s.m.dueNow t c = some p → (∀ j, j < 7 → Unguarded s .device (c.workA + off % 32761 + j)) →
            Answers (.decOutput t off) s (fun u => GateEnds s u t 0 9 ∧ (u.m.th t).rw 2 = Word.of (c.workA + off % 32761) ∧
              Filled s u (c.workA + off % 32761) (s.descriptor c p) ∧ ∃ d, u.m.dec t = some d ∧ d.due = c.due.drop 1 ∧ d.order = c.order + 1))
        ∧ (if c.pics.any (fun p => p.tag == w2.toNat && p.out) = true then Answers (.decRelease t) s (fun u => GateEnds s u t 0 0 ∧
              u.mem = s.mem ∧ ∃ d, u.m.dec t = some d ∧ ∀ p ∈ d.pics, p.tag = w2.toNat → p.out = false)
           else refused (.decRelease t))
        ∧ Answers (.decFlush t) s (fun u => GateEnds s u t 0 0 ∧ u.mem = s.mem ∧
            ∃ d, u.m.dec t = some d ∧ ∀ p ∈ c.pics, p.wait = true → p.tag ∈ d.due)
        ∧ (c.region = none →
            (s.m.queueBusy 0 t = false → s.m.queueBusy 1 t = false → s.m.queueBusy 8 t = false →
              Answers (.decClose t) s (fun u => GateEnds s u t 0 0 ∧ u.m.dec t = none ∧ u.mem = s.mem))
            ∧ (s.m.queueBusy 0 t = true ∨ s.m.queueBusy 1 t = true ∨ s.m.queueBusy 8 t = true →
              Answers (.decClose t) s (fun u => GateEnds s u t 7 0 ∧ u.m.decs = s.m.decs)))
        ∧ (s.owns t (w2.toNat / 9) 1 = true → Answers (.decGap t none) s (fun u => GateEnds s u t 0 0 ∧ u.mem = s.mem ∧
            u.m.dec t = some { c with gap := some w2.toNat }))
        ∧ (s.owns t at_2 6 = true → s.anyPoison at_2 6 = false →
            let item := s.regionItem t (s.drams at_2 6)
            if item = 0 then Answers (.regionOpen t) s (fun u => GateEnds s u t 0 0 ∧ u.mem = s.mem ∧
              u.m.dec t = some { c with region := some (s.regionRecord (s.drams at_2 6)) })
            else Answers (.regionOpen t) s (fun u => GateEnds s u t 8 0 ∧ (u.m.th t).rw 3 = Word.of item ∧ u.m.decs = s.m.decs)))

/-- The encode gates at firmware privilege (R282–R291). -/
def Obligations.EncodeGates : Prop :=
  ∀ (s : State) (t off payAt filler : Nat) (x : EncPlan) (heads : List (Nat × Nat)) (words : List (Nat × Word)), t < 512 →
    s.m.gateRuns t = true →
    let w2 := (s.m.th t).rw 2
    let a := bits w2 35 0
    let outA := bits ((s.m.th t).rw 4) 35 0
    let outN := ((s.m.th t).rw 5).toNat
    let new : EncCtx := { ws := s.drams a 8, rate := s.drams (bits (nthWord (s.drams a 8) 7) 71 36) 6 }
    let refused := fun (i : Instr) => Answers i s (fun u => GateEnds s u t 8 0 ∧ u.m.encs = s.m.encs ∧ u.mem = s.mem)
    let unitDone := Instr.encUnitDone t off payAt heads words
    let picDone := Instr.encPicDone t off heads filler words
    (s.m.enc t = none → refused (.encPicture t x) ∧ refused (.encNext t off) ∧ refused unitDone ∧ refused picDone ∧
        refused (.encRefresh t) ∧ refused (.encFlush t) ∧ refused (.encClose t))
    ∧ (s.m.enc t = none → s.owns t a 8 = true → s.anyPoison a 8 = false →
        if s.encItem t new = 0 then Answers (.encOpen t) s (fun u => GateEnds s u t 0 0 ∧ u.mem = s.mem ∧
          u.m.enc t = some { new with model := { d := new.initD } })
        else Answers (.encOpen t) s (fun u => GateEnds s u t 8 0 ∧ (u.m.th t).rw 3 = Word.of (s.encItem t new) ∧ u.m.encs = s.m.encs))
    ∧ (∀ c, s.m.enc t = some c →
        refused (.encOpen t)
        ∧ (outN < 2048 → refused (.encPicture t x))
        ∧ (2048 ≤ outN → s.owns t outA outN = true → w2.toNat % 2 ^ 36 ≠ 0 → s.sourceOk t c (w2.toNat % 2 ^ 36) = true →
            (c.freeSlot = none → Answers (.encPicture t x) s (fun u => GateEnds s u t 7 0 ∧ u.m.encs = s.m.encs))
            ∧ (∀ k, c.freeSlot = some k → (c.pics.filter (·.live)).length < 4 → c.gopMode = 2 → x.code = none →
                Answers (.encPicture t x) s (fun u => GateEnds s u t 0 0x0C ∧ u.mem = s.mem ∧ ∃ d, u.m.enc t = some d ∧
                  d.held = c.held ++ [⟨c.nextSrc, w2.toNat % 2 ^ 36, (s.m.th t).rw 3⟩] ∧ d.nextSrc = c.nextSrc + 1))
            ∧ (∀ k, c.freeSlot = some k → (c.pics.filter (·.live)).length < 4 → c.gopMode ≠ 2 → c.held = [] →
                Answers (.encPicture t x) s (fun u => GateEnds s u t 0 0x0B ∧ (u.m.th t).rw 5 = Word.of c.nextTag ∧
                  ∃ d, u.m.enc t = some d ∧ d.held = [] ∧ d.nextTag = (c.nextTag + 1) % 2 ^ 32 ∧ d.first = false)))
        ∧ (∀ p, c.pic w2.toNat = some p →
            (p.units[p.given]? = none → Answers (.encNext t off) s (fun u => GateEnds s u t 0 3 ∧ u.m.encs = s.m.encs ∧ u.mem = s.mem))
            ∧ (∀ v, p.units[p.given]? = some v → (∀ j, j < 3 → Unguarded s .device (c.workA + off % 32766 + j)) →
                Answers (.encNext t off) s (fun u => GateEnds s u t 0 0 ∧ (u.m.th t).rw 3 = Word.of (c.workA + off % 32766) ∧
                  (u.m.th t).rw 4 = Word.of p.given ∧ bits (u.dram (c.workA + off % 32766)) 59 56 = v.kind % 16 ∧
                  bits (u.dram (c.workA + off % 32766)) 23 12 = v.firstRow % 4096 ∧
                  bits (u.dram (c.workA + off % 32766)) 11 0 = v.rows % 4096))
            ∧ (∀ v, p.units[((s.m.th t).rw 3).toNat]? = some v →
                (v.done = none → Answers unitDone s (fun u => GateEnds s u t 7 0 ∧ u.m.encs = s.m.encs ∧ u.mem = s.mem))
                ∧ (v.done.isSome = true → v.lastOfGroup = false → Answers unitDone s (fun u => GateEnds s u t 0 0x0A ∧
                    u.m.encs = s.m.encs ∧ u.mem = s.mem))
                ∧ (v.done.isSome = true → v.lastOfGroup = true → Answers unitDone s (fun u => GateEnds s u t 0 9 ∧
                    (u.m.th t).rw 2 = Word.of (p.outA + off % 1024) ∧ ∃ d q y, u.m.enc t = some d ∧ d.pic w2.toNat = some q ∧
                    q.units[((s.m.th t).rw 3).toNat]? = some y ∧ y.frags.isSome = true)))
            ∧ (p.reconDone = false → Answers picDone s (fun u => GateEnds s u t 7 0 ∧ u.m.encs = s.m.encs ∧ u.mem = s.mem))
            ∧ (p.reconDone = true → p.units.all (fun u => u.done.isSome) = true →
                Answers picDone s (fun u => GateEnds s u t 0 (if p.failed then 0x0D else 9))))
        ∧ (let sweep := bits w2 0 0 = 1
           (sweep → c.refresh = false → refused (.encRefresh t))
           ∧ (sweep → c.refresh = true → Answers (.encRefresh t) s (fun u => GateEnds s u t 0 0 ∧ u.mem = s.mem ∧
               u.m.enc t = some { c with ask := if c.ask = 1 then 1 else 2 }))
           ∧ (¬ sweep → Answers (.encRefresh t) s (fun u => GateEnds s u t 0 0 ∧ u.mem = s.mem ∧ u.m.enc t = some { c with ask := 1 })))
        ∧ Answers (.encFlush t) s (fun u => GateEnds s u t 0 0 ∧ u.m.enc t = some { c with flushed := true } ∧ u.mem = s.mem)
        ∧ (if [2, 3, 9, 0x10, 0x18].any (fun q => s.m.queueBusy q t) = true then Answers (.encClose t) s (fun u => GateEnds s u t 7 0 ∧
              u.m.encs = s.m.encs)
           else Answers (.encClose t) s (fun u => GateEnds s u t 0 0 ∧ u.m.enc t = none ∧ u.mem = s.mem)))

/-! ### Engines -/

/-- What the engines do: RC_SET (R320), the work an instance takes (R137), entropy engines (R216, R221, R235, R264, R290),
reconstruction pipes (R218, R235, R252, R297), search engines (R264, R297) and rate accelerators (R303), with the tickets that they
complete (R141). -/
def Obligations.EngineEvents : Prop :=
  ∀ (s : State), s.m.coreUp = true →
    (∀ t, t < 512 → s.m.gateRuns t = true →
      let a := bits (s.m.gateIn t 2) 35 0
      (s.m.enc t = none → Answers (.rcSet t) s (fun u => GateEnds s u t 8 0 ∧ u.m.encs = s.m.encs))
      ∧ (∀ c, s.m.enc t = some c →
          let d : EncCtx := { c with rate := s.drams a 6 }
          if s.owns t a 6 = true ∧ s.anyPoison a 6 = false ∧ s.rateBad t (s.m.isLive t) d = false ∧ d.mode = c.mode ∧ d.hrd = c.hrd then
            Answers (.rcSet t) s (fun u => GateEnds s u t 0 0 ∧ u.m.enc t = some { c with nextRate := some (s.drams a 6) } ∧ u.mem = s.mem)
          else Answers (.rcSet t) s (fun u => GateEnds s u t 8 0 ∧ (u.m.th t).rw 3 = Word.of 6 ∧ u.m.encs = s.m.encs ∧ u.mem = s.mem)))
    ∧ (∀ kind l x, s.m.pickWork kind l = some x → x ∈ l ∧ ∀ y ∈ l, s.m.rank kind x < s.m.rank kind y ∨
        (s.m.rank kind x = s.m.rank kind y ∧ x.order ≤ y.order))
    ∧ (∀ k ready pre needs, k < 4 →
        (∀ x, (s.m.run (192 + k)).isSome = false → s.m.queue 0x18 = [x] → s.m.orderedOk x = true → 512 ≤ x.t →
          s.m.hasWork 0x10 x.t (fun w => encTag 0x10 w == some (bits (nthWord x.block 0) 59 28)) = false →
          Answers (.engineTakeWork (192 + k) ready pre needs) s (fun u => u.m.queue 0x18 = [] ∧ u.mem = s.mem ∧
            u.m.run (192 + k) = some { e := x, queue := 0x18 } ∧ u.m.g (RATE_STATUS_BUSY k) = 1))
        ∧ (∀ x, s.m.seg (128 + k) = 0 → s.m.running = [] → s.m.queue 0x10 = [x] → s.m.orderedOk x = true → s.searchBounds x = true →
            x.order ∈ ready → Answers (.engineTakeWork (128 + k) ready pre needs) s (fun u => u.m.queue 0x10 = [] ∧ u.mem = s.mem ∧
              u.m.run (workKey x.order) = some { e := x, queue := 0x10, inst := k } ∧ u.m.seg (128 + k) = x.order + 1 ∧
              u.m.g (SEARCH_STATUS_BUSY k) = 1)))
    ∧ (∀ e r, e < 24 → s.m.run e = some r →
        let w1 := nthWord r.e.block 1
        let w3 := nthWord r.e.block 3
        let all := bits (nthWord r.e.block 0) 11 0
        let poison := s.poisonIn (bits w1 71 36) (ceilDiv (bits w1 35 32 + bits w1 31 0) 9)
        (∀ bins pipe spill, r.rows < all →
          (2 ≤ r.queue → r.abandon = false → Answers (.entropyRowEnd e bins pipe spill) s (fun u => u.mem = s.mem ∧
            u.m.run e = some { r with rows := r.rows + 1 }))
          ∧ (r.queue ≤ 1 → r.n2 ≠ 0 → r.abandon = false → Answers (.entropyRowEnd e bins pipe []) s (fun u => u.mem = s.mem ∧
              ∃ k, u.m.run e = some { r with rows := r.rows + 1, n1 := r.n1 + bins, n2 := k }))
          ∧ (r.queue ≤ 1 → r.n2 ≠ 0 → bits w3 35 0 < spill.length → Steady s r.e.t → Answers (.entropyRowEnd e bins pipe spill) s (fun u =>
              u.mem = s.mem ∧ u.m.run e = none ∧ Finished u r.e 1 e (at_ 55 40 r.rows + at_ 39 32 0x21 + min (r.n1 + bins) (2 ^ 32 - 1))))
          ∧ (r.queue ≤ 1 → r.n2 = 0 → s.m.stageFree r.queue = none → exec (.entropyRowEnd e bins pipe spill) s = .next s))
        ∧ (∀ row col bins, r.queue ≤ 1 →
            (r.rows ≠ all → exec (.entropyDecDone e 0 row col bins) s = .next s)
            ∧ (r.rows = all → Steady s r.e.t → Answers (.entropyDecDone e 0 row col bins) s (fun u => u.mem = s.mem ∧ u.m.run e = none ∧
                u.m.g (ENT_STATUS_BUSY e) = 0 ∧
                Finished u r.e (if poison then 3 else 0) e (at_ 55 40 r.rows + min (r.n1 + bins) (2 ^ 32 - 1)))))
        ∧ (∀ bins data, 2 ≤ r.queue →
            let full := decide (bits w1 31 0 < data.length)
            let bytes := data.take (bits w1 31 0)
            (full = false → r.rows ≠ all → exec (.entropyEncDone e bins data) s = .next s)
            ∧ (full = true ∨ r.rows = all → Steady s r.e.t → Answers (.entropyEncDone e bins data) s (fun u => u.m.run e = none ∧
                u.m.g (ENT_STATUS_BUSY e) = 0 ∧ u.mem = (s.putBytes (bytes.length + 1) (9 * bits w1 71 36 + bits w1 35 32) bytes).mem ∧
                Finished u r.e (if full then 1 else 0) e (at_ 55 40 r.rows + at_ 39 32 (if full then 0x22 else 0) + bytes.length)))))
    ∧ (∀ p samples spent rowEnd poison writes lost used drift, p < 8 →
        let segEnd := Instr.pipeSegmentEnd p samples spent rowEnd poison writes lost used drift
        let free := fun (u : State) => u.m.seg (64 + p) = 0 ∧ u.m.g (PIPE_STATUS_BUSY p) = 0 ∧
          u.m.g (PIPE_STATUS_SEGMENTS p) = min (s.m.g (PIPE_STATUS_SEGMENTS p) + 1) (PIPE_STATUS_SEGMENTS p).max
        let key := workKey (s.m.seg (64 + p) - 1)
        (s.m.seg (64 + p) = 0 → exec segEnd s = .next s)
        ∧ (s.m.seg (64 + p) ≠ 0 →
            (s.m.run key = none → Answers segEnd s (fun u => free u ∧ u.mem = s.mem))
            ∧ (∀ r, s.m.run key = some r → r.abandon = false → writes = [] → r.queue = 9 → Answers segEnd s (fun u => free u ∧
                u.mem = s.mem ∧ u.m.run key = some { r with rows := r.rows + if rowEnd then 1 else 0 }))
            ∧ (∀ r a v, s.m.run key = some r → r.abandon = false → r.queue = 8 → writes = [(a, v)] → rowEnd = false → poison = none →
                lost = [] → s.pipeMayWrite r a = true → Unguarded s .device a →
                Answers segEnd s (fun u => free u ∧ u.m.run key = some r ∧ Filled s u a [v]))))
    ∧ (∀ p n tag row pos key r, s.m.findRun 8 n (tagIs 51 20 tag) = some (key, r) → r.n3 = 0 → Steady s n →
        (∀ c, s.m.dec n = some c → c.region = none) →
        let ended := fun (u : State) (inst : Nat) => u.m.run key = none ∧ u.mem = s.mem ∧
          Finished u r.e (if r.bad then 3 else if 0 < r.n2 then 1 else 0) inst
            (at_ 55 40 r.rows + at_ 39 24 (min r.n2 65535) + at_ 23 21 (bits (nthWord r.e.block 0) 54 52))
        (s.m.segsOf r.e.order = 0 → s.m.mayClose n tag r.rows = true →
          Answers (.reconDecDone p n tag 0 row pos []) s (fun u => ended u (p % 8)))
        ∧ (s.m.mayClose n tag r.rows = false → exec (.reconDecDone p n tag 0 row pos []) s = .next s)
        ∧ (∀ q, (s.m.dec n).bind (fun c => c.pic tag) = some q →
            Answers (.picTimeout n tag 0 row pos []) s (fun u => ended u r.inst ∧ q.since + q.limit ≤ u.m.now)))
    ∧ (∀ p n tag pct key r, s.m.findRun 9 n (tagIs 51 20 tag) = some (key, r) → s.m.segsOf r.e.order = 0 → Steady s n →
        (∀ c, s.m.enc n = some c → c.rows ≤ r.rows) →
        let src := nthWord r.e.block 3
        let h := match s.m.enc n with | some c => c.height | none => 1
        Answers (.reconEncDone p n tag pct) s (fun u => u.m.run key = none ∧ u.mem = s.mem ∧
          Finished u r.e (if s.poisonIn (bits src 71 36) (bits src 35 24 * h) then 3 else 0) (p % 8)
            { r with inst := p % 8, n2 := min 100 pct }.partly))
    ∧ Answers .engineMeterWindow s (fun u => u.m.meter = [] ∧ u.mem = s.mem ∧
        ∀ n, n < 512 → s.m.on (CHAN_STATUS_ADMITTED n) = true → s.m.isLive n = true →
          tget (fun _ => 0) u.m.meterOver n = if (List.range 4).any (s.m.overNow n) then 2 else tget (fun _ => 0) s.m.meterOver n - 1)
    ∧ (∀ e band g motion, e < 4 → s.m.seg (128 + e) ≠ 0 →
        let key := workKey (s.m.seg (128 + e) - 1)
        Answers (.searchBandEnd e band g motion) s (fun u => u.m.seg (128 + e) = 0 ∧ u.m.g (SEARCH_STATUS_BUSY e) = 0 ∧
          ∀ r, s.m.run key = some r → r.abandon = false → ∃ x, u.m.run key = some x ∧ x.rows = r.rows + 1 ∧ x.e = r.e))
    ∧ (∀ e n order g r, s.m.run (workKey order) = some r → r.queue = 0x10 → r.e.t = n → s.m.segsOf order = 0 → Steady s n →
        let src := nthWord r.e.block 1
        let real := s.searchGeom r.e g
        (r.rows < geomBands real → exec (.searchDone e n order g) s = .next s)
        ∧ (geomBands real ≤ r.rows → Answers (.searchDone e n order g) s (fun u => u.m.run (workKey order) = none ∧ u.mem = s.mem ∧
            Finished u r.e (if s.poisonIn (bits src 71 36) (bits src 35 24 * real.h) then 3 else 0) (e % 4) r.partly)))
    ∧ (∀ a r, a < 4 → s.m.run (192 + a) = some r → r.abandon = false → Steady s r.e.t →
        let src := nthWord r.e.block 1
        let free := fun (u : State) => u.m.run (192 + a) = none ∧ u.m.g (RATE_STATUS_BUSY a) = 0 ∧ u.mem = s.mem ∧
          u.m.g (RATE_STATUS_PICTURES a) = min (s.m.g (RATE_STATUS_PICTURES a) + 1) (RATE_STATUS_PICTURES a).max
        (s.m.enc r.e.t = none → Answers (.rateDone a) s (fun u => free u ∧ Finished u r.e 0 a 0))
        ∧ (∀ c p, r.e.t < 512 → s.m.enc r.e.t = some c → c.pic (bits (nthWord r.e.block 0) 59 28) = some p →
            let d := s.rateDecide c p (s.m.isLive r.e.t) r.e.block
            Answers (.rateDone a) s (fun u => free u ∧ u.m.enc r.e.t = some d.1 ∧
              Finished u r.e (if s.poisonIn (bits src 71 36) (bits src 35 24 * c.height) then 3 else 0) a d.2.2)))

/-! ### Capture sources -/

/-- Enabling and disabling a source (R324, R336, R348), the frames of the camera ports (R326, R329, R331, R334, R336) and of the flows
(R333, R334), and the return of slots (R326). -/
def Obligations.CaptureCommands : Prop :=
  ∀ (s : State) (i : Nat), i < 24 →
    (∀ mst v, s.m.mayWrite mst (SRC_CTRL_addr i) = true →
      let next := s.onM (fun m => (m.commit (SRC_CTRL_addr i) v).p (SRC_CTRL_ENABLE i) 0)
      (s.m.on (SRC_CTRL_ENABLE i) = true → bits v 71 71 = 1 → exec (.srcEnable mst i v) s = .next s)
      ∧ (s.m.on (SRC_CTRL_ENABLE i) = false → bits v 71 71 = 1 →
          (next.srcCheck i = 0 → Answers (.srcEnable mst i v) s (fun u => u.m.on (SRC_CTRL_ENABLE i) = true ∧ u.mem = s.mem ∧
            u.m.g (SRC_STATUS_STATE i) = (if i < 8 ∧ s.m.g CLK_STATUS_CAP ≠ 1 then 1 else 2) ∧ u.m.g (SRC_STATUS_ENABLE_REASON i) = 0 ∧
            u.m.g (SRC_STATUS_PERIOD_NS i) = 0 ∧ (u.m.source i).serial = 0 ∧ (u.m.source i).frame = none))
          ∧ (next.srcCheck i ≠ 0 → Answers (.srcEnable mst i v) s (fun u => u.m.on (SRC_CTRL_ENABLE i) = false ∧
              u.m.g (SRC_STATUS_STATE i) = 4 ∧ u.m.g (SRC_STATUS_ENABLE_REASON i) = next.srcCheck i ∧
              OnlyRegs s u [SRC_CTRL_addr i, SRC_STATUS_addr i])))
      ∧ (s.m.on (SRC_CTRL_ENABLE i) = true → bits v 71 71 = 0 → Answers (.srcDisable mst i v) s (fun u =>
          u.m.on (SRC_CTRL_ENABLE i) = false ∧ u.m.g (SRC_STATUS_STATE i) = 0 ∧ u.m.g (SRC_STATUS_ENABLE_REASON i) = 0 ∧
          (u.m.source i).frame = none ∧ u.mem = s.mem))
      ∧ (s.m.on (SRC_CTRL_ENABLE i) = false → bits v 71 71 = 0 → Answers (.srcDisable mst i v) s (fun u =>
          u.m.on (SRC_CTRL_ENABLE i) = false ∧ OnlyRegs s u [SRC_CTRL_addr i])))
    ∧ (∀ vc, s.m.portTakes i vc = true →
        ((s.m.source i).frame = none →
          (∀ k, s.m.freeSlot i = some k → Answers (.csiFrameStart i vc) s (fun u => (u.m.source i).slot k = 1 ∧
            (u.m.source i).frame = some { slot := k, serial := (s.m.source i).serial, capture := s.m.now, began := s.m.now, unlocked := s.m.g FAB_TIME_STATUS_STATE == 2 } ∧
            (u.m.source i).serial = ((s.m.source i).serial + 1) % 2 ^ 32 ∧ u.m.g (SRC_STATUS_STATE i) = 3 ∧ u.mem = s.mem))
          ∧ (s.m.freeSlot i = none → Answers (.csiFrameStart i vc) s (fun u => (u.m.source i).frame = none ∧
              (u.m.source i).slots = (s.m.source i).slots ∧ u.m.g (SRC_COUNTS_DISCARDS i) = s.m.wrapped (SRC_COUNTS_DISCARDS i)))
          ∧ (∀ luma cb cr, exec (.csiLongPacket i vc (s.m.g (CAP_LINK_DT i)) true true luma cb cr) s = .next s)
          ∧ (∀ line, exec (.csiLineStart i vc line) s = .next s)
          ∧ ((s.m.source i).skip.isSome = true → Answers (.csiFrameEnd i vc) s (fun u => (u.m.source i).skip = none ∧ u.mem = s.mem))
          ∧ ((s.m.source i).skip = none → Answers (.csiFrameEnd i vc) s (fun u =>
              u.m.g (SRC_ERRORS_PKT_ERRORS i) = s.m.wrapped (SRC_ERRORS_PKT_ERRORS i) ∧ OnlyRegs s u [SRC_ERRORS_addr i])))
        ∧ (∀ dt crc luma cb cr, dt ≠ s.m.g (CAP_LINK_DT i) → Answers (.csiLongPacket i vc dt true crc luma cb cr) s (fun u =>
            u.m.g (SRC_ERRORS_OTHER_PKTS i) = s.m.wrapped (SRC_ERRORS_OTHER_PKTS i) ∧ OnlyRegs s u [SRC_ERRORS_addr i]))
        ∧ (∀ dt crc luma cb cr, Answers (.csiLongPacket i vc dt false crc luma cb cr) s (fun u =>
            u.m.g (SRC_ERRORS_PKT_ERRORS i) = s.m.wrapped (SRC_ERRORS_PKT_ERRORS i) ∧ OnlyRegs s u [SRC_ERRORS_addr i]))
        ∧ (∀ f, (s.m.source i).frame = some f →
            let pic := s.srcPic i f.slot
            let dt := s.m.g (CAP_LINK_DT i)
            (∀ luma cb cr, pic.h ≤ f.next → Answers (.csiLongPacket i vc dt true true luma cb cr) s (fun u => u.mem = s.mem ∧
              (u.m.source i).frame = some { f with isLong := true, next := f.next + 1 }))
            ∧ (∀ luma cb cr, f.next < pic.h → luma ≠ [] → Answers (.csiLongPacket i vc dt true true luma cb cr) s (fun u =>
                ∃ g, (u.m.source i).frame = some g ∧ g.slot = f.slot ∧ g.next = f.next + 1 ∧ g.last = f.next + 1 ∧ g.lost = f.lost ∧
                  (g.badWidth = (f.badWidth || luma.length != pic.w))))
            ∧ (∀ luma cb cr, f.next < pic.h → Answers (.csiLongPacket i vc dt true false luma cb cr) s (fun u =>
                u.m.g (SRC_ERRORS_PKT_ERRORS i) = s.m.wrapped (SRC_ERRORS_PKT_ERRORS i) ∧
                ∃ g, (u.m.source i).frame = some g ∧ g.next = f.next + 1 ∧ g.lost = f.lost + 1))
            ∧ (∀ line, s.m.on (CAP_LINK_LINE_NUMBERS i) = true →
                (line - 1 ≤ f.next → exec (.csiLineStart i vc line) s = .next s)
                ∧ (f.next < line - 1 → Answers (.csiLineStart i vc line) s (fun u =>
                    ∃ g, (u.m.source i).frame = some g ∧ g.slot = f.slot ∧ g.next = line - 1)))
            ∧ (2 * f.last < pic.h ∨ pic.h < 2 * f.lost → Answers (.csiFrameEnd i vc) s (fun u => (u.m.source i).frame = none ∧
                (u.m.source i).slot f.slot = 0 ∧ u.m.g (SRC_COUNTS_DISCARDS i) = s.m.wrapped (SRC_COUNTS_DISCARDS i) ∧ u.mem = s.mem))
            ∧ (pic.h ≤ 2 * f.last → 2 * f.lost ≤ pic.h → Answers (.csiFrameEnd i vc) s (fun u => (u.m.source i).frame = none ∧
                u.m.g (SRC_COUNTS_FRAMES i) = s.m.wrapped (SRC_COUNTS_FRAMES i) ∧
                u.m.g (SRC_COUNTS_SHORTS i) = if f.last < pic.h then s.m.wrapped (SRC_COUNTS_SHORTS i) else s.m.g (SRC_COUNTS_SHORTS i)))))
    ∧ (∀ f x, f < 16 → x.q < 16 → s.m.uplinkUp x.q = true → (s.m.police x.q x.dstPort x.ipLen).2 = true →
        (s.m.flowTakes f x = true → (s.m.source (8 + f)).skip = some x.rts → Answers (.flowPacket f x) s (fun u => u.mem = s.mem ∧
          u.m.sources = s.m.sources))
        ∧ (s.m.flowTakes f x = true → (s.m.source (8 + f)).skip ≠ some x.rts → (s.m.source (8 + f)).frame = none → x.marker = false →
            x.rows = [] → ∀ k, s.m.freeSlot (8 + f) = some k → Answers (.flowPacket f x) s (fun u => ∃ g,
              (u.m.source (8 + f)).frame = some g ∧ g.slot = k ∧ g.rts = x.rts ∧ g.capture = rtpTime x.at_ns x.rts)))
    ∧ (∀ f, (s.m.source i).frame = some f → Answers (.frameTimeout i) s (fun u => (u.m.source i).frame = none ∧
        f.began + max 1 (s.m.g (SRC_CTRL_FRAME_TIMEOUT i)) * 1000000 ≤ u.m.now))
    ∧ (i < 8 →
        (s.m.on (SRC_CTRL_ENABLE i) = true → Answers (.captureNoSignal i) s (fun u => (u.m.source i).frame = none ∧
          u.m.g (SRC_STATUS_STATE i) = 1))
        ∧ (s.m.on (SRC_CTRL_ENABLE i) = false → exec (.captureNoSignal i) s = .next s)
        ∧ (if s.m.g (SRC_STATUS_STATE i) = 1 ∧ s.m.g CLK_STATUS_CAP = 1 then Answers (.csiClockLaneActive i) s (fun u =>
              u.m.g (SRC_STATUS_STATE i) = 2 ∧ OnlyRegs s u [SRC_STATUS_addr i])
           else exec (.csiClockLaneActive i) s = .next s))
    ∧ (∀ m w, s.m.on (SRC_CTRL_ENABLE i) = true → s.m.fifoPop (s.m.g (SRC_CTRL_RETURN_FIFO i)) = (m, some w) →
        let x := s.m.source i
        let k := bits w 62 59
        (bits w 67 63 = i → x.slot k = 2 → Answers (.slotRelease i) s (fun u => u.mem = s.mem ∧
          (u.m.source i).slot k = if x.newest = some k then 3 else 0))
        ∧ (bits w 67 63 ≠ i ∨ x.slot k ≠ 2 → Answers (.slotRelease i) s (fun u => u.m.sources = s.m.sources ∧
            u.m.g (SRC_ERRORS_RELEASE_ERRS i) = s.m.wrapped (SRC_ERRORS_RELEASE_ERRS i))))

/-! ### Scaler-rotators and seam movers -/

/-- The bands and the end of a SCALE (R338, R340, R346, R347); the seam messages received (R362, R363, R366, R367, R369–R375), the
waits for them (R372, R373), departed members (R375, R561), and the end of a SEAM (R364). -/
def Obligations.ScalerAndSeamEvents : Prop :=
  ∀ (s : State), s.m.coreUp = true →
    (∀ k, k < 4 →
      let key := workKey (s.m.seg (256 + k) - 1)
      let free := fun (u : State) => u.m.seg (256 + k) = 0 ∧ u.m.g (SCALE_STATUS_BUSY k) = 0
      (s.m.seg (256 + k) = 0 → exec (.scaleBandEnd k) s = .next s)
      ∧ (s.m.seg (256 + k) ≠ 0 → s.m.run key = none → Answers (.scaleBandEnd k) s (fun u => free u ∧ u.mem = s.mem))
      ∧ (∀ r, s.m.seg (256 + k) ≠ 0 → s.m.run key = some r → r.abandon = false →
          let j := s.scaleJob r.e.t r.e.block
          let rows := r.rows + min j.bandRows (j.out.h - r.rows)
          Answers (.scaleBandEnd k) s (fun u => free u ∧ (∃ x, u.m.run key = some x ∧ x.rows = rows ∧ x.e = r.e) ∧
            ∀ e ∈ u.m.progress, e.writer = 64 + r.e.order → e.lines = rows)))
    ∧ (∀ n order r, s.m.run (workKey order) = some r → r.queue = 0x20 → r.e.t = n → s.m.segsOf order = 0 → Steady s n →
        let j := s.scaleJob n r.e.block
        let d := bits (nthWord r.e.block 1) 71 36
        let o := bits (nthWord r.e.block 1) 35 0
        let bad := r.bad || s.anyPoison d (s.descLen d)
        (r.rows < j.out.h → exec (.scaleDone n order) s = .next s)
        ∧ (j.out.h ≤ r.rows → (∀ i, i < 7 → Unguarded s .device (o + i)) → Answers (.scaleDone n order) s (fun u =>
            u.m.run (workKey order) = none ∧ (∃ l, l.length = 7 ∧ Filled s u o l ∧
              nthWord l 1 = Word.of (at_ 71 36 j.out.luma + at_ 35 24 j.out.pitchY + at_ 23 12 j.out.pitchC) ∧
              nthWord l 2 = Word.of (at_ 71 56 j.out.w + at_ 55 40 j.out.h)) ∧
            Finished u r.e (if bad then 3 else if r.n3 ≠ 0 then 1 else 0) r.inst
              (r.partly + if bad = false ∧ r.n3 ≠ 0 then at_ 39 32 0x26 else 0))))
    ∧ (∀ k kind ws, 1 ≤ kind → kind ≤ 7 →
        let msg : Instr := match kind with
          | 1 => .post k ws | 2 => .pre k ws | 3 => .fetchReq k ws | 4 => .fetchReply k ws | 5 => .fetchNak k ws
          | 6 => .absent k ws | _ => .away k ws
        let w0 := nthWord ws 0
        let w1 := nthWord ws 1
        let src := bits w0 51 34
        (bits w0 71 68 ≠ kind ∨ s.m.groupChan (bits w0 67 52) = none → exec msg s = .next s)
        ∧ (∀ n c g, bits w0 71 68 = kind → s.m.groupChan (bits w0 67 52) = some n → s.m.dec n = some c → c.region = some g →
            let keptRegion := fun (u : State) (P : DecCtx → Region → Prop) => ∃ d h, u.m.dec n = some d ∧ d.region = some h ∧ P d h
            (bits w0 33 16 ≠ s.m.ident ∨ g.placeOf src = none → Answers msg s (fun u => u.m.decs = s.m.decs ∧ u.mem = s.mem ∧
              u.m.g (REGION_CHAN_COUNTS_SEAMS_REJECTED n) = s.m.wrapped (REGION_CHAN_COUNTS_SEAMS_REJECTED n)))
            ∧ (∀ i, bits w0 33 16 = s.m.ident → g.placeOf src = some i →
                let pic := c.keyed (bits w1 71 40) (bits w1 39 24)
                let code := if kind = 1 then bits w0 15 14 else bits w0 15 14 + 4
                let rect := msgRect ws
                (kind ≤ 2 ∨ kind = 6 → pic = none → g.inbox = [] → ws.length ≤ g.inboxN → Answers msg s (fun u => u.mem = s.mem ∧
                  keptRegion u (fun _ h => h.inbox = [ws])))
                ∧ (kind ≤ 2 → Answers msg s (fun u => keptRegion u (fun _ h => src ∉ h.away)))
                ∧ (∀ p, kind ≤ 2 → pic = some p →
                    let inBand := smem (c.seamCodes p) code && rectHas (c.seamBand { g with away := sremove g.away src } p i g.me code) rect && rectSome rect
                    (inBand = false → Answers msg s (fun u => u.mem = s.mem ∧
                      u.m.g (REGION_CHAN_COUNTS_SEAMS_REJECTED n) = s.m.wrapped (REGION_CHAN_COUNTS_SEAMS_REJECTED n)))
                    ∧ (inBand = true → p.touched i code rect = true → Answers msg s (fun u => u.mem = s.mem ∧
                        u.m.g (REGION_CHAN_COUNTS_SEAMS_LATE n) = s.m.wrapped (REGION_CHAN_COUNTS_SEAMS_LATE n)))
                    ∧ (inBand = true → p.touched i code rect = false → Answers msg s (fun u => keptRegion u (fun d _ => ∃ q, d.pic p.tag = some q ∧
                        (i, code, rect.1, rect.2.1, rect.2.2.1, rect.2.2.2) ∈ q.settled))))
                ∧ (kind = 3 → Answers msg s (fun u =>
                    u.m.g (SEAM_STATUS_FETCHES_SERVED (k % 2)) = s.m.counted (SEAM_STATUS_FETCHES_SERVED (k % 2)) ∧ u.mem = s.mem ∧ u.m.decs = s.m.decs))
                ∧ (let mine := fun (f : Fetch) => f.id == bits w1 15 0 && f.owner == src
                   (kind = 4 ∨ kind = 5 → g.fetches.find? mine = none → Answers msg s (fun u => u.m.decs = s.m.decs ∧ u.mem = s.mem))
                   ∧ (∀ f, kind = 4 → g.fetches.find? mine = some f → bits w1 23 23 = 1 → Answers msg s (fun u =>
                       keptRegion u (fun _ h => ∀ x ∈ h.fetches, x.id ≠ f.id)))
                   ∧ (∀ f, kind = 5 → g.fetches.find? mine = some f → Answers msg s (fun u => u.mem = s.mem ∧
                       u.m.g (REGION_CHAN_COUNTS_FETCH_FAILS n) = s.m.wrapped (REGION_CHAN_COUNTS_FETCH_FAILS n) ∧
                       keptRegion u (fun _ h => ∀ x ∈ h.fetches, x.id ≠ f.id))))
                ∧ (kind = 7 → Answers msg s (fun u => keptRegion u (fun _ h => src ∈ h.away))))))
    ∧ (∀ n c g, n < 512 → s.m.dec n = some c → c.region = some g →
        (∀ tag p pre, c.pic tag = some p →
          (pre = false → p.closed = false → exec (.seamWaitExpiry n tag pre) s = .next s)
          ∧ (pre = true ∨ p.closed = true → Answers (.seamWaitExpiry n tag pre) s (fun u =>
              (pre = false → p.since + s.m.seamWait n ≤ u.m.now) ∧ ∃ d q, u.m.dec n = some d ∧ d.pic tag = some q ∧
                ∀ i, i < g.members.length → i ≠ g.me → ∀ code ∈ c.seamCodes p, decide (4 ≤ code) = pre → c.bandDone g q i code = true)))
        ∧ (∀ req f, g.fetches.find? (fun f => f.id == req) = some f → Answers (.fetchWaitExpiry n req) s (fun u => u.mem = s.mem ∧
            f.at_ns + s.m.fetchWait n ≤ u.m.now ∧ u.m.g (REGION_CHAN_COUNTS_FETCH_FAILS n) = s.m.wrapped (REGION_CHAN_COUNTS_FETCH_FAILS n) ∧
            ∃ d h, u.m.dec n = some d ∧ d.region = some h ∧ ∀ x ∈ h.fetches, x.id ≠ req)))
    ∧ (∀ ident, if smem s.m.fab.departed ident = true ∨ ident = s.m.ident then exec (.memberDeparted ident) s = .next s
        else Answers (.memberDeparted ident) s (fun u => ident ∈ u.m.fab.departed ∧
          Out.departNotice (s.m.g FAB_IDENT_DOMAIN_ID) ident ∈ u.m.out))
    ∧ (∀ k n tag key r, s.m.findRun 0x30 n (tagIs 59 28 tag) = some (key, r) → Steady s n →
        (s.m.seamOver n tag r = false → exec (.seamDone k n tag) s = .next s)
        ∧ (s.m.seamOver n tag r = true → s.m.findRun 8 n (tagIs 51 20 tag) = none → Answers (.seamDone k n tag) s (fun u =>
            u.m.run key = none ∧ u.mem = s.mem ∧
              Finished u r.e 0 (k % 2) (r.partly + if s.m.seamInexact n tag then 2 ^ 15 else 0))))

/-! ### Composition, calibration, lamp ports -/

/-- Configuration writes and their release (R388), the check of a lamp map (R385), the calibration updater (R413) and the refresh
start (R425–R427). -/
def Obligations.CompositionCommands : Prop :=
  ∀ (s : State),
    (∀ mst a v, configReg a = true → assigned a = true → s.m.mayWrite mst a = true →
      let next := s.m.commit a v
      let same := fun (u : State) => u.m.rd a = next.rd a ∧ u.m.applied = s.m.applied ∧ u.mem = s.mem ∧ u.m.threads = s.m.threads
      (next.on COMP_CTRL_HOLD_CONFIG = true → a ≠ COMP_CTRL_addr → Answers (.configWrite mst a v) s (fun u => same u ∧
        u.m.cfgSet = s.m.cfgSet ∧ tget (fun _ => 0) u.m.cfgRec a = next.rd a))
      ∧ (next.on COMP_CTRL_HOLD_CONFIG = false → a ≠ COMP_CTRL_addr → Answers (.configWrite mst a v) s (fun u => same u ∧
          u.m.cfgRec = [] ∧ tget (fun _ => 0) u.m.cfgSet a = next.rd a))
      ∧ (let map := bits (next.rd a) 69 69
         a = COMP_CTRL_addr → next.on COMP_CTRL_HOLD_CONFIG = false → map ≠ bits (s.m.rd a) 69 69 →
          Answers (.configWrite mst a v) s (fun u => same u ∧ u.m.cfgRec = [] ∧ u.m.mapReady = none ∧
            u.m.mapCheck = if map = s.m.g COMP_STATUS_ACTIVE_MAP then none else some map)))
    ∧ (∀ mst a v, configReg a = false ∨ assigned a = false → exec (.configWrite mst a v) s = .next s)
    ∧ (∀ mst v, s.m.mayWrite mst COMP_CTRL_addr = true → Answers (.holdConfigClear mst v) s (fun u =>
        u.m.on COMP_CTRL_HOLD_CONFIG = false ∧ u.m.on COMP_CTRL_ENABLE = (bits v 71 71 == 1) ∧ u.m.cfgRec = [] ∧ u.mem = s.mem ∧
        ∀ a w, a ≠ COMP_CTRL_addr → s.m.cfgRec = [(a, w)] → tget (fun _ => 0) u.m.cfgSet a = w))
    ∧ (s.m.mapCheck = none → exec .mapCheckDone s = .next s)
    ∧ (∀ k, s.m.mapCheck = some k →
        (s.mapFail k = none → Answers .mapCheckDone s (fun u => u.m.mapCheck = none ∧ u.m.mapReady = some k ∧
          u.m.g COMP_STATUS_MAP_ERROR = 0 ∧ u.mem = s.mem))
        ∧ (∀ p, s.mapFail k = some p → Answers .mapCheckDone s (fun u => u.m.mapCheck = none ∧ u.m.mapReady = s.m.mapReady ∧
            u.m.g COMP_STATUS_MAP_ERROR = 1 ∧ u.m.g COMP_STATUS_ERR_PANEL = p ∧ u.mem = s.mem)))
    ∧ (∀ mst v, s.m.mayWrite mst CAL_CMD_addr = true →
        (bits v 35 12 = 0 → exec (.calCmd mst v) s = .next s)
        ∧ (bits v 35 12 ≠ 0 → s.m.on CAL_STATUS_BUSY = true → Answers (.calCmd mst v) s (fun u => u.m.on CAL_STATUS_CMD_DROP = true ∧
            OnlyRegs s u [CAL_STATUS_addr]))
        ∧ (bits v 35 12 ≠ 0 → s.m.on CAL_STATUS_BUSY = false → Answers (.calCmd mst v) s (fun u => u.m.on CAL_STATUS_BUSY = true ∧
            u.m.on CAL_STATUS_CMD_DROP = false ∧ u.m.on CAL_STATUS_LIST_ERROR = false ∧ u.m.g CAL_STATUS_ENTRIES_DONE = 0 ∧
            u.m.calRun = some (bits v 71 36, bits v 35 12) ∧ RegsBut s u [CAL_STATUS_addr])))
    ∧ (s.m.calRun = none → exec .calListDone s = .next s)
    ∧ (∀ a n, s.m.calRun = some (a, n) →
        let w := s.dram a
        let rec0 := s.m.lampRec (bits w 71 47)
        let ends := fun (u : State) => u.m.on CAL_STATUS_BUSY = false ∧ u.m.calRun = none
        Answers .calListDone s (fun u => ends u ∧ u.mem = (s.calList a n).mem)
        ∧ (0 < n → s.calEntryOk a = false → Answers .calListDone s (fun u => ends u ∧ u.m.on CAL_STATUS_LIST_ERROR = true ∧ u.mem = s.mem))
        ∧ (n = 1 → s.calEntryOk a = true → bits w 46 22 = 0 → bits w 21 20 = 0 → (∀ j, j < 3 → Unguarded s .updater (rec0 + j)) →
            Answers .calListDone s (fun u => ends u ∧ u.dram rec0 = s.dram rec0 ∧
              Filled s u (rec0 + 1) [s.dram (a + 1), effective (s.dram (a + 1)) (s.dram rec0)])))
    ∧ (s.m.coreUp = false → ∀ overrun, exec (.refreshStart overrun) s = .next s)
    ∧ (s.m.coreUp = true → ∀ overrun, Answers (.refreshStart overrun) s (fun u =>
        let next := s.m.nextRefresh
        u.m.rd REFRESH_LAST_addr = timeWord next.1 ∧ next.1 ≤ u.m.now ∧ u.m.on REFRESH_STATUS_LOCKED = (next.2.2 == 1) ∧
          u.m.on REFRESH_STATUS_GENLOCK_HOLD = (next.2.2 == 2) ∧ u.m.inRefresh = s.m.on COMP_CTRL_ENABLE ∧
          u.m.g COMP_STATUS_REFRESH_COUNT = s.m.wrapped COMP_STATUS_REFRESH_COUNT))

/-- The lamp ports: links (R416, R418, R429), the frames that leave (R428), cards (R420, R423, R424), HOLD and BLANK (R429), and the
calibration upload (R430). -/
def Obligations.LampPortCommands : Prop :=
  ∀ (s : State) (p : Nat), p < 64 →
    let low := allFrame 0x00 0 0 []
    (∀ mst v, s.m.mayWrite mst (PORT_CTRL_addr p) = true →
      (s.m.on (PORT_CTRL_ENABLE p) = false → bits v 71 71 = 1 → Answers (.portEnable mst p v) s (fun u =>
        u.m.on (PORT_CTRL_ENABLE p) = true ∧ u.m.g (PORT_CTRL_RATE p) = bits v 70 69 ∧ u.m.g (PORT_STATUS_STATE p) = 1 ∧ u.m.lport p = {} ∧
        RegsBut s u [PORT_CTRL_addr p, PORT_STATUS_addr p]))
      ∧ (s.m.on (PORT_CTRL_ENABLE p) = true → bits v 71 71 = 0 → Answers (.portEnable mst p v) s (fun u =>
          u.m.on (PORT_CTRL_ENABLE p) = false ∧ u.m.g (PORT_CTRL_RATE p) = s.m.g (PORT_CTRL_RATE p) ∧ u.m.g (PORT_STATUS_STATE p) = 0 ∧
          u.m.lport p = {} ∧ u.mem = s.mem))
      ∧ (s.m.on (PORT_CTRL_ENABLE p) = true → bits v 71 71 = 1 → s.m.portUp p = true → Answers (.portBlank mst p v) s (fun u =>
          (u.m.lport p).urgent = (s.m.lport p).urgent ++ [allFrame 0x14 0 0 []] ∧ RegsBut s u [PORT_CTRL_addr p])))
    ∧ (∀ rate, let want := s.m.g (PORT_CTRL_RATE p)
        (s.m.g (PORT_STATUS_STATE p) = 1 → want = rate ∨ (want = 3 ∧ rate ≤ 2) → Answers (.lampLinkUp p rate) s (fun u =>
          u.m.g (PORT_STATUS_STATE p) = 2 ∧ u.m.g (PORT_STATUS_RATE_UP p) = rate ∧ u.m.lport p = { lastTx := s.m.now, low := [low] } ∧
          u.mem = s.mem))
        ∧ (s.m.g (PORT_STATUS_STATE p) ≠ 1 ∨ (want ≠ rate ∧ (want ≠ 3 ∨ 2 < rate)) → exec (.lampLinkUp p rate) s = .next s))
    ∧ (s.m.g (PORT_STATUS_STATE p) = 1 → Answers (.lampLinkRetry p) s (fun u => u.mem = s.mem ∧ u.m.regs = s.m.regs ∧
        (u.m.lport p).tryCount = (s.m.lport p).tryCount + 1 ∧ (u.m.lport p).tryRate =
          if s.m.g (PORT_CTRL_RATE p) = 3 then ((s.m.lport p).tryRate + 1) % 3 else (s.m.lport p).tryRate))
    ∧ (s.m.portUp p = false → exec (.lampLinkDown p) s = .next s ∧ exec (.lampFrameTx p) s = .next s ∧ exec (.holdTimer p) s = .next s ∧
        exec (.discoverTimer p) s = .next s ∧ ∀ f, exec (.cardHello p f) s = .next s ∧ exec (.cardStatus p f) s = .next s ∧
          exec (.calData p f) s = .next s)
    ∧ (s.m.portUp p = true →
        let x := s.m.lport p
        let sends := fun (u : State) (kind card first count : Nat) => (∃ v a q b c, u.m.out = .lampFrame p kind v a card q first count b c :: s.m.out) ∧
          u.m.g (PORT_COUNTS_FRAMES_SENT p) = s.m.wrapped (PORT_COUNTS_FRAMES_SENT p) ∧ (u.m.lport p).lastTx = s.m.now ∧ u.mem = s.mem
        ((∀ v, s.m.upload = some v → v.port ≠ p) → Answers (.lampLinkDown p) s (fun u => u.m.g (PORT_STATUS_STATE p) = 1 ∧
            u.m.lport p = {} ∧ u.m.g (PORT_ERRORS_LINK_DOWNS p) = s.m.wrapped (PORT_ERRORS_LINK_DOWNS p) ∧ u.mem = s.mem))
          ∧ (∀ f r, x.urgent = f :: r → Answers (.lampFrameTx p) s (fun u => sends u f.kind f.card f.first f.count ∧ (u.m.lport p).urgent = r))
          ∧ (x.urgent = [] → s.m.halted = true → exec (.lampFrameTx p) s = .next s)
          ∧ (x.urgent = [] → s.m.halted = false →
              (∀ f r, x.live = f :: r → Answers (.lampFrameTx p) s (fun u => sends u 0x12 f.card f.first f.count ∧ (u.m.lport p).live = r ∧
                u.m.g (PORT_COUNTS_LIVE_FRAMES p) = s.m.wrapped (PORT_COUNTS_LIVE_FRAMES p)))
              ∧ (∀ f r, x.live = [] → x.data = f :: r → Answers (.lampFrameTx p) s (fun u => sends u 0x10 f.card f.first f.count ∧
                  (u.m.lport p).data = r))
              ∧ (∀ f r, x.live = [] → x.data = [] → x.low = f :: r → Answers (.lampFrameTx p) s (fun u =>
                  sends u f.kind f.card f.first f.count ∧ (u.m.lport p).low = r))
              ∧ (x.live = [] → x.data = [] → x.low = [] → exec (.lampFrameTx p) s = .next s))
          ∧ Answers (.holdTimer p) s (fun u => (u.m.lport p).urgent = x.urgent ++ [allFrame 0x13 0 0 []] ∧ x.lastTx + 1000000 ≤ u.m.now ∧
              u.mem = s.mem ∧ u.m.regs = s.m.regs)
          ∧ (s.m.halted = false → Answers (.discoverTimer p) s (fun u => (u.m.lport p).low = x.low ++ [low] ∧
              ∀ c, c < 1024 → (s.m.card p c).st ≠ 0 → 3 ≤ (s.m.card p c).missed → (u.m.card p c).st = 0)))
    ∧ (s.m.portUp p = true → ∀ f : CardFrame,
        let old := s.m.card p f.card
        let bad := fun (i : Instr) => Answers i s (fun u => u.m.g (PORT_ERRORS_RX_BAD p) = s.m.wrapped (PORT_ERRORS_RX_BAD p) ∧
          OnlyRegs s u [(PORT_ERRORS_RX_BAD p).a])
        let all := [Instr.cardHello p f, .cardStatus p f, .calData p f]
        let read := f.fcsOk && f.sound
        (f.fcsOk = false → ∀ i ∈ all, Answers i s (fun u => u.m.g (PORT_ERRORS_RX_FCS p) = s.m.wrapped (PORT_ERRORS_RX_FCS p) ∧
          OnlyRegs s u [(PORT_ERRORS_RX_FCS p).a]))
        ∧ (f.fcsOk = true → f.sound = false → ∀ i ∈ all, bad i)
        ∧ (read = true → helloOk f = false → bad (.cardHello p f))
        ∧ (read = true → helloOk f = true → Answers (.cardHello p f) s (fun u =>
            let x := u.m.card p f.card
            x.ver = negotiate (beAt f.body 0 1) s.m.protoMax ∧ x.w = beAt f.body 2 2 ∧ x.h = beAt f.body 4 2 ∧ x.crc = beAt f.body 8 4 ∧
              x.serial = beAt f.body 13 8 ∧ x.missed = 0 ∧ x.seen = true ∧ (s.panelOf p f.card = none → x.st = 1) ∧
              ∀ q, s.panelOf p f.card = some q → x.st = if q.w ≠ x.w ∨ q.h ≠ x.h then 2 else if x.ver = 0 then 3 else 1))
        ∧ (read = true → f.version = 2 ∧ old.ver = 2 ∧ f.body.length = 5 → Answers (.cardStatus p f) s (fun u =>
            u.m.card p f.card = { old with temp := beAt f.body 0 2, openLamps := beAt f.body 2 3 }))
        ∧ (read = true → ¬ (f.version = 2 ∧ old.ver = 2 ∧ f.body.length = 5) → bad (.cardStatus p f))
        ∧ (read = true → f.version ≠ max 1 old.ver ∨ f.body.length ≠ 9 * f.count → bad (.calData p f))
        ∧ (read = true → f.version = max 1 old.ver → f.body.length = 9 * f.count →
            (s.m.upload = none → exec (.calData p f) s = .next s)
            ∧ (∀ u0, s.m.upload = some u0 →
                (u0.port ≠ p ∨ u0.card ≠ f.card → exec (.calData p f) s = .next s)
                ∧ (u0.port = p → u0.card = f.card → f.first ≠ u0.next → Answers (.calData p f) s (fun u => u.m.upload = some u0))
                ∧ (u0.port = p → u0.card = f.card → f.first = u0.next → f.count = min 160 (old.w * old.h - u0.next) →
                    u0.next + f.count < old.w * old.h → Answers (.calData p f) s (fun u =>
                      u.m.upload = some { u0 with next := u0.next + f.count, tries := 1 })))))
    ∧ (s.m.upQ = [] →
        let ended := fun (u : State) (q c result : Nat) => u.m.upload = none ∧ u.m.g UPLOAD_STATUS_BUSY = 0 ∧
          u.m.g UPLOAD_STATUS_LAST_RESULT = result ∧ u.m.g UPLOAD_STATUS_LAST_PORT = UPLOAD_STATUS_LAST_PORT.keeps q ∧
          u.m.g UPLOAD_STATUS_LAST_CARD = UPLOAD_STATUS_LAST_CARD.keeps c ∧ u.mem = s.mem ∧
          u.m.g UPLOAD_STATUS_UPLOADS = s.m.wrapped UPLOAD_STATUS_UPLOADS
        (∀ mst v, s.m.mayWrite mst UPLOAD_CMD_addr = true → bits v 55 55 = 0 → s.m.upload = none →
          let q := bits v 71 66
          let c := bits v 65 56
          (s.uploadCheck q c ≠ 0 → Answers (.uploadCmd mst v) s (fun u => ended u q c (s.uploadCheck q c)))
          ∧ (s.uploadCheck q c = 0 → Answers (.uploadCmd mst v) s (fun u => u.m.on UPLOAD_STATUS_BUSY = true ∧ u.mem = s.mem ∧
              u.m.upload = some ⟨q, c, 0, 1, (s.m.card q c).crc, (s.m.card q c).serial⟩)))
        ∧ (∀ v, s.m.upload = some v → 3 ≤ v.tries → Answers .calReqTimeout s (fun u => ended u v.port v.card 4)))
    ∧ (s.m.upload = none → exec .calReqTimeout s = .next s)
    ∧ (∀ v, s.m.upload = some v → v.tries < 3 → Answers .calReqTimeout s (fun u => u.mem = s.mem ∧ u.m.regs = s.m.regs ∧
        u.m.upload = some { v with tries := v.tries + 1 }))
    ∧ (∀ mst v, s.m.mayWrite mst UPLOAD_CMD_addr = true → bits v 55 55 = 0 → s.m.upload.isSome = true →
        (s.m.upQ.length < 1024 → Answers (.uploadCmd mst v) s (fun u => u.m.upQ = s.m.upQ ++ [(bits v 71 66, bits v 65 56)] ∧
          u.m.upload = s.m.upload ∧ u.mem = s.mem))
        ∧ (1024 ≤ s.m.upQ.length → Answers (.uploadCmd mst v) s (fun u => u.m.g UPLOAD_STATUS_DROPS = s.m.wrapped UPLOAD_STATUS_DROPS ∧
            OnlyRegs s u [UPLOAD_STATUS_addr])))

/-! ### The content store -/

/-- The drives: their ports and states (R521), NVMe completions (R523) and what a drive reaches of memory (R520). -/
def Obligations.DriveCommands : Prop :=
  ∀ (s : State) (d : Nat), d < 4 →
    let bit := Nat.testBit (s.m.g CS_CTRL_ENABLE) d
    let idle := s.m.driveRuns d = [] ∧ ∀ e ∈ s.m.queue 0x38, (contentOf e.block).d ≠ d
    let shows := fun (u : State) (st reason : Nat) => u.m.g (CS_DRIVE_STATE d) = st ∧ u.m.g (CS_DRIVE_REASON d) = reason ∧ u.mem = s.mem
    (∀ mst, s.m.mayWrite mst CS_CTRL_addr = true →
      (bit = true → exec (.driveEnable mst d) s = .next s)
      ∧ (bit = false → exec (.driveDisable mst d) s = .next s ∧ Answers (.driveEnable mst d) s (fun u => shows u 1 0 ∧
          Nat.testBit (u.m.g CS_CTRL_ENABLE) d = true ∧ Sent s u [.drivePerst d true] ∧ RegsBut s u [CS_CTRL_addr, CS_DRIVE_addr d]))
      ∧ (bit = true → idle → Answers (.driveDisable mst d) s (fun u => shows u 0 0 ∧ Nat.testBit (u.m.g CS_CTRL_ENABLE) d = false ∧
          u.m.g (CS_DRIVE_SPEED d) = 0 ∧ u.m.g (CS_DRIVE_WIDTH d) = 0 ∧ Sent s u [.drivePerst d false] ∧
          RegsBut s u [CS_CTRL_addr, CS_DRIVE_addr d])))
    ∧ (∀ speed width, if s.m.driveIn d [1] = true then Answers (.driveLinkUp d speed width) s (fun u => shows u 2 0 ∧
          u.m.g (CS_DRIVE_SPEED d) = min speed s.m.driveMaxSpeed ∧ u.m.g (CS_DRIVE_WIDTH d) = min width 2 ∧ OnlyRegs s u [CS_DRIVE_addr d])
        else exec (.driveLinkUp d speed width) s = .next s)
    ∧ (if s.m.driveIn d [1] = true then Answers (.driveLinkRetry d) s (fun u => Sent s u [.drive d 0xFF 0 0] ∧ u.mem = s.mem ∧
          u.m.regs = s.m.regs) else exec (.driveLinkRetry d) s = .next s)
    ∧ (∀ reason blocks most is4k, s.m.driveIn d [2] = true → reason < 16 →
        let above := decide (64 * 2 ^ 40 < s.m.capacityInUse d + blocks * if is4k then 4096 else 512)
        Answers (.driveInitDone d reason blocks most is4k) s (fun u => u.m.on (CS_DRIVE_BLOCK_4K d) = is4k ∧
          u.m.g (CS_CAPACITY_BLOCKS d) = (CS_CAPACITY_BLOCKS d).keeps blocks ∧ tget (fun _ => 0) u.m.driveMdts d = most ∧
          shows u (if reason ≠ 0 ∨ above then 4 else 3) (if reason ≠ 0 then reason else if above then 4 else 0)))
    ∧ (if s.m.driveIn d [2] = true then Answers (.driveInitTimeout d) s (fun u => shows u 5 5 ∧ OnlyRegs s u [CS_DRIVE_addr d])
       else exec (.driveInitTimeout d) s = .next s)
    ∧ (s.m.driveIn d [3] = false ∨ s.m.driveRuns d = [] → exec (.driveCommandTimeout d) s = .next s)
    ∧ (s.m.driveIn d [3] = true → s.m.driveRuns d ≠ [] →
        let late := ((tget (fun _ => []) s.m.driveResets d).filter (fun t => decide (s.m.now < t + 60000000000))).length
        Answers (.driveCommandTimeout d) s (fun u => u.m.g (CS_COUNTS_RESETS d) = s.m.wrapped (CS_COUNTS_RESETS d) ∧
          u.m.g (CS_DRIVE_STATE d) = (if 2 ≤ late then 5 else 2) ∧ u.m.g (CS_DRIVE_REASON d) = if 2 ≤ late then 6 else 0))
    ∧ (if s.m.driveIn d [3] = true then Answers (.driveLinkDown d) s (fun u => u.m.g (CS_DRIVE_STATE d) = 1 ∧
          u.m.g (CS_DRIVE_REASON d) = 0 ∧ u.m.g (CS_DRIVE_SPEED d) = 0 ∧ u.m.g (CS_DRIVE_WIDTH d) = 0)
       else exec (.driveLinkDown d) s = .next s)
    ∧ (∀ slot sct sc data, slot < 256 → sct < 8 → sc < 256 → s.m.driveIn d [3] = true →
        let key := 384 + 256 * d + slot
        let cmd := Instr.nvmeCompletion d slot sct sc data
        (s.m.run key = none → exec cmd s = .next s)
        ∧ (∀ r, s.m.run key = some r → Steady s r.e.t →
            let c := contentOf r.e.block
            let n := r.n1 * s.m.blockSize c.d
            (sct = 0 → sc = 0 → c.op = 1 → data.length ≠ n → exec cmd s = .next s)
            ∧ (sct = 0 → sc = 0 → c.op ≠ 1 ∨ data.length = n → c.op = 3 ∨ c.blocks ≤ r.rows + r.n1 → r.abandon = false →
                Answers cmd s (fun u => u.m.run key = none ∧ Finished u r.e 0 0 (contentResult (r.rows + r.n1) 0 0 0)))
            ∧ (sct ≠ 0 ∨ sc ≠ 0 → r.abandon = false → Answers cmd s (fun u => u.m.run key = none ∧
                Finished u r.e 1 0 (contentResult r.rows 0x2C sct sc)))))
    ∧ (∀ write a bytes, if s.m.driveIn d [2, 3] = true then
          (9 * s.m.capacity < a + bytes.length → Answers (.driveMemoryAccess d write a bytes) s (fun u => Sent s u [.unsupported a] ∧
            u.mem = s.mem ∧ u.m.regs = s.m.regs))
          ∧ (a + bytes.length ≤ 9 * s.m.capacity → Answers (.driveMemoryAccess d true a bytes) s (fun u =>
              u.mem = (s.putBytes (bytes.length + 1) a bytes).mem))
          ∧ (a + bytes.length ≤ 9 * s.m.capacity → Answers (.driveMemoryAccess d false a bytes) s (fun u => u.mem = s.mem ∧
              Sent s u [.driveData d a (s.bytesAt a bytes.length)] ∧ u.m.regs = s.m.regs))
        else exec (.driveMemoryAccess d write a bytes) s = .next s)

/-! ### Egress ports, uplinks and ingest -/

/-- Gate lists (R583, R585–R587), the start of a frame and its fit (R582, R584), PFC pauses (R589), shapers (R590), and the egress
streams (R602). -/
def Obligations.GateAndPortCommands : Prop :=
  ∀ (s : State) (port : Nat), port < 24 →
    (∀ mst v, s.m.mayWrite mst (GATE_CTRL_addr port) = true →
      let next := s.m.commit (GATE_CTRL_addr port) v
      let why := next.swapCheck port (next.g (GATE_CTRL_LIST port)) (next.g (GATE_CTRL_LEN port)) (next.g (GATE_CTRL_CYCLE_NS port)) (s.m.rd (GATE_BASE_addr port))
      (bits v 69 69 = 1 → bits v 68 68 = 0 → s.m.gateSwapOf port = none → Answers (.gateSwapReq mst port v) s (fun u =>
        u.mem = s.mem ∧ u.m.g (GATE_STATUS_SWAP_RESULT port) = why ∧ u.m.gateSwapOf port = if why = 0 then
          some ⟨next.g (GATE_CTRL_LIST port), next.g (GATE_CTRL_LEN port), next.g (GATE_CTRL_CYCLE_NS port), timeNs (s.m.rd (GATE_BASE_addr port)),
            swapMoment s.m.now (timeNs (s.m.rd (GATE_BASE_addr port))) (next.g (GATE_CTRL_CYCLE_NS port))⟩ else none))
      ∧ (∀ x, bits v 69 69 = 1 → bits v 68 68 = 0 → s.m.gateSwapOf port = some x → Answers (.gateSwapReq mst port v) s (fun u =>
          u.mem = s.mem ∧ u.m.gateSwapOf port = some x ∧ u.m.g (GATE_STATUS_SWAP_RESULT port) = s.m.g (GATE_STATUS_SWAP_RESULT port)))
      ∧ (bits v 69 69 = 0 → bits v 68 68 = 1 → Answers (.gateCancel mst port v) s (fun u => u.mem = s.mem ∧ u.m.gateSwapOf port = none ∧
          u.m.g (GATE_STATUS_SWAP_PENDING port) = 0 ∧ u.m.g (GATE_STATUS_SWAP_RESULT port) = s.m.g (GATE_STATUS_SWAP_RESULT port))))
    ∧ (s.m.gateSwapOf port = none → exec (.gateSwapEffect port) s = .next s)
    ∧ (∀ x, s.m.gateSwapOf port = some x → x.list < 2 → x.len ≤ 256 → x.cycle < 2 ^ 32 → Answers (.gateSwapEffect port) s (fun u =>
        u.mem = s.mem ∧ u.m.gateSwapOf port = none ∧ u.m.g (GATE_STATUS_SWAP_PENDING port) = 0 ∧ u.m.now = max s.m.now x.at_ns ∧
        u.m.g (GATE_STATUS_ACTIVE_LIST port) = x.list ∧ u.m.g (GATE_STATUS_ACTIVE_LEN port) = x.len ∧
        u.m.g (GATE_STATUS_ACTIVE_CYCLE_NS port) = x.cycle ∧ u.m.activeBase port = x.base ∧ u.m.rd (GATE_SWAP_TIME_addr port) = timeWord x.at_ns ∧
        u.m.g (GATE_STATUS_LIVE_GAP_NS port) = min (liveGap (u.m.activeSlots port)) 65535 ∧
        u.m.on (GATE_STATUS_LIVE_GAP_OVER port) = decide (7000 < liveGap (u.m.activeSlots port))))
    ∧ (s.m.gatesAct port = false → exec (.gateEntryEnd port) s = .next s)
    ∧ (∀ g d r, s.m.gatesAct port = true → s.m.slotsNow port = (g, d) :: r →
        Answers (.gateEntryEnd port) s (fun u => u.m.now = s.m.now + d ∧ { u with m := { u.m with now := s.m.now } } = s))
    ∧ (let at_idle := s.m.reach (tget (fun _ => 0) s.m.tr.txEnd port)
       (s.m.egressUp port = false → Answers (.egressFrameStart port) s (fun u => u.m = at_idle ∧ u.mem = s.mem))
       ∧ (∀ cls f r, cls < 8 → s.m.egressUp port = true → s.m.eq port cls = f :: r → (∀ k, cls < k → k < 8 → s.m.eq port k = []) →
          at_idle.mayStart port cls = true →
          (s.m.on (GATE_CTRL_FIT_HOLD port) = false ∨ at_idle.fitsWindow port cls f = true → Answers (.egressFrameStart port) s (fun u =>
            u.mem = s.mem ∧ u.m.eq port cls = r ∧ tget (fun _ => 0) u.m.tr.txEnd port = at_idle.now + s.m.frameNs port f ∧
            u.m.g (GATE_COUNTS_OVERRUNS port) = (if at_idle.fitsWindow port cls f then s.m.g (GATE_COUNTS_OVERRUNS port) else s.m.wrapped (GATE_COUNTS_OVERRUNS port)) ∧
            ∃ l, u.m.out = l ++ (match f.gram with
              | some g => Out.uplinkFrame (port - 8) cls g
              | none => Out.chainFrame port (f.words ++ [s.m.trailer port f.words (f.lat + (at_idle.now - f.since))])) :: s.m.out))
          ∧ (s.m.on (GATE_CTRL_FIT_HOLD port) = true → at_idle.fitsWindow port cls f = false → (∀ k, k < cls → s.m.eq port k = []) → f.held = false →
              Answers (.egressFrameStart port) s (fun u => u.m.eq port cls = { f with held := true } :: r ∧ u.m.out = s.m.out ∧
                u.m.g (GATE_COUNTS_FIT_HOLDS port) = s.m.wrapped (GATE_COUNTS_FIT_HOLDS port) ∧ u.mem = s.mem))))
    ∧ (∀ q enables quanta, q < 16 →
        (s.m.uplinkUp q = false ∨ s.m.on (UPLINK_SRC_PFC_EN q) = false → exec (.pfcFrame q enables quanta) s = .next s)
        ∧ (s.m.uplinkUp q = true → s.m.on (UPLINK_SRC_PFC_EN q) = true → Answers (.pfcFrame q enables quanta) s (fun u =>
            { u with m := { u.m with tr := { u.m.tr with pfcUntil := s.m.tr.pfcUntil } } } = s ∧
            ∀ k, k < 8 → tget (fun _ => 0) u.m.tr.pfcUntil ((8 + q) * 8 + k) =
              let n := ceilDiv (quanta.getD k 0 % 65536 * 512) (s.m.portRate (8 + q))
              if k < 7 ∧ Nat.testBit enables k = true then (if n = 0 then 0 else s.m.now + n)
              else tget (fun _ => 0) s.m.tr.pfcUntil ((8 + q) * 8 + k))))
    ∧ (∀ cls, cls < 8 →
        let t := tget (fun _ => 0) s.m.tr.pfcUntil (port * 8 + cls)
        let c := s.m.creditNow port cls
        (t = 0 ∨ cls = 7 → exec (.pfcPauseEnd port cls) s = .next s)
        ∧ (t ≠ 0 → cls ≠ 7 → Answers (.pfcPauseEnd port cls) s (fun u => u.m.now = max s.m.now t ∧
            tget (fun _ => 0) u.m.tr.pfcUntil (port * 8 + cls) = 0 ∧ u.m.peerStopped port cls = (decide (port < 8) && s.m.peerStopped port cls) ∧
            u.m.regs = s.m.regs ∧ u.mem = s.mem))
        ∧ (s.m.shaped port cls = false ∨ 0 ≤ c ∨ s.m.g (SHAPER_RATE port cls) = 0 → exec (.shaperCredit port cls) s = .next s)
        ∧ (s.m.shaped port cls = true → c < 0 → s.m.g (SHAPER_RATE port cls) ≠ 0 → s.m.gatesAct port = false →
            Answers (.shaperCredit port cls) s (fun u => u.m.now = s.m.now + ceilDiv (-c).toNat (s.m.g (SHAPER_RATE port cls)) ∧
              0 ≤ u.m.creditNow port cls ∧ u.m.regs = s.m.regs ∧ u.mem = s.mem)))
    ∧ (∀ c, c < 64 →
        (s.m.coreUp = false ∨ s.m.streamFifo c = none → exec (.egressStreamPop c) s = .next s)
        ∧ (∀ f head, s.m.coreUp = true → s.m.streamFifo c = some f → (s.m.fifoPop f).2 = some head →
            let body := ((s.m.fifoPop f).1.popWords f (bits head 7 0)).2
            let w0 := nthWord body 0
            let len := bits w0 15 0
            let v6 := s.m.on (TX_CTRL_IPV6 c)
            let q := s.m.uplinkPort (s.m.g (TX_CTRL_UPLINK c)) (s.m.g (TX_CTRL_SUBPORT c))
            let fits := bits w0 71 16 = 0 ∧ 1 ≤ len ∧ len ≤ 9 * (body.length - 1) ∧ len ≤ (if v6 then 1452 else 1472)
            (s.m.on (TX_CTRL_ENABLE c) = true → fits → s.m.uplinkUp q = true → Answers (.egressStreamPop c) s (fun u =>
              u.m.g (TX_COUNTS_PACKETS c) = s.m.wrapped (TX_COUNTS_PACKETS c) ∧ u.mem = s.mem ∧
              ∃ e g, u.m.eq (8 + q) (s.m.g (TX_CTRL_TCLASS c)) = s.m.eq (8 + q) (s.m.g (TX_CTRL_TCLASS c)) ++ [e] ∧ e.gram = some g ∧
                g.body = ((body.drop 1).flatMap wordBytes).take len ∧ g.dstPort = s.m.g (TX_CTRL_DST_PORT c)))
            ∧ (s.m.on (TX_CTRL_ENABLE c) = false ∨ ¬ fits → Answers (.egressStreamPop c) s (fun u => u.m.egress = s.m.egress ∧
                u.m.g (TX_COUNTS_DROPS c) = s.m.wrapped (TX_COUNTS_DROPS c) ∧ u.m.g (TX_COUNTS_PACKETS c) = s.m.g (TX_COUNTS_PACKETS c)))))

/-- Uplinks (R594, R595, R603), received frames (R591, R595), and ingest receivers (R596–R601). -/
def Obligations.UplinkAndIngestCommands : Prop :=
  ∀ (s : State),
    (∀ mst x v, x < 4 → s.m.mayWrite mst (UPLINK_CTRL_addr x) = true →
      (s.m.on (UPLINK_CTRL_ENABLE x) = true → bits v 71 71 = 1 → exec (.uplinkEnable mst x v) s = .next s)
      ∧ (s.m.on (UPLINK_CTRL_ENABLE x) = true → bits v 71 71 = 0 → Answers (.uplinkEnable mst x v) s (fun u =>
          u.m.on (UPLINK_CTRL_ENABLE x) = false ∧ ∀ q ∈ s.m.portsOf x, u.m.g (UPLINK_STATUS_STATE q) = 0 ∧ u.m.g (UPLINK_STATUS_FEC_LOCK q) = 0))
      ∧ (s.m.on (UPLINK_CTRL_ENABLE x) = false → Answers (.uplinkEnable mst x v) s (fun u => u.m.g (UPLINK_CTRL_SPLIT x) = bits v 70 70 ∧
          u.m.g (UPLINK_CTRL_FEC25 x) = bits v 69 69 ∧ u.m.g (UPLINK_CTRL_ENABLE x) = bits v 71 71 ∧ u.mem = s.mem ∧
          ∀ q, q < 16 → u.m.g (UPLINK_STATUS_STATE q) = if bits v 71 71 = 1 ∧ q ∈ u.m.portsOf x then 1 else s.m.g (UPLINK_STATUS_STATE q))))
    ∧ (∀ q fec, q < 16 →
        let ready := s.m.g (UPLINK_STATUS_STATE q) = 1 ∧ s.m.on (UPLINK_CTRL_ENABLE (q / 4)) = true
        (¬ ready → exec (.uplinkUp q fec) s = .next s)
        ∧ (ready → Answers (.uplinkUp q fec) s (fun u => u.m.uplinkUp q = true ∧ u.m.on (UPLINK_STATUS_FEC_LOCK q) = fec ∧ u.mem = s.mem ∧
            (∀ k, k < 7 → s.m.shaped (8 + q) k = true → u.m.creditNow (8 + q) k = s.m.maxCredit (8 + q) k) ∧
            ∀ i ∈ s.m.flowsOn q, s.m.g (SRC_STATUS_STATE i) = 1 → u.m.g (SRC_STATUS_STATE i) = 2))
        ∧ exec (.uplinkRetry q) s = .next s
        ∧ (s.m.uplinkUp q = false → exec (.uplinkDown q) s = .next s)
        ∧ (s.m.uplinkUp q = true → Answers (.uplinkDown q) s (fun u => u.m.g (UPLINK_STATUS_STATE q) = 1 ∧ u.m.g (UPLINK_STATUS_FEC_LOCK q) = 0 ∧
            u.m.g (UPLINK_COUNTS_LINK_DOWNS q) = s.m.wrapped (UPLINK_COUNTS_LINK_DOWNS q) ∧ ∀ k, k < 8 → u.m.eq (8 + q) k = [])))
    ∧ (∀ q p, q < 16 →
        (s.m.uplinkUp q = false ∨ s.m.coreUp = false → exec (.uplinkPacket q p) s = .next s)
        ∧ (s.m.uplinkUp q = true → s.m.coreUp = true →
            let policed := (s.m.reach p.at_ns).police q p.dstPort p.ipLen
            let counted := fun (u : State) => u.m.g (UPLINK_COUNTS_RX_FRAMES q) = s.m.wrapped (UPLINK_COUNTS_RX_FRAMES q) ∧ u.m.now = max s.m.now p.at_ns
            let refused := fun (u : State) => counted u ∧ u.m.g (UPLINK_COUNTS_RX_OTHER q) = s.m.wrapped (UPLINK_COUNTS_RX_OTHER q) ∧ u.mem = s.mem
            (p.fcsOk = false → Answers (.uplinkPacket q p) s (fun u => counted u ∧ u.mem = s.mem ∧
              u.m.g (UPLINK_COUNTS_RX_FCS q) = s.m.wrapped (UPLINK_COUNTS_RX_FCS q)))
            ∧ (p.fcsOk = true → 1522 < p.size ∨ s.m.addressed q p = false → Answers (.uplinkPacket q p) s refused)
            ∧ (p.fcsOk = true → p.size ≤ 1522 → s.m.addressed q p = true → p.udp = true →
                (policed.2 = false → Answers (.uplinkPacket q p) s (fun u => counted u ∧ u.mem = s.mem ∧ u.m.ingests = s.m.ingests))
                ∧ (policed.2 = true → p.ptp = false → s.m.flowMatch q p = false →
                    ((List.range 256).find? (fun r => s.m.ingestTakes q r p) = none → Answers (.uplinkPacket q p) s refused)
                    ∧ (∀ r, (List.range 256).find? (fun r => s.m.ingestTakes q r p) = some r → p.seqGap = false →
                        let n := s.m.g (INGEST_CTRL_CHANNEL r)
                        (p.late = true ∨ p.badType = true ∨ p.overLimit = true ∨ s.m.on (CHAN_STATUS_SHED n) = true →
                          Answers (.uplinkPacket q p) s (fun u => counted u ∧ u.mem = s.mem ∧ (u.m.ingest r).nextDisc = true ∧
                            u.m.g (INGEST_COUNTS_DROPS r) = s.m.wrapped (INGEST_COUNTS_DROPS r) ∧
                            u.m.g (CHAN_COUNTS_INGEST_DROPS n) = s.m.wrapped (CHAN_COUNTS_INGEST_DROPS n)))
                        ∧ (p.late = false → p.badType = false → p.overLimit = false → s.m.on (CHAN_STATUS_SHED n) = false → p.pieces = [] →
                            Answers (.uplinkPacket q p) s (fun u => counted u ∧ u.m.g (INGEST_COUNTS_PACKETS r) = s.m.wrapped (INGEST_COUNTS_PACKETS r)))))))) 
    ∧ (∀ r, r < 256 →
        (∀ mst v, s.m.mayWrite mst (INGEST_CTRL_addr r) = true →
          let next := (s.m.commit (INGEST_CTRL_addr r) v).p (INGEST_CTRL_ENABLE r) 0
          (s.m.on (INGEST_CTRL_ENABLE r) = true → bits v 71 71 = 1 → exec (.ingestEnable mst r v) s = .next s)
          ∧ (s.m.on (INGEST_CTRL_ENABLE r) = false → bits v 71 71 = 1 → next.ingestCheck r ≠ 0 → Answers (.ingestEnable mst r v) s (fun u =>
              u.m.on (INGEST_CTRL_ENABLE r) = false ∧ u.m.g (INGEST_STATUS_STATE r) = 2 ∧ u.m.g (INGEST_STATUS_ENABLE_REASON r) = next.ingestCheck r ∧
              OnlyRegs s u [INGEST_CTRL_addr r, INGEST_STATUS_addr r]))
          ∧ (s.m.on (INGEST_CTRL_ENABLE r) = false → bits v 71 71 = 1 → next.ingestCheck r = 0 → Answers (.ingestEnable mst r v) s (fun u =>
              u.m.on (INGEST_CTRL_ENABLE r) = true ∧ u.m.g (INGEST_STATUS_STATE r) = 1 ∧ u.m.g (INGEST_STATUS_ENABLE_REASON r) = 0 ∧
              RegsBut s u [INGEST_CTRL_addr r, INGEST_STATUS_addr r]))
          ∧ (s.m.on (INGEST_CTRL_ENABLE r) = false → bits v 71 71 = 0 → Answers (.ingestDisable mst r v) s (fun u =>
              u.m.on (INGEST_CTRL_ENABLE r) = false ∧ OnlyRegs s u [INGEST_CTRL_addr r]))
          ∧ (s.m.on (INGEST_CTRL_ENABLE r) = true → bits v 71 71 = 0 → Answers (.ingestDisable mst r v) s (fun u =>
              u.m.on (INGEST_CTRL_ENABLE r) = false ∧ u.m.g (INGEST_STATUS_STATE r) = 0 ∧ u.m.g (INGEST_STATUS_ENABLE_REASON r) = 0 ∧
              (u.m.ingest r).buf = none)))
        ∧ (s.m.on (INGEST_CTRL_ENABLE r) = false ∨ (s.m.ingest r).buf = none → exec (.ingestFlushTimeout r) s = .next s)
        ∧ (∀ h, s.m.on (INGEST_CTRL_ENABLE r) = true → (s.m.ingest r).buf = some h → Answers (.ingestFlushTimeout r) s (fun u =>
            (u.m.ingest r).buf = none ∧ (s.m.ingest r).began + max 100 (s.m.g (INGEST_AUX_FLUSH_US r)) * 1000 ≤ u.m.now)))
    ∧ (s.m.coreUp = false → exec .uplinkReferenceLoss s = .next s)
    ∧ (s.m.coreUp = true → Answers .uplinkReferenceLoss s (fun u => u.m.fab.ptpLocked = false ∧ u.mem = s.mem ∧
        (s.m.on FAB_CTRL_ENABLE = true → s.m.fab.times = [] → s.m.fab.root = some s.m.ident → s.m.g FAB_TIME_STATUS_STATE = 1 →
          8 ≤ s.m.g FAB_TIME_STATUS_PARENT → s.m.g FAB_TIME_STATUS_PARENT < 12 →
          u.m.g FAB_TIME_STATUS_STATE = 2 ∧ u.m.g FAB_TIME_STATUS_PARENT = 15 ∧ u.m.g ⟨FAB_EVENTS_addr, 0, 0⟩ = 1)))

/-! ### The chain links -/

/-- The fabric and its links (R550, R552–R554), orderings of the link map (R559, R561), stops (R558), device time (R565), and frames
that arrive (R556, R559, R562). -/
def Obligations.ChainLinkCommands : Prop :=
  ∀ (s : State),
    (∀ k ident ver dom dev mask serial msg ws, s.m.fabricOn = false →
      ∀ c ∈ ([.chainLaneLock k, .chainTrainTimeout k, .chainRetrainTimer k, .helloTimer k, .hello k ident ver dom, .keepalive k, .keepaliveTimeout k,
        .chainLockLoss k, .depart k ident, .linkState k dev mask serial, .linkStateTimer, .stop k mask, .go k mask, .timeFrame k msg,
        .chainFrame k ws] : List Instr), exec c s = .next s)
    ∧ (∀ mst v, s.m.mayWrite mst FAB_CTRL_addr = true →
        (s.m.on FAB_CTRL_ENABLE = false → bits v 71 71 = 0 ∨ s.m.on FAB_IDENT_LOCK = false → Answers (.fabEnable mst v) s (fun u =>
          u.m.on FAB_CTRL_ENABLE = false ∧ OnlyRegs s u [FAB_CTRL_addr]))
        ∧ (s.m.on FAB_CTRL_ENABLE = false → bits v 71 71 = 1 → s.m.on FAB_IDENT_LOCK = true → Answers (.fabEnable mst v) s (fun u =>
            u.m.on FAB_CTRL_ENABLE = true ∧ u.m.fab.root = some s.m.ident ∧ u.m.g FAB_TIME_STATUS_PARENT = 15 ∧ u.m.g FAB_TIME_STATUS_HOPS = 0 ∧
            u.m.fab.present = [] ∧ u.mem = s.mem ∧ ∀ k, k < 8 → s.m.g (FAB_LINK_STATUS_STATE k) = 0 → s.m.on (FAB_LINK_CTRL_ENABLE k) = true →
              (neighbour s.m.ident k).isSome = true → s.m.halted = false → u.m.g (FAB_LINK_STATUS_STATE k) = 2))
        ∧ (s.m.on FAB_CTRL_ENABLE = true → bits v 71 71 = 0 → Answers (.fabEnable mst v) s (fun u => u.m.on FAB_CTRL_ENABLE = false ∧
            u.m.g FAB_STATUS_ROLE = 0 ∧ u.m.g FAB_STATUS_QUORUM = 0 ∧ u.m.g FAB_STATUS_COMPACT = 0 ∧ u.m.g FAB_TIME_STATUS_STATE = 0 ∧
            u.m.g FAB_TIME_STATUS_PARENT = 15 ∧ u.mem = s.mem ∧ ∀ k, k < 8 → u.m.g (FAB_LINK_STATUS_STATE k) = 0 ∧ ∀ cls, cls < 8 → u.m.eq k cls = []))
        ∧ (s.m.on FAB_CTRL_ENABLE = true → bits v 71 71 = 1 → s.m.on FAB_IDENT_LOCK = true → Answers (.fabEnable mst v) s (fun u =>
            u.m.on FAB_CTRL_ENABLE = true ∧ OnlyRegs s u [FAB_CTRL_addr])))
    ∧ (∀ k, k < 8 →
        let st := s.m.g (FAB_LINK_STATUS_STATE k)
        let stops := s.m.g (FAB_LINK_STATUS_PEER_STOPPED k)
        let hello : EFrame := { words := s.m.frame 4 7 0 2 (s.m.control 1 (at_ 49 48 (versionOf (s.m.g FAB_IDENT_VERSION_MAX)) + at_ 47 32 (s.m.g FAB_IDENT_DOMAIN_ID))), since := s.m.now }
        (∀ mst v, s.m.mayWrite mst (FAB_LINK_CTRL_addr k) = true → ∀ c ∈ ([.chainLinkEnable mst k v, .stopMaskWrite mst k v] : List Instr),
          let old := s.m.g (FAB_LINK_CTRL_STOP_MASK k)
          (bits v 71 71 = 0 → st = 0 → Answers c s (fun u => FieldsWritten s u (FAB_LINK_CTRL_addr k) v ∧ OnlyRegs s u [FAB_LINK_CTRL_addr k]))
          ∧ (bits v 71 71 = 0 → st ≠ 0 → Answers c s (fun u => u.m.g (FAB_LINK_STATUS_STATE k) = 0 ∧ u.m.g (FAB_LINK_STATUS_PEER_STOPPED k) = 0 ∧
              u.m.g (FAB_LINK_STATUS_VERSION k) = 0 ∧ u.mem = s.mem ∧ ∀ cls, cls < 8 → u.m.eq k cls = []))
          ∧ (bits v 71 71 = 1 → st = 0 → s.m.on FAB_CTRL_ENABLE = true → (neighbour s.m.ident k).isSome = true → s.m.halted = false →
              Answers c s (fun u => u.m.g (FAB_LINK_STATUS_STATE k) = 2 ∧ u.m.g ⟨FAB_EVENTS_addr, 5, 5⟩ = 1 ∧ u.mem = s.mem))
          ∧ (bits v 71 71 = 1 → st = 4 → Answers c s (fun u => u.m.g (FAB_LINK_CTRL_STOP_MASK k) = bits v 70 63 ∧
              RegsBut s u [FAB_LINK_CTRL_addr k] ∧
              (∀ n, n < 7 → Nat.testBit (bits v 70 63) n = true → Nat.testBit old n = false → ∃ m, Nat.testBit m n = true ∧ Out.orderedSet k true m ∈ u.m.out) ∧
              (∀ n, n < 7 → Nat.testBit (bits v 70 63) n = false → Nat.testBit old n = true → Nat.testBit (s.m.stopped (1 + k)) n = false →
                ∃ m, Nat.testBit m n = true ∧ Out.orderedSet k false m ∈ u.m.out) ∧ (bits v 70 63 = old → u.m.out = s.m.out))))
        ∧ exec (.chainTrainTimeout k) s = .next s ∧ exec (.keepalive k) s = .next s
        ∧ (s.m.fabricOn = true →
            (st = 2 → Answers (.chainLaneLock k) s (fun u => u.m.g (FAB_LINK_STATUS_STATE k) = 3 ∧ u.m.eq k 7 = s.m.eq k 7 ++ [hello] ∧ u.mem = s.mem))
            ∧ (st ≠ 2 → exec (.chainLaneLock k) s = .next s)
            ∧ (st = 1 → s.m.linkMay k = true → Answers (.chainRetrainTimer k) s (fun u => u.m.g (FAB_LINK_STATUS_STATE k) = 2 ∧ u.mem = s.mem))
            ∧ (st ≠ 1 ∨ s.m.linkMay k = false → exec (.chainRetrainTimer k) s = .next s)
            ∧ (st = 3 → Answers (.helloTimer k) s (fun u => u.m.eq k 7 = s.m.eq k 7 ++ [hello] ∧ { u with m := { u.m with egress := s.m.egress } } = s))
            ∧ (st ≠ 3 → exec (.helloTimer k) s = .next s)
            ∧ (∀ ident ver dom, ident < 2 ^ 18 → dom < 65536 →
                (st ≠ 3 → st ≠ 5 → exec (.hello k ident ver dom) s = .next s)
                ∧ (st = 3 → s.m.helloBad k ident = 0 → Answers (.hello k ident ver dom) s (fun u => u.m.linkUp k = true ∧ u.mem = s.mem ∧
                    u.m.g (FAB_LINK_STATUS_PEER k) = ident ∧ u.m.g (FAB_LINK_STATUS_REASON k) = 0 ∧ ident ∉ u.m.fab.departed ∧
                    u.m.g (FAB_LINK_STATUS_VERSION k) = min (versionOf (s.m.g FAB_IDENT_VERSION_MAX)) (versionOf ver)))
                ∧ (st = 3 → s.m.helloBad k ident ≠ 0 → Answers (.hello k ident ver dom) s (fun u => u.m.g (FAB_LINK_STATUS_STATE k) = 5 ∧
                    u.m.g (FAB_LINK_STATUS_PEER k) = ident ∧ u.m.g (FAB_LINK_STATUS_REASON k) = s.m.helloBad k ident ∧ u.mem = s.mem))
                ∧ (s.m.linkUp k = false → exec (.depart k ident) s = .next s)
                ∧ (s.m.linkUp k = true → Answers (.depart k ident) s (fun u => u.m.g (FAB_LINK_STATUS_STATE k) = 1 ∧
                    (ident ≠ s.m.ident → ident ∈ u.m.fab.departed))))
            ∧ (∀ c ∈ ([.keepaliveTimeout k, .chainLockLoss k] : List Instr),
                (st ≠ 3 → st ≠ 4 → st ≠ 5 → exec c s = .next s)
                ∧ (st = 3 ∨ st = 4 ∨ st = 5 → Answers c s (fun u => u.m.g (FAB_LINK_STATUS_STATE k) = 1 ∧ u.m.g (FAB_LINK_STATUS_VERSION k) = 0 ∧
                    u.m.g (FAB_LINK_STATUS_PEER_STOPPED k) = 0 ∧ u.m.g (FAB_LINK_COUNTS_LINK_DOWNS k) = s.m.wrapped (FAB_LINK_COUNTS_LINK_DOWNS k) ∧
                    u.m.fab.serial = (s.m.fab.serial + 1) % 2 ^ 32 ∧ u.mem = s.mem ∧ ∀ cls, cls < 8 → u.m.eq k cls = [])))
            ∧ (∀ mask,
                (s.m.linkUp k = false → exec (.stop k mask) s = .next s ∧ exec (.go k mask) s = .next s)
                ∧ (s.m.linkUp k = true →
                    Answers (.stop k mask) s (fun u => u.m.g (FAB_LINK_STATUS_PEER_STOPPED k) = stops ||| mask % 128 ∧
                      (∀ f, f ≠ FAB_LINK_STATUS_PEER_STOPPED k → f ∈ [FAB_LINK_STATUS_STATE k, FAB_LINK_STATUS_REASON k, FAB_LINK_STATUS_VERSION k, FAB_LINK_STATUS_PEER k] → u.m.g f = s.m.g f) ∧
                      OnlyRegs s u [FAB_LINK_STATUS_addr k])
                    ∧ Answers (.go k mask) s (fun u => u.m.g (FAB_LINK_STATUS_PEER_STOPPED k) = stops &&& (127 - mask % 128) ∧
                      OnlyRegs s u [FAB_LINK_STATUS_addr k])))
            ∧ (∀ dev mask serial, s.m.linkUp k = true → dev < 2 ^ 18 → dev ≠ s.m.ident → paneOf dev = paneOf s.m.ident →
                s.m.fab.map.find? (fun e => e.dev == dev) = none → Answers (.linkState k dev mask serial) s (fun u =>
                  u.m.fab.map = s.m.fab.map.filter (fun e => e.dev != dev) ++ [⟨dev, mask % 256, serial % 2 ^ 32, s.m.now⟩] ∧ dev ∉ u.m.fab.departed ∧ u.mem = s.mem))
            ∧ (∀ dev mask serial e, s.m.linkUp k = true → dev < 2 ^ 18 → s.m.fab.map.find? (fun e => e.dev == dev) = some e → e.serial < 2 ^ 32 →
                serial = e.serial → s.m.now ≤ e.seen + 2000000000 → exec (.linkState k dev mask serial) s = .next s)
            ∧ (∀ msg, (s.m.linkUp k = false → exec (.timeFrame k msg) s = .next s)
                ∧ (s.m.linkUp k = true → Answers (.timeFrame k msg) s (fun u => u.m.fab.times.find? (fun e => e.1 == k) = some (k, msg) ∧ u.mem = s.mem ∧
                    if u.m.g FAB_TIME_STATUS_STATE = 1 ∧ u.m.g FAB_TIME_STATUS_PARENT = k then
                      u.m.now = msg.time ∧ u.m.g FAB_TIME_STATUS_OFFSET = satSigned 32 msg.offset
                    else u.m.now = s.m.now)))
            ∧ (∀ ws,
                let h := nthWord ws 0
                let cls := bits h 67 65
                let drops := fun (u : State) (f : RF) => u.m.g f = s.m.wrapped f ∧ OnlyRegs s u [FAB_LINK_COUNTS_addr k]
                let room := cls = 7 ∨ s.m.classWords (1 + k) cls + ws.length ≤ 20480
                let sound := crcOk ws = true ∧ frameSound (s.m.g (FAB_LINK_STATUS_VERSION k)) ws = true ∧ room
                (st ≠ 3 → st ≠ 4 → st ≠ 5 → exec (.chainFrame k ws) s = .next s)
                ∧ (st = 4 → crcOk ws = false → Answers (.chainFrame k ws) s (fun u => drops u (FAB_LINK_COUNTS_CRC_DROPS k)))
                ∧ (st = 4 → crcOk ws = true → ¬ sound → Answers (.chainFrame k ws) s (fun u => drops u (FAB_LINK_COUNTS_OTHER_DROPS k)))
                ∧ (st = 4 → sound → bits h 28 27 = 0 → bits h 64 47 ≠ s.m.ident → bits h 26 19 = 0 →
                    Answers (.chainFrame k ws) s (fun u => drops u (FAB_LINK_COUNTS_OTHER_DROPS k)))
                ∧ (∀ j, st = 4 → sound → bits h 28 27 = 0 → bits h 64 47 ≠ s.m.ident → bits h 26 19 ≠ 0 → paneOf (bits h 64 47) = paneOf s.m.ident →
                    s.m.nextHop (bits h 64 47) = some j → Answers (.chainFrame k ws) s (fun u => u.m.regs = s.m.regs ∧ u.mem = s.mem ∧
                      ∃ e, u.m.eq j cls = s.m.eq j cls ++ [e] ∧ e.words = lessTtl ws ∧ e.src = 1 + k ∧ e.since = s.m.now))
                ∧ (st = 4 → sound → bits h 28 27 = 0 → bits h 64 47 ≠ s.m.ident → bits h 26 19 ≠ 0 → paneOf (bits h 64 47) = paneOf s.m.ident →
                    s.m.nextHop (bits h 64 47) = none → Answers (.chainFrame k ws) s (fun u => drops u (FAB_LINK_COUNTS_OTHER_DROPS k))))))
    ∧ (s.m.fabricOn = true → Answers .linkStateTimer s (fun u => u.m.fab.serial = (s.m.fab.serial + 1) % 2 ^ 32 ∧ u.mem = s.mem ∧
        ∀ k, k < 8 → s.m.linkUp k = true → ∃ e, u.m.eq k 7 = s.m.eq k 7 ++ [e] ∧
          e.words = s.m.frame 4 7 0 2 (s.m.control 3 (at_ 49 42 s.m.ownMask + at_ 41 10 u.m.fab.serial))))
    ∧ (∀ q ver dstPort ipLen ws, q < 16 →
        let policed := s.m.police q dstPort ipLen
        (s.m.coreUp = false ∨ s.m.uplinkUp q = false → exec (.gatewayDatagram q ver dstPort ipLen ws) s = .next s)
        ∧ (s.m.coreUp = true → s.m.uplinkUp q = true →
            (policed.2 = false ∨ s.m.on FAB_CTRL_ENABLE = false → Answers (.gatewayDatagram q ver dstPort ipLen ws) s (fun u =>
              u.m.g (UPLINK_COUNTS_RX_FRAMES q) = s.m.wrapped (UPLINK_COUNTS_RX_FRAMES q) ∧ u.m.egress = s.m.egress ∧ u.mem = s.mem))
            ∧ (policed.2 = true → s.m.on FAB_CTRL_ENABLE = true → ver ≠ 1 ∨ crcOk ws = false ∨ frameSound 1 ws = false →
                Answers (.gatewayDatagram q ver dstPort ipLen ws) s (fun u => u.m.egress = s.m.egress ∧ u.mem = s.mem ∧
                  u.m.g (UPLINK_COUNTS_RX_FRAMES q) = s.m.wrapped (UPLINK_COUNTS_RX_FRAMES q) ∧
                  u.m.g (FAB_LINK_COUNTS_OTHER_DROPS 0) = s.m.wrapped (FAB_LINK_COUNTS_OTHER_DROPS 0)))
            ∧ (∀ j, let h := nthWord ws 0
                policed.2 = true → s.m.on FAB_CTRL_ENABLE = true → ver = 1 → crcOk ws = true → frameSound 1 ws = true → bits h 28 27 = 0 →
                paneOf (bits h 64 47) = paneOf s.m.ident → bits h 67 65 = 7 → floodedOp ws = false → bits h 64 47 ≠ s.m.ident → bits h 26 19 ≠ 0 →
                s.m.nextHop (bits h 64 47) = some j → Answers (.gatewayDatagram q ver dstPort ipLen ws) s (fun u =>
                  ∃ e, u.m.eq j 7 = s.m.eq j 7 ++ [e] ∧ e.words = lessTtl ws))))

/-! ### The epoch protocol -/

/-- Closes and reports (R570), commits (R571–R573), the log and the heartbeat (R568, R569), failover (R574–R576), admission and
partitions (R573, R577). -/
def Obligations.EpochCommands : Prop :=
  ∀ (s : State),
    (∀ k src logged ws, s.m.fabricOn = false →
      ∀ c ∈ ([.closeTimer, .close k src ws, .ready k src ws, .readyAggregateDeadline, .commitIssue, .logAck k src ws, .logWaitExpiry,
        .commit k src logged ws, .heartbeatTimer, .heartbeat k src ws, .heartbeatAnswerTimeout, .houseTimeout, .takeover k src ws, .state k src ws,
        .takeoverGatherEnd, .join k src ws, .drop k src ws, .cutOff, .partitionTimeout] : List Instr), exec c s = .next s)
    ∧ (s.m.fabricOn = true →
        let house := s.m.isHouse
        let role := s.m.g FAB_STATUS_ROLE
        let standby := s.m.g FAB_STATUS_STANDBY
        let events := fun (u : State) (bit : Nat) => u.m.g ⟨FAB_EVENTS_addr, bit, bit⟩ = 1
        let leaves := fun (u : State) (dest : Nat) (ws : List Word) => ∀ j, dest < 2 ^ 18 → paneOf dest = paneOf s.m.ident → s.m.nextHop dest = some j →
          ∃ e, u.m.eq j 7 = s.m.eq j 7 ++ [e] ∧ e.words = s.m.frame 2 7 dest 0 ws
        let names := fun (u : State) (sb : Nat) => u.m.g FAB_STATUS_STANDBY =
          FAB_STATUS_STANDBY.keeps ((lowest (s.m.fab.present.filter (fun d => d != s.m.ident && d != sb && !smem s.m.fab.departed d))).getD s.m.ident)
        (house = false → ∀ c ∈ ([.closeTimer, .commitIssue, .heartbeatTimer] : List Instr), exec c s = .next s)
        ∧ (house = true →
            let e := s.m.g FAB_EPOCH_OPEN
            let t := closeMoment (max s.m.now (s.m.fab.nextClose + 1)) s.m.epochNs
            Answers .closeTimer s (fun u => u.m.g FAB_EPOCH_OPEN = FAB_EPOCH_OPEN.keeps (e + 1) ∧ u.m.now = max s.m.now t ∧ u.m.fab.nextClose = t ∧
              u.m.fab.joins = [] ∧ u.m.fab.present = s.m.fab.joins.foldl sinsert s.m.fab.present ∧
              (∃ x, u.m.fab.tally = some x ∧ x.epoch = e ∧ x.close = t ∧ x.got = [] ∧ x.sent = false) ∧
              ∀ k, k < 8 → s.m.linkUp k = true → ∃ f, u.m.eq k 7 = s.m.eq k 7 ++ [f] ∧
                f.words = s.m.frame 2 7 0 2 [s.m.epochWord 1 e, timeWord t, u.m.houseWord]))
        ∧ (∀ k src ws,
            let w0 := nthWord ws 0
            let w2 := nthWord ws 2
            let e := bits w0 51 12
            let known := s.m.fab.seen.any (fun x => x == floodKey ws)
            let obeyed := bits w0 67 52 = s.m.domain ∧ s.m.obeys w2 = true ∧ bits w2 55 38 ≠ s.m.ident
            let follows := fun (u : State) => u.m.g FAB_EPOCH_TERM = bits w2 71 56 ∧ u.m.g FAB_STATUS_HOUSE = bits w2 55 38 ∧
              u.m.g FAB_STATUS_STANDBY = bits w2 37 20 ∧ u.m.g FAB_STATUS_ROLE = (if bits w2 37 20 = s.m.ident then 3 else 1)
            let ignores := fun (u : State) => RegsBut s u ((List.range 24).map GATE_COUNTS_addr)
            (known = true → ∀ c ∈ ([.close k src ws, .commit k src false ws, .takeover k src ws, .drop k src ws] : List Instr), exec c s = .next s)
            ∧ (known = false → ¬ obeyed → ∀ c ∈ ([.close k src ws, .commit k src false ws, .takeover k src ws] : List Instr), Answers c s ignores)
            ∧ (known = false → obeyed →
                Answers (.close k src ws) s (fun u => follows u ∧ u.m.g FAB_EPOCH_OPEN = FAB_EPOCH_OPEN.keeps (e + 1) ∧ u.m.g FAB_STATUS_CUT_OFF = 0 ∧
                  u.m.fab.cutAt = s.m.now ∧ u.mem = s.mem)
                ∧ Answers (.commit k src false ws) s (fun u => follows u ∧ u.m.g FAB_STATUS_CUT_OFF = 0 ∧ u.m.g FAB_STATUS_LOCAL_ONLY = 0 ∧
                  u.m.g COMP_STATUS_LOCAL_ONLY = 0 ∧ u.m.g FAB_STATUS_PRESENT = bits (nthWord ws 3) 71 53 ∧ u.mem = s.mem ∧
                  (s.m.g FAB_COMMITTED_LAST_COMMITTED < e → (∀ c ∈ s.m.fab.commits, c.epoch ≠ e) →
                    ∃ c ∈ u.m.fab.commits, c.epoch = e ∧ c.at_ns = timeNs (nthWord ws 1) ∧ c.late = decide (timeNs (nthWord ws 1) < s.m.now)))
                ∧ Answers (.takeover k src ws) s (fun u => follows u ∧ u.m.g FAB_EPOCH_COUNTS_TAKEOVERS = s.m.wrapped FAB_EPOCH_COUNTS_TAKEOVERS ∧
                  u.m.fab.gather = none ∧ events u 4 ∧ u.mem = s.mem))
            ∧ (bits w0 67 52 = s.m.domain → s.m.obeys w2 = true → bits w2 55 38 = src → src ≠ s.m.ident →
                Answers (.commit k src true ws) s (fun u => follows u ∧ u.m.fab.logged = some ws ∧ u.m.fab.lastHouse = s.m.now ∧
                  leaves u src [s.m.epochWord 4 e] ∧ u.mem = s.mem))
            ∧ (bits w0 67 52 ≠ s.m.domain ∨ s.m.obeys w2 = false ∨ bits w2 55 38 ≠ src ∨ src = s.m.ident → exec (.commit k src true ws) s = .next s)
            ∧ (bits w0 67 52 ≠ s.m.domain → ∀ c ∈ ([.ready k src ws, .logAck k src ws, .heartbeat k src ws, .state k src ws, .join k src ws] : List Instr), exec c s = .next s)
            ∧ (∀ x, house = true → bits w0 67 52 = s.m.domain → s.m.fab.tally = some x →
                (e ≠ x.epoch ∨ (src, ws) ∈ x.frames → exec (.ready k src ws) s = .next s)
                ∧ (e = x.epoch → (src, ws) ∉ x.frames → x.sent = false → bits (nthWord ws 1) 15 15 = 0 → Answers (.ready k src ws) s (fun u => u.mem = s.mem ∧
                    u.m.regs = s.m.regs ∧ ∃ y, u.m.fab.tally = some y ∧ y.members = x.members + bits (nthWord ws 1) 71 53 ∧
                      y.heldN = x.heldN + bits (nthWord ws 1) 52 34 ∧ (src, ws) ∈ y.frames ∧ ∀ d, d ∈ y.got → d ∈ x.got ∨ d = src ∨ d ∈ s.m.subtree src)))
            ∧ (house = true → bits w0 67 52 = s.m.domain → src = standby →
                (∀ c, s.m.fab.awaitAck = some c → bits (nthWord c 0) 51 12 = e → Answers (.logAck k src ws) s (fun u => u.m.fab.awaitAck = none ∧
                  u.m.fab.hbSent = none ∧ u.m.g FAB_STATUS_PRESENT = bits (nthWord c 3) 71 53))
                ∧ (s.m.fab.awaitAck = none → Answers (.logAck k src ws) s (fun u => u = { s with m := { s.m with fab := { s.m.fab with hbSent := none } } })))
            ∧ (house = false ∨ src ≠ standby → exec (.logAck k src ws) s = .next s)
            ∧ (bits w0 67 52 = s.m.domain → role = 3 → src = s.m.g FAB_STATUS_HOUSE → Answers (.heartbeat k src ws) s (fun u =>
                u.m.fab.lastHouse = s.m.now ∧ leaves u src [s.m.epochWord 4 e] ∧ u.mem = s.mem))
            ∧ (role ≠ 3 ∨ src ≠ s.m.g FAB_STATUS_HOUSE → exec (.heartbeat k src ws) s = .next s)
            ∧ (∀ g, bits w0 67 52 = s.m.domain → s.m.fab.gather = some g →
                (src ∈ g.got → exec (.state k src ws) s = .next s)
                ∧ (src ∉ g.got → Answers (.state k src ws) s (fun u => ∃ y, { s with m := { s.m with fab := { s.m.fab with gather := some y } } } = u ∧
                    y.members = g.members + bits (nthWord ws 3) 31 13 ∧ y.got = sinsert g.got src ∧ y.last = max g.last (bits (nthWord ws 1) 71 32) ∧
                    y.lastT = (if g.last < bits (nthWord ws 1) 71 32 then w2 else g.lastT) ∧ y.opened = max g.opened (bits (nthWord ws 3) 71 32))))
            ∧ (let d := bits (nthWord ws 1) 71 54
               (bits w0 67 52 = s.m.domain → house = true → d ≠ s.m.ident → Answers (.join k src ws) s (fun u => u.m.fab.joins = sinsert s.m.fab.joins d ∧
                 d ∉ u.m.fab.departed ∧ u.m.regs = s.m.regs ∧ u.mem = s.mem))
               ∧ (house = false ∨ d = s.m.ident → exec (.join k src ws) s = .next s))
            ∧ (known = false → bits w0 67 52 = s.m.domain → s.m.ident ≠ 0 →
                (∃ i, i < 4 ∧ bits (nthWord ws 1) (18 * i + 17) (18 * i) = s.m.ident) → Answers (.drop k src ws) s (fun u => u.m.fab.admitted = false ∧ events u 3)))
        ∧ (s.m.fab.tally = none → exec .readyAggregateDeadline s = .next s ∧ exec .commitIssue s = .next s)
        ∧ (∀ x, house = false → s.m.fab.tally = some x → Answers .readyAggregateDeadline s (fun u => u.mem = s.mem ∧
            ∃ y, u.m.fab.tally = some y ∧ y.sent = true ∧ y.epoch = x.epoch))
        ∧ (∀ x, house = true → s.m.fab.tally = some x →
            let t := s.m.tallySelf x
            let cover := sinsert t.got s.m.ident
            (s.m.quorum cover.length cover = false → Answers .commitIssue s (fun u => u.m.g FAB_STATUS_QUORUM = 0 ∧ u.m.fab.tally = none ∧ u.mem = s.mem))
            ∧ (s.m.quorum cover.length cover = true → Answers .commitIssue s (fun u => u.m.g FAB_STATUS_QUORUM = 1 ∧ u.m.fab.tally = none ∧
                u.m.now = (if s.m.allIn t then s.m.now else max s.m.now (t.close + s.m.deadlineNs)) ∧
                u.m.g FAB_EPOCH_COUNTS_MISSES = FAB_EPOCH_COUNTS_MISSES.keeps (s.m.g FAB_EPOCH_COUNTS_MISSES + (s.m.missing t).length) ∧
                (standby ≠ s.m.ident → ∃ ws, u.m.fab.awaitAck = some ws ∧ nthWord ws 0 = s.m.epochWord 3 x.epoch ∧
                  nthWord ws 1 = timeWord (u.m.now + s.m.leadNs) ∧ u.mem = s.mem)
                ∧ (standby = s.m.ident → u.m.g FAB_STATUS_PRESENT = FAB_STATUS_PRESENT.keeps s.m.fab.present.length))))
        ∧ (s.m.fab.awaitAck = none → exec .logWaitExpiry s = .next s)
        ∧ (∀ ws, s.m.fab.awaitAck = some ws → Answers .logWaitExpiry s (fun u => u.m.fab.awaitAck = none ∧ u.m.fab.hbSent = none ∧ names u standby ∧
            timeNs (nthWord ws 1) - s.m.leadNs + 1000000 ≤ u.m.now))
        ∧ (house = true → standby ≠ s.m.ident → Answers .heartbeatTimer s (fun u => u.mem = s.mem ∧
            u.m.fab.hbSent = some (s.m.fab.hbSent.getD s.m.now) ∧ leaves u standby [s.m.epochWord 5 (s.m.g FAB_EPOCH_OPEN), timeWord s.m.now]))
        ∧ (standby = s.m.ident → exec .heartbeatTimer s = .next s)
        ∧ (house = false ∨ s.m.fab.hbSent = none → exec .heartbeatAnswerTimeout s = .next s)
        ∧ (∀ t, house = true → s.m.fab.hbSent = some t → Answers .heartbeatAnswerTimeout s (fun u => u.m.now = max s.m.now (t + 5000000) ∧
            u.m.fab.hbSent = none ∧ names u standby ∧ OnlyRegs { s with m := { s.m with now := u.m.now, fab := u.m.fab } } u [FAB_STATUS_addr]))
        ∧ (let takes := fun (u : State) => u.m.g FAB_EPOCH_TERM = FAB_EPOCH_TERM.keeps (s.m.g FAB_EPOCH_TERM + 1) ∧ u.m.g FAB_STATUS_HOUSE = s.m.ident ∧
             u.m.g FAB_STATUS_STANDBY = s.m.ident ∧ u.m.g FAB_EPOCH_COUNTS_TAKEOVERS = s.m.wrapped FAB_EPOCH_COUNTS_TAKEOVERS ∧ events u 4 ∧
             (∃ g, u.m.fab.gather = some g ∧ g.got = [s.m.ident] ∧ g.members = 1) ∧ u.mem = s.mem
           (s.m.fit = false ∨ s.m.fab.gather.isSome = true ∨ role = 2 → exec .houseTimeout s = .next s)
           ∧ (s.m.fit = true → s.m.fab.gather = none →
               (role = 3 → s.m.fab.admitted = true → Answers .houseTimeout s (fun u => takes u ∧ u.m.now = max s.m.now (s.m.fab.lastHouse + s.m.houseNs)))
               ∧ (role = 1 → s.m.fab.admitted = true →
                   lowest (s.m.known.filter (fun d => !smem ([s.m.g FAB_STATUS_HOUSE, standby] ++ s.m.fab.departed) d && (s.m.hopsTo d).isSome)) = some s.m.ident →
                   Answers .houseTimeout s (fun u => takes u ∧ u.m.now = max s.m.now (s.m.fab.lastHouse + 2 * s.m.houseNs)))
               ∧ (role = 0 → lowest s.m.known = some s.m.ident → Answers .houseTimeout s (fun u => u.m.isHouse = true ∧ u.m.g FAB_STATUS_HOUSE = s.m.ident ∧
                   u.m.g FAB_STATUS_STANDBY = s.m.ident ∧ u.m.fab.present = [s.m.ident] ∧ u.m.fab.admitted = true ∧ u.mem = s.mem))))
        ∧ (s.m.fab.gather = none → exec .takeoverGatherEnd s = .next s)
        ∧ (∀ g, s.m.fab.gather = some g →
            (s.m.quorum g.members g.got = false → Answers .takeoverGatherEnd s (fun u => u.m.fab.gather = none ∧ u.m.regs = s.m.regs ∧
              u.m.now = max s.m.now (s.m.fab.tookAt + 10000000) ∧ u.mem = s.mem))
            ∧ (s.m.quorum g.members g.got = true → Answers .takeoverGatherEnd s (fun u => u.m.fab.gather = none ∧ u.m.isHouse = true ∧
                u.m.g FAB_STATUS_QUORUM = 1 ∧ u.m.fab.admitted = true ∧ u.m.g FAB_EPOCH_OPEN = FAB_EPOCH_OPEN.keeps (g.opened + 1))))
        ∧ (role = 0 ∨ role = 2 ∨ s.m.on FAB_STATUS_CUT_OFF = true → exec .cutOff s = .next s)
        ∧ (role = 1 ∨ role = 3 → s.m.on FAB_STATUS_CUT_OFF = false → Answers .cutOff s (fun u => u.m.on FAB_STATUS_CUT_OFF = true ∧ events u 2 ∧
            u.m.fab.admitted = false ∧ u.m.fab.joins = [] ∧ u.m.now = max s.m.now (s.m.fab.cutAt + s.m.houseNs + s.m.epochNs) ∧ u.mem = s.mem))
        ∧ (s.m.on FAB_STATUS_CUT_OFF = false → exec .partitionTimeout s = .next s)
        ∧ (s.m.on FAB_STATUS_CUT_OFF = true → Answers .partitionTimeout s (fun u => u.m.g FAB_STATUS_LOCAL_ONLY = 1 ∧ u.m.g COMP_STATUS_LOCAL_ONLY = 1 ∧
            u.m.now = max s.m.now (s.m.fab.cutAt + s.m.houseNs + s.m.epochNs + max 100 (s.m.g FAB_CTRL_PARTITION_TIMEOUT) * 1000000) ∧
            u.m.fab = s.m.fab ∧ u.mem = s.mem)))
end

