-- ==== Sys2Proof/Laws/Micro.lean ====
section
/-!
SUPPORT. Laws/Micro.lean: what the microword at an entry point is where every one is sound, and what reading it does then.
-/

namespace Sys2Proof.Laws
open Sys2Proof Sys2Proof.Machine

/-- What a key of a table reads as: its default, or the value of an entry for it. -/
theorem tget_cases {α : Type} (d : Nat → α) (m : List (Nat × α)) (k : Nat) :
    tget d m k = d k ∨ (k, tget d m k) ∈ m := by
  induction m with
  | nil => exact .inl rfl
  | cons e r ih =>
    obtain ⟨j, v⟩ := e
    by_cases h : k = j
    · subst h; exact .inr (by simp [tget])
    · simp only [tget, if_neg h]
      rcases ih with i | i
      · exact .inl i
      · exact .inr (List.mem_cons_of_mem _ i)

/-- Where every microword at an entry point is sound, the one that is read there is. -/
theorem uword_sound {m : Dev} (h : m.microSound = true) (c : Nat) {a : Nat} (ha : a < 1024) :
    microPasses (m.uword c a) = true ∧ microFaulty (m.uword c a) = false := by
  rcases tget_cases (fun _ => 0) m.ucode (c * 8192 + a) with e | e
  · unfold Dev.uword; rw [e]; decide
  · have := (List.all_eq_true.mp h) _ e
    simp only [Bool.or_eq_true, decide_eq_true_eq, Bool.and_eq_true, Bool.not_eq_true'] at this
    rcases this with i | i
    · omega
    · exact i

/-- Reading a sound microword at an entry point changes nothing, and it executes. -/
theorem microRead_sound {s : State} (h : s.m.microSound = true) (t : Nat) {a : Nat} (ha : a < 1024) :
    s.microRead t a = (s, true) := by
  unfold State.microRead
  simp [uword_sound h _ ha]

end Sys2Proof.Laws
end

