-- ==== Sys2Proof/Laws/State.lean ====
section
/-!
SUPPORT. Laws/State.lean: what the updates of the state leave alone, one lemma per field per update, each true by
unfolding; and what a register field reads after a field was written.
-/

namespace Sys2Proof.Laws
open Sys2Proof.Machine

/-! ### The whole state -/

@[simp] theorem onM_m (s : State) (f : Dev → Dev) : (s.onM f).m = f s.m := rfl
@[simp] theorem onM_mem (s : State) (f : Dev → Dev) : (s.onM f).mem = s.mem := rfl
@[simp] theorem onM_pending (s : State) (f : Dev → Dev) : (s.onM f).pending = s.pending := rfl


/-! ### Writing a register word -/

@[simp] theorem wr_now (m : Dev) (a : Nat) (v : Word) : (m.wr a v).now = m.now := rfl
@[simp] theorem wr_freeCtr (m : Dev) (a : Nat) (v : Word) : (m.wr a v).freeCtr = m.freeCtr := rfl
@[simp] theorem wr_out (m : Dev) (a : Nat) (v : Word) : (m.wr a v).out = m.out := rfl
@[simp] theorem wr_pins (m : Dev) (a : Nat) (v : Word) : (m.wr a v).pins = m.pins := rfl
@[simp] theorem wr_threads (m : Dev) (a : Nat) (v : Word) : (m.wr a v).threads = m.threads := rfl
@[simp] theorem wr_timers (m : Dev) (a : Nat) (v : Word) : (m.wr a v).timers = m.timers := rfl
@[simp] theorem wr_waitCtr (m : Dev) (a : Nat) (v : Word) : (m.wr a v).waitCtr = m.waitCtr := rfl
@[simp] theorem wr_mbx (m : Dev) (a : Nat) (v : Word) : (m.wr a v).mbx = m.mbx := rfl
@[simp] theorem wr_grpRec (m : Dev) (a : Nat) (v : Word) : (m.wr a v).grpRec = m.grpRec := rfl
@[simp] theorem wr_msixOn (m : Dev) (a : Nat) (v : Word) : (m.wr a v).msixOn = m.msixOn := rfl
@[simp] theorem wr_msixMaskAll (m : Dev) (a : Nat) (v : Word) : (m.wr a v).msixMaskAll = m.msixMaskAll := rfl
@[simp] theorem wr_msixTbl (m : Dev) (a : Nat) (v : Word) : (m.wr a v).msixTbl = m.msixTbl := rfl
@[simp] theorem wr_pba (m : Dev) (a : Nat) (v : Word) : (m.wr a v).pba = m.pba := rfl
@[simp] theorem wr_esc (m : Dev) (a : Nat) (v : Word) : (m.wr a v).esc = m.esc := rfl
@[simp] theorem wr_escWait (m : Dev) (a : Nat) (v : Word) : (m.wr a v).escWait = m.escWait := rfl
@[simp] theorem wr_fnPulse (m : Dev) (a : Nat) (v : Word) : (m.wr a v).fnPulse = m.fnPulse := rfl
@[simp] theorem wr_faultSeq (m : Dev) (a : Nat) (v : Word) : (m.wr a v).faultSeq = m.faultSeq := rfl
@[simp] theorem wr_queues (m : Dev) (a : Nat) (v : Word) : (m.wr a v).queues = m.queues := rfl
@[simp] theorem wr_running (m : Dev) (a : Nat) (v : Word) : (m.wr a v).running = m.running := rfl
@[simp] theorem wr_qOrder (m : Dev) (a : Nat) (v : Word) : (m.wr a v).qOrder = m.qOrder := rfl
@[simp] theorem wr_lastTick (m : Dev) (a : Nat) (v : Word) : (m.wr a v).lastTick = m.lastTick := rfl
@[simp] theorem wr_segs (m : Dev) (a : Nat) (v : Word) : (m.wr a v).segs = m.segs := rfl
@[simp] theorem wr_lastSeg (m : Dev) (a : Nat) (v : Word) : (m.wr a v).lastSeg = m.lastSeg := rfl
@[simp] theorem wr_stage (m : Dev) (a : Nat) (v : Word) : (m.wr a v).stage = m.stage := rfl
@[simp] theorem wr_meter (m : Dev) (a : Nat) (v : Word) : (m.wr a v).meter = m.meter := rfl
@[simp] theorem wr_meterOver (m : Dev) (a : Nat) (v : Word) : (m.wr a v).meterOver = m.meterOver := rfl
@[simp] theorem wr_ringStop (m : Dev) (a : Nat) (v : Word) : (m.wr a v).ringStop = m.ringStop := rfl
@[simp] theorem wr_ringOff (m : Dev) (a : Nat) (v : Word) : (m.wr a v).ringOff = m.ringOff := rfl
@[simp] theorem wr_entries (m : Dev) (a : Nat) (v : Word) : (m.wr a v).entries = m.entries := rfl
@[simp] theorem wr_d3hot (m : Dev) (a : Nat) (v : Word) : (m.wr a v).d3hot = m.d3hot := rfl
@[simp] theorem wr_linkSeq (m : Dev) (a : Nat) (v : Word) : (m.wr a v).linkSeq = m.linkSeq := rfl
@[simp] theorem wr_egress (m : Dev) (a : Nat) (v : Word) : (m.wr a v).egress = m.egress := rfl
@[simp] theorem wr_tr (m : Dev) (a : Nat) (v : Word) : (m.wr a v).tr = m.tr := rfl
@[simp] theorem wr_poolRing (m : Dev) (a : Nat) (v : Word) : (m.wr a v).poolRing = m.poolRing := rfl
@[simp] theorem wr_poolPlaced (m : Dev) (a : Nat) (v : Word) : (m.wr a v).poolPlaced = m.poolPlaced := rfl
@[simp] theorem wr_poolUndef (m : Dev) (a : Nat) (v : Word) : (m.wr a v).poolUndef = m.poolUndef := rfl
@[simp] theorem wr_reclaim (m : Dev) (a : Nat) (v : Word) : (m.wr a v).reclaim = m.reclaim := rfl
@[simp] theorem wr_fifos (m : Dev) (a : Nat) (v : Word) : (m.wr a v).fifos = m.fifos := rfl
@[simp] theorem wr_assay (m : Dev) (a : Nat) (v : Word) : (m.wr a v).assay = m.assay := rfl
@[simp] theorem wr_refOwed (m : Dev) (a : Nat) (v : Word) : (m.wr a v).refOwed = m.refOwed := rfl
@[simp] theorem wr_mr4 (m : Dev) (a : Nat) (v : Word) : (m.wr a v).mr4 = m.mr4 := rfl
@[simp] theorem wr_ceCount (m : Dev) (a : Nat) (v : Word) : (m.wr a v).ceCount = m.ceCount := rfl
@[simp] theorem wr_ceSec (m : Dev) (a : Nat) (v : Word) : (m.wr a v).ceSec = m.ceSec := rfl
@[simp] theorem wr_scrubPos (m : Dev) (a : Nat) (v : Word) : (m.wr a v).scrubPos = m.scrubPos := rfl
@[simp] theorem wr_swaps (m : Dev) (a : Nat) (v : Word) : (m.wr a v).swaps = m.swaps := rfl
@[simp] theorem wr_stopAt (m : Dev) (a : Nat) (v : Word) : (m.wr a v).stopAt = m.stopAt := rfl
@[simp] theorem wr_liveBad (m : Dev) (a : Nat) (v : Word) : (m.wr a v).liveBad = m.liveBad := rfl
@[simp] theorem wr_liveFalse (m : Dev) (a : Nat) (v : Word) : (m.wr a v).liveFalse = m.liveFalse := rfl
@[simp] theorem wr_liveOver (m : Dev) (a : Nat) (v : Word) : (m.wr a v).liveOver = m.liveOver := rfl
@[simp] theorem wr_paceBad (m : Dev) (a : Nat) (v : Word) : (m.wr a v).paceBad = m.paceBad := rfl
@[simp] theorem wr_reroute (m : Dev) (a : Nat) (v : Word) : (m.wr a v).reroute = m.reroute := rfl
@[simp] theorem wr_shedStack (m : Dev) (a : Nat) (v : Word) : (m.wr a v).shedStack = m.shedStack := rfl
@[simp] theorem wr_loadHi (m : Dev) (a : Nat) (v : Word) : (m.wr a v).loadHi = m.loadHi := rfl
@[simp] theorem wr_loadLo (m : Dev) (a : Nat) (v : Word) : (m.wr a v).loadLo = m.loadLo := rfl
@[simp] theorem wr_resync (m : Dev) (a : Nat) (v : Word) : (m.wr a v).resync = m.resync := rfl
@[simp] theorem wr_applied (m : Dev) (a : Nat) (v : Word) : (m.wr a v).applied = m.applied := rfl
@[simp] theorem wr_cfgRec (m : Dev) (a : Nat) (v : Word) : (m.wr a v).cfgRec = m.cfgRec := rfl
@[simp] theorem wr_cfgSet (m : Dev) (a : Nat) (v : Word) : (m.wr a v).cfgSet = m.cfgSet := rfl
@[simp] theorem wr_colourDue (m : Dev) (a : Nat) (v : Word) : (m.wr a v).colourDue = m.colourDue := rfl
@[simp] theorem wr_mapCheck (m : Dev) (a : Nat) (v : Word) : (m.wr a v).mapCheck = m.mapCheck := rfl
@[simp] theorem wr_mapReady (m : Dev) (a : Nat) (v : Word) : (m.wr a v).mapReady = m.mapReady := rfl
@[simp] theorem wr_layers (m : Dev) (a : Nat) (v : Word) : (m.wr a v).layers = m.layers := rfl
@[simp] theorem wr_lampVal (m : Dev) (a : Nat) (v : Word) : (m.wr a v).lampVal = m.lampVal := rfl
@[simp] theorem wr_sentVals (m : Dev) (a : Nat) (v : Word) : (m.wr a v).sentVals = m.sentVals := rfl
@[simp] theorem wr_inRefresh (m : Dev) (a : Nat) (v : Word) : (m.wr a v).inRefresh = m.inRefresh := rfl
@[simp] theorem wr_refPeriod (m : Dev) (a : Nat) (v : Word) : (m.wr a v).refPeriod = m.refPeriod := rfl
@[simp] theorem wr_refreshCtl (m : Dev) (a : Nat) (v : Word) : (m.wr a v).refreshCtl = m.refreshCtl := rfl
@[simp] theorem wr_trackP (m : Dev) (a : Nat) (v : Word) : (m.wr a v).trackP = m.trackP := rfl
@[simp] theorem wr_lastCap (m : Dev) (a : Nat) (v : Word) : (m.wr a v).lastCap = m.lastCap := rfl
@[simp] theorem wr_lports (m : Dev) (a : Nat) (v : Word) : (m.wr a v).lports = m.lports := rfl
@[simp] theorem wr_cards (m : Dev) (a : Nat) (v : Word) : (m.wr a v).cards = m.cards := rfl
@[simp] theorem wr_upQ (m : Dev) (a : Nat) (v : Word) : (m.wr a v).upQ = m.upQ := rfl
@[simp] theorem wr_upload (m : Dev) (a : Nat) (v : Word) : (m.wr a v).upload = m.upload := rfl
@[simp] theorem wr_calRun (m : Dev) (a : Nat) (v : Word) : (m.wr a v).calRun = m.calRun := rfl
@[simp] theorem wr_journal (m : Dev) (a : Nat) (v : Word) : (m.wr a v).journal = m.journal := rfl
@[simp] theorem wr_haltAdded (m : Dev) (a : Nat) (v : Word) : (m.wr a v).haltAdded = m.haltAdded := rfl
@[simp] theorem wr_acctStop (m : Dev) (a : Nat) (v : Word) : (m.wr a v).acctStop = m.acctStop := rfl
@[simp] theorem wr_pass (m : Dev) (a : Nat) (v : Word) : (m.wr a v).pass = m.pass := rfl
@[simp] theorem wr_passLate (m : Dev) (a : Nat) (v : Word) : (m.wr a v).passLate = m.passLate := rfl
@[simp] theorem wr_nextPass (m : Dev) (a : Nat) (v : Word) : (m.wr a v).nextPass = m.nextPass := rfl
@[simp] theorem wr_ledgerCmd (m : Dev) (a : Nat) (v : Word) : (m.wr a v).ledgerCmd = m.ledgerCmd := rfl
@[simp] theorem wr_calTicks (m : Dev) (a : Nat) (v : Word) : (m.wr a v).calTicks = m.calTicks := rfl
@[simp] theorem wr_calAt (m : Dev) (a : Nat) (v : Word) : (m.wr a v).calAt = m.calAt := rfl
@[simp] theorem wr_calDiffs (m : Dev) (a : Nat) (v : Word) : (m.wr a v).calDiffs = m.calDiffs := rfl
@[simp] theorem wr_ageSum (m : Dev) (a : Nat) (v : Word) : (m.wr a v).ageSum = m.ageSum := rfl
@[simp] theorem wr_ageCount (m : Dev) (a : Nat) (v : Word) : (m.wr a v).ageCount = m.ageCount := rfl
@[simp] theorem wr_ucode (m : Dev) (a : Nat) (v : Word) : (m.wr a v).ucode = m.ucode := rfl
@[simp] theorem wr_bursts (m : Dev) (a : Nat) (v : Word) : (m.wr a v).bursts = m.bursts := rfl
@[simp] theorem wr_ucStage (m : Dev) (a : Nat) (v : Word) : (m.wr a v).ucStage = m.ucStage := rfl
@[simp] theorem wr_cancelCount (m : Dev) (a : Nat) (v : Word) : (m.wr a v).cancelCount = m.cancelCount := rfl
@[simp] theorem wr_monBad (m : Dev) (a : Nat) (v : Word) : (m.wr a v).monBad = m.monBad := rfl
@[simp] theorem wr_nomFrac (m : Dev) (a : Nat) (v : Word) : (m.wr a v).nomFrac = m.nomFrac := rfl
@[simp] theorem wr_missWins (m : Dev) (a : Nat) (v : Word) : (m.wr a v).missWins = m.missWins := rfl
@[simp] theorem wr_coreTemps (m : Dev) (a : Nat) (v : Word) : (m.wr a v).coreTemps = m.coreTemps := rfl
@[simp] theorem wr_otherPower (m : Dev) (a : Nat) (v : Word) : (m.wr a v).otherPower = m.otherPower := rfl
@[simp] theorem wr_govHold (m : Dev) (a : Nat) (v : Word) : (m.wr a v).govHold = m.govHold := rfl
@[simp] theorem wr_govAuto (m : Dev) (a : Nat) (v : Word) : (m.wr a v).govAuto = m.govAuto := rfl
@[simp] theorem wr_avsTries (m : Dev) (a : Nat) (v : Word) : (m.wr a v).avsTries = m.avsTries := rfl
@[simp] theorem wr_bar0Stage (m : Dev) (a : Nat) (v : Word) : (m.wr a v).bar0Stage = m.bar0Stage := rfl
@[simp] theorem wr_bar0Latch (m : Dev) (a : Nat) (v : Word) : (m.wr a v).bar0Latch = m.bar0Latch := rfl
@[simp] theorem wr_bar4Stage (m : Dev) (a : Nat) (v : Word) : (m.wr a v).bar4Stage = m.bar4Stage := rfl
@[simp] theorem wr_bar4Latch (m : Dev) (a : Nat) (v : Word) : (m.wr a v).bar4Latch = m.bar4Latch := rfl
@[simp] theorem wr_sqLead (m : Dev) (a : Nat) (v : Word) : (m.wr a v).sqLead = m.sqLead := rfl
@[simp] theorem wr_sqIdle (m : Dev) (a : Nat) (v : Word) : (m.wr a v).sqIdle = m.sqIdle := rfl
@[simp] theorem wr_sqTries (m : Dev) (a : Nat) (v : Word) : (m.wr a v).sqTries = m.sqTries := rfl
@[simp] theorem wr_sqUnretired (m : Dev) (a : Nat) (v : Word) : (m.wr a v).sqUnretired = m.sqUnretired := rfl
@[simp] theorem wr_cqHeld (m : Dev) (a : Nat) (v : Word) : (m.wr a v).cqHeld = m.cqHeld := rfl
@[simp] theorem wr_driveResets (m : Dev) (a : Nat) (v : Word) : (m.wr a v).driveResets = m.driveResets := rfl
@[simp] theorem wr_driveMdts (m : Dev) (a : Nat) (v : Word) : (m.wr a v).driveMdts = m.driveMdts := rfl
@[simp] theorem wr_csBytes (m : Dev) (a : Nat) (v : Word) : (m.wr a v).csBytes = m.csBytes := rfl
@[simp] theorem wr_bootLast (m : Dev) (a : Nat) (v : Word) : (m.wr a v).bootLast = m.bootLast := rfl
@[simp] theorem wr_lastReset (m : Dev) (a : Nat) (v : Word) : (m.wr a v).lastReset = m.lastReset := rfl
@[simp] theorem wr_subsys (m : Dev) (a : Nat) (v : Word) : (m.wr a v).subsys = m.subsys := rfl
@[simp] theorem wr_sources (m : Dev) (a : Nat) (v : Word) : (m.wr a v).sources = m.sources := rfl
@[simp] theorem wr_progress (m : Dev) (a : Nat) (v : Word) : (m.wr a v).progress = m.progress := rfl
@[simp] theorem wr_ingests (m : Dev) (a : Nat) (v : Word) : (m.wr a v).ingests = m.ingests := rfl
@[simp] theorem wr_fab (m : Dev) (a : Nat) (v : Word) : (m.wr a v).fab = m.fab := rfl
@[simp] theorem wr_decs (m : Dev) (a : Nat) (v : Word) : (m.wr a v).decs = m.decs := rfl
@[simp] theorem wr_decLogSeq (m : Dev) (a : Nat) (v : Word) : (m.wr a v).decLogSeq = m.decLogSeq := rfl
@[simp] theorem wr_kRem (m : Dev) (a : Nat) (v : Word) : (m.wr a v).kRem = m.kRem := rfl
@[simp] theorem wr_encs (m : Dev) (a : Nat) (v : Word) : (m.wr a v).encs = m.encs := rfl

/-! ### Writing a register field -/

@[simp] theorem p_now (m : Dev) (f : RF) (v : Nat) : (m.p f v).now = m.now := rfl
@[simp] theorem p_freeCtr (m : Dev) (f : RF) (v : Nat) : (m.p f v).freeCtr = m.freeCtr := rfl
@[simp] theorem p_out (m : Dev) (f : RF) (v : Nat) : (m.p f v).out = m.out := rfl
@[simp] theorem p_pins (m : Dev) (f : RF) (v : Nat) : (m.p f v).pins = m.pins := rfl
@[simp] theorem p_threads (m : Dev) (f : RF) (v : Nat) : (m.p f v).threads = m.threads := rfl
@[simp] theorem p_timers (m : Dev) (f : RF) (v : Nat) : (m.p f v).timers = m.timers := rfl
@[simp] theorem p_waitCtr (m : Dev) (f : RF) (v : Nat) : (m.p f v).waitCtr = m.waitCtr := rfl
@[simp] theorem p_mbx (m : Dev) (f : RF) (v : Nat) : (m.p f v).mbx = m.mbx := rfl
@[simp] theorem p_grpRec (m : Dev) (f : RF) (v : Nat) : (m.p f v).grpRec = m.grpRec := rfl
@[simp] theorem p_msixOn (m : Dev) (f : RF) (v : Nat) : (m.p f v).msixOn = m.msixOn := rfl
@[simp] theorem p_msixMaskAll (m : Dev) (f : RF) (v : Nat) : (m.p f v).msixMaskAll = m.msixMaskAll := rfl
@[simp] theorem p_msixTbl (m : Dev) (f : RF) (v : Nat) : (m.p f v).msixTbl = m.msixTbl := rfl
@[simp] theorem p_pba (m : Dev) (f : RF) (v : Nat) : (m.p f v).pba = m.pba := rfl
@[simp] theorem p_esc (m : Dev) (f : RF) (v : Nat) : (m.p f v).esc = m.esc := rfl
@[simp] theorem p_escWait (m : Dev) (f : RF) (v : Nat) : (m.p f v).escWait = m.escWait := rfl
@[simp] theorem p_fnPulse (m : Dev) (f : RF) (v : Nat) : (m.p f v).fnPulse = m.fnPulse := rfl
@[simp] theorem p_faultSeq (m : Dev) (f : RF) (v : Nat) : (m.p f v).faultSeq = m.faultSeq := rfl
@[simp] theorem p_queues (m : Dev) (f : RF) (v : Nat) : (m.p f v).queues = m.queues := rfl
@[simp] theorem p_running (m : Dev) (f : RF) (v : Nat) : (m.p f v).running = m.running := rfl
@[simp] theorem p_qOrder (m : Dev) (f : RF) (v : Nat) : (m.p f v).qOrder = m.qOrder := rfl
@[simp] theorem p_lastTick (m : Dev) (f : RF) (v : Nat) : (m.p f v).lastTick = m.lastTick := rfl
@[simp] theorem p_segs (m : Dev) (f : RF) (v : Nat) : (m.p f v).segs = m.segs := rfl
@[simp] theorem p_lastSeg (m : Dev) (f : RF) (v : Nat) : (m.p f v).lastSeg = m.lastSeg := rfl
@[simp] theorem p_stage (m : Dev) (f : RF) (v : Nat) : (m.p f v).stage = m.stage := rfl
@[simp] theorem p_meter (m : Dev) (f : RF) (v : Nat) : (m.p f v).meter = m.meter := rfl
@[simp] theorem p_meterOver (m : Dev) (f : RF) (v : Nat) : (m.p f v).meterOver = m.meterOver := rfl
@[simp] theorem p_ringStop (m : Dev) (f : RF) (v : Nat) : (m.p f v).ringStop = m.ringStop := rfl
@[simp] theorem p_ringOff (m : Dev) (f : RF) (v : Nat) : (m.p f v).ringOff = m.ringOff := rfl
@[simp] theorem p_entries (m : Dev) (f : RF) (v : Nat) : (m.p f v).entries = m.entries := rfl
@[simp] theorem p_d3hot (m : Dev) (f : RF) (v : Nat) : (m.p f v).d3hot = m.d3hot := rfl
@[simp] theorem p_linkSeq (m : Dev) (f : RF) (v : Nat) : (m.p f v).linkSeq = m.linkSeq := rfl
@[simp] theorem p_egress (m : Dev) (f : RF) (v : Nat) : (m.p f v).egress = m.egress := rfl
@[simp] theorem p_tr (m : Dev) (f : RF) (v : Nat) : (m.p f v).tr = m.tr := rfl
@[simp] theorem p_poolRing (m : Dev) (f : RF) (v : Nat) : (m.p f v).poolRing = m.poolRing := rfl
@[simp] theorem p_poolPlaced (m : Dev) (f : RF) (v : Nat) : (m.p f v).poolPlaced = m.poolPlaced := rfl
@[simp] theorem p_poolUndef (m : Dev) (f : RF) (v : Nat) : (m.p f v).poolUndef = m.poolUndef := rfl
@[simp] theorem p_reclaim (m : Dev) (f : RF) (v : Nat) : (m.p f v).reclaim = m.reclaim := rfl
@[simp] theorem p_fifos (m : Dev) (f : RF) (v : Nat) : (m.p f v).fifos = m.fifos := rfl
@[simp] theorem p_assay (m : Dev) (f : RF) (v : Nat) : (m.p f v).assay = m.assay := rfl
@[simp] theorem p_refOwed (m : Dev) (f : RF) (v : Nat) : (m.p f v).refOwed = m.refOwed := rfl
@[simp] theorem p_mr4 (m : Dev) (f : RF) (v : Nat) : (m.p f v).mr4 = m.mr4 := rfl
@[simp] theorem p_ceCount (m : Dev) (f : RF) (v : Nat) : (m.p f v).ceCount = m.ceCount := rfl
@[simp] theorem p_ceSec (m : Dev) (f : RF) (v : Nat) : (m.p f v).ceSec = m.ceSec := rfl
@[simp] theorem p_scrubPos (m : Dev) (f : RF) (v : Nat) : (m.p f v).scrubPos = m.scrubPos := rfl
@[simp] theorem p_swaps (m : Dev) (f : RF) (v : Nat) : (m.p f v).swaps = m.swaps := rfl
@[simp] theorem p_stopAt (m : Dev) (f : RF) (v : Nat) : (m.p f v).stopAt = m.stopAt := rfl
@[simp] theorem p_liveBad (m : Dev) (f : RF) (v : Nat) : (m.p f v).liveBad = m.liveBad := rfl
@[simp] theorem p_liveFalse (m : Dev) (f : RF) (v : Nat) : (m.p f v).liveFalse = m.liveFalse := rfl
@[simp] theorem p_liveOver (m : Dev) (f : RF) (v : Nat) : (m.p f v).liveOver = m.liveOver := rfl
@[simp] theorem p_paceBad (m : Dev) (f : RF) (v : Nat) : (m.p f v).paceBad = m.paceBad := rfl
@[simp] theorem p_reroute (m : Dev) (f : RF) (v : Nat) : (m.p f v).reroute = m.reroute := rfl
@[simp] theorem p_shedStack (m : Dev) (f : RF) (v : Nat) : (m.p f v).shedStack = m.shedStack := rfl
@[simp] theorem p_loadHi (m : Dev) (f : RF) (v : Nat) : (m.p f v).loadHi = m.loadHi := rfl
@[simp] theorem p_loadLo (m : Dev) (f : RF) (v : Nat) : (m.p f v).loadLo = m.loadLo := rfl
@[simp] theorem p_resync (m : Dev) (f : RF) (v : Nat) : (m.p f v).resync = m.resync := rfl
@[simp] theorem p_applied (m : Dev) (f : RF) (v : Nat) : (m.p f v).applied = m.applied := rfl
@[simp] theorem p_cfgRec (m : Dev) (f : RF) (v : Nat) : (m.p f v).cfgRec = m.cfgRec := rfl
@[simp] theorem p_cfgSet (m : Dev) (f : RF) (v : Nat) : (m.p f v).cfgSet = m.cfgSet := rfl
@[simp] theorem p_colourDue (m : Dev) (f : RF) (v : Nat) : (m.p f v).colourDue = m.colourDue := rfl
@[simp] theorem p_mapCheck (m : Dev) (f : RF) (v : Nat) : (m.p f v).mapCheck = m.mapCheck := rfl
@[simp] theorem p_mapReady (m : Dev) (f : RF) (v : Nat) : (m.p f v).mapReady = m.mapReady := rfl
@[simp] theorem p_layers (m : Dev) (f : RF) (v : Nat) : (m.p f v).layers = m.layers := rfl
@[simp] theorem p_lampVal (m : Dev) (f : RF) (v : Nat) : (m.p f v).lampVal = m.lampVal := rfl
@[simp] theorem p_sentVals (m : Dev) (f : RF) (v : Nat) : (m.p f v).sentVals = m.sentVals := rfl
@[simp] theorem p_inRefresh (m : Dev) (f : RF) (v : Nat) : (m.p f v).inRefresh = m.inRefresh := rfl
@[simp] theorem p_refPeriod (m : Dev) (f : RF) (v : Nat) : (m.p f v).refPeriod = m.refPeriod := rfl
@[simp] theorem p_refreshCtl (m : Dev) (f : RF) (v : Nat) : (m.p f v).refreshCtl = m.refreshCtl := rfl
@[simp] theorem p_trackP (m : Dev) (f : RF) (v : Nat) : (m.p f v).trackP = m.trackP := rfl
@[simp] theorem p_lastCap (m : Dev) (f : RF) (v : Nat) : (m.p f v).lastCap = m.lastCap := rfl
@[simp] theorem p_lports (m : Dev) (f : RF) (v : Nat) : (m.p f v).lports = m.lports := rfl
@[simp] theorem p_cards (m : Dev) (f : RF) (v : Nat) : (m.p f v).cards = m.cards := rfl
@[simp] theorem p_upQ (m : Dev) (f : RF) (v : Nat) : (m.p f v).upQ = m.upQ := rfl
@[simp] theorem p_upload (m : Dev) (f : RF) (v : Nat) : (m.p f v).upload = m.upload := rfl
@[simp] theorem p_calRun (m : Dev) (f : RF) (v : Nat) : (m.p f v).calRun = m.calRun := rfl
@[simp] theorem p_journal (m : Dev) (f : RF) (v : Nat) : (m.p f v).journal = m.journal := rfl
@[simp] theorem p_haltAdded (m : Dev) (f : RF) (v : Nat) : (m.p f v).haltAdded = m.haltAdded := rfl
@[simp] theorem p_acctStop (m : Dev) (f : RF) (v : Nat) : (m.p f v).acctStop = m.acctStop := rfl
@[simp] theorem p_pass (m : Dev) (f : RF) (v : Nat) : (m.p f v).pass = m.pass := rfl
@[simp] theorem p_passLate (m : Dev) (f : RF) (v : Nat) : (m.p f v).passLate = m.passLate := rfl
@[simp] theorem p_nextPass (m : Dev) (f : RF) (v : Nat) : (m.p f v).nextPass = m.nextPass := rfl
@[simp] theorem p_ledgerCmd (m : Dev) (f : RF) (v : Nat) : (m.p f v).ledgerCmd = m.ledgerCmd := rfl
@[simp] theorem p_calTicks (m : Dev) (f : RF) (v : Nat) : (m.p f v).calTicks = m.calTicks := rfl
@[simp] theorem p_calAt (m : Dev) (f : RF) (v : Nat) : (m.p f v).calAt = m.calAt := rfl
@[simp] theorem p_calDiffs (m : Dev) (f : RF) (v : Nat) : (m.p f v).calDiffs = m.calDiffs := rfl
@[simp] theorem p_ageSum (m : Dev) (f : RF) (v : Nat) : (m.p f v).ageSum = m.ageSum := rfl
@[simp] theorem p_ageCount (m : Dev) (f : RF) (v : Nat) : (m.p f v).ageCount = m.ageCount := rfl
@[simp] theorem p_ucode (m : Dev) (f : RF) (v : Nat) : (m.p f v).ucode = m.ucode := rfl
@[simp] theorem p_bursts (m : Dev) (f : RF) (v : Nat) : (m.p f v).bursts = m.bursts := rfl
@[simp] theorem p_ucStage (m : Dev) (f : RF) (v : Nat) : (m.p f v).ucStage = m.ucStage := rfl
@[simp] theorem p_cancelCount (m : Dev) (f : RF) (v : Nat) : (m.p f v).cancelCount = m.cancelCount := rfl
@[simp] theorem p_monBad (m : Dev) (f : RF) (v : Nat) : (m.p f v).monBad = m.monBad := rfl
@[simp] theorem p_nomFrac (m : Dev) (f : RF) (v : Nat) : (m.p f v).nomFrac = m.nomFrac := rfl
@[simp] theorem p_missWins (m : Dev) (f : RF) (v : Nat) : (m.p f v).missWins = m.missWins := rfl
@[simp] theorem p_coreTemps (m : Dev) (f : RF) (v : Nat) : (m.p f v).coreTemps = m.coreTemps := rfl
@[simp] theorem p_otherPower (m : Dev) (f : RF) (v : Nat) : (m.p f v).otherPower = m.otherPower := rfl
@[simp] theorem p_govHold (m : Dev) (f : RF) (v : Nat) : (m.p f v).govHold = m.govHold := rfl
@[simp] theorem p_govAuto (m : Dev) (f : RF) (v : Nat) : (m.p f v).govAuto = m.govAuto := rfl
@[simp] theorem p_avsTries (m : Dev) (f : RF) (v : Nat) : (m.p f v).avsTries = m.avsTries := rfl
@[simp] theorem p_bar0Stage (m : Dev) (f : RF) (v : Nat) : (m.p f v).bar0Stage = m.bar0Stage := rfl
@[simp] theorem p_bar0Latch (m : Dev) (f : RF) (v : Nat) : (m.p f v).bar0Latch = m.bar0Latch := rfl
@[simp] theorem p_bar4Stage (m : Dev) (f : RF) (v : Nat) : (m.p f v).bar4Stage = m.bar4Stage := rfl
@[simp] theorem p_bar4Latch (m : Dev) (f : RF) (v : Nat) : (m.p f v).bar4Latch = m.bar4Latch := rfl
@[simp] theorem p_sqLead (m : Dev) (f : RF) (v : Nat) : (m.p f v).sqLead = m.sqLead := rfl
@[simp] theorem p_sqIdle (m : Dev) (f : RF) (v : Nat) : (m.p f v).sqIdle = m.sqIdle := rfl
@[simp] theorem p_sqTries (m : Dev) (f : RF) (v : Nat) : (m.p f v).sqTries = m.sqTries := rfl
@[simp] theorem p_sqUnretired (m : Dev) (f : RF) (v : Nat) : (m.p f v).sqUnretired = m.sqUnretired := rfl
@[simp] theorem p_cqHeld (m : Dev) (f : RF) (v : Nat) : (m.p f v).cqHeld = m.cqHeld := rfl
@[simp] theorem p_driveResets (m : Dev) (f : RF) (v : Nat) : (m.p f v).driveResets = m.driveResets := rfl
@[simp] theorem p_driveMdts (m : Dev) (f : RF) (v : Nat) : (m.p f v).driveMdts = m.driveMdts := rfl
@[simp] theorem p_csBytes (m : Dev) (f : RF) (v : Nat) : (m.p f v).csBytes = m.csBytes := rfl
@[simp] theorem p_bootLast (m : Dev) (f : RF) (v : Nat) : (m.p f v).bootLast = m.bootLast := rfl
@[simp] theorem p_lastReset (m : Dev) (f : RF) (v : Nat) : (m.p f v).lastReset = m.lastReset := rfl
@[simp] theorem p_subsys (m : Dev) (f : RF) (v : Nat) : (m.p f v).subsys = m.subsys := rfl
@[simp] theorem p_sources (m : Dev) (f : RF) (v : Nat) : (m.p f v).sources = m.sources := rfl
@[simp] theorem p_progress (m : Dev) (f : RF) (v : Nat) : (m.p f v).progress = m.progress := rfl
@[simp] theorem p_ingests (m : Dev) (f : RF) (v : Nat) : (m.p f v).ingests = m.ingests := rfl
@[simp] theorem p_fab (m : Dev) (f : RF) (v : Nat) : (m.p f v).fab = m.fab := rfl
@[simp] theorem p_decs (m : Dev) (f : RF) (v : Nat) : (m.p f v).decs = m.decs := rfl
@[simp] theorem p_decLogSeq (m : Dev) (f : RF) (v : Nat) : (m.p f v).decLogSeq = m.decLogSeq := rfl
@[simp] theorem p_kRem (m : Dev) (f : RF) (v : Nat) : (m.p f v).kRem = m.kRem := rfl
@[simp] theorem p_encs (m : Dev) (f : RF) (v : Nat) : (m.p f v).encs = m.encs := rfl

/-! ### Sending something out -/

@[simp] theorem send_regs (m : Dev) (o : Out) : (m.send o).regs = m.regs := rfl
@[simp] theorem send_now (m : Dev) (o : Out) : (m.send o).now = m.now := rfl
@[simp] theorem send_freeCtr (m : Dev) (o : Out) : (m.send o).freeCtr = m.freeCtr := rfl
@[simp] theorem send_pins (m : Dev) (o : Out) : (m.send o).pins = m.pins := rfl
@[simp] theorem send_threads (m : Dev) (o : Out) : (m.send o).threads = m.threads := rfl
@[simp] theorem send_timers (m : Dev) (o : Out) : (m.send o).timers = m.timers := rfl
@[simp] theorem send_waitCtr (m : Dev) (o : Out) : (m.send o).waitCtr = m.waitCtr := rfl
@[simp] theorem send_mbx (m : Dev) (o : Out) : (m.send o).mbx = m.mbx := rfl
@[simp] theorem send_grpRec (m : Dev) (o : Out) : (m.send o).grpRec = m.grpRec := rfl
@[simp] theorem send_msixOn (m : Dev) (o : Out) : (m.send o).msixOn = m.msixOn := rfl
@[simp] theorem send_msixMaskAll (m : Dev) (o : Out) : (m.send o).msixMaskAll = m.msixMaskAll := rfl
@[simp] theorem send_msixTbl (m : Dev) (o : Out) : (m.send o).msixTbl = m.msixTbl := rfl
@[simp] theorem send_pba (m : Dev) (o : Out) : (m.send o).pba = m.pba := rfl
@[simp] theorem send_esc (m : Dev) (o : Out) : (m.send o).esc = m.esc := rfl
@[simp] theorem send_escWait (m : Dev) (o : Out) : (m.send o).escWait = m.escWait := rfl
@[simp] theorem send_fnPulse (m : Dev) (o : Out) : (m.send o).fnPulse = m.fnPulse := rfl
@[simp] theorem send_faultSeq (m : Dev) (o : Out) : (m.send o).faultSeq = m.faultSeq := rfl
@[simp] theorem send_queues (m : Dev) (o : Out) : (m.send o).queues = m.queues := rfl
@[simp] theorem send_running (m : Dev) (o : Out) : (m.send o).running = m.running := rfl
@[simp] theorem send_qOrder (m : Dev) (o : Out) : (m.send o).qOrder = m.qOrder := rfl
@[simp] theorem send_lastTick (m : Dev) (o : Out) : (m.send o).lastTick = m.lastTick := rfl
@[simp] theorem send_segs (m : Dev) (o : Out) : (m.send o).segs = m.segs := rfl
@[simp] theorem send_lastSeg (m : Dev) (o : Out) : (m.send o).lastSeg = m.lastSeg := rfl
@[simp] theorem send_stage (m : Dev) (o : Out) : (m.send o).stage = m.stage := rfl
@[simp] theorem send_meter (m : Dev) (o : Out) : (m.send o).meter = m.meter := rfl
@[simp] theorem send_meterOver (m : Dev) (o : Out) : (m.send o).meterOver = m.meterOver := rfl
@[simp] theorem send_ringStop (m : Dev) (o : Out) : (m.send o).ringStop = m.ringStop := rfl
@[simp] theorem send_ringOff (m : Dev) (o : Out) : (m.send o).ringOff = m.ringOff := rfl
@[simp] theorem send_entries (m : Dev) (o : Out) : (m.send o).entries = m.entries := rfl
@[simp] theorem send_d3hot (m : Dev) (o : Out) : (m.send o).d3hot = m.d3hot := rfl
@[simp] theorem send_linkSeq (m : Dev) (o : Out) : (m.send o).linkSeq = m.linkSeq := rfl
@[simp] theorem send_egress (m : Dev) (o : Out) : (m.send o).egress = m.egress := rfl
@[simp] theorem send_tr (m : Dev) (o : Out) : (m.send o).tr = m.tr := rfl
@[simp] theorem send_poolRing (m : Dev) (o : Out) : (m.send o).poolRing = m.poolRing := rfl
@[simp] theorem send_poolPlaced (m : Dev) (o : Out) : (m.send o).poolPlaced = m.poolPlaced := rfl
@[simp] theorem send_poolUndef (m : Dev) (o : Out) : (m.send o).poolUndef = m.poolUndef := rfl
@[simp] theorem send_reclaim (m : Dev) (o : Out) : (m.send o).reclaim = m.reclaim := rfl
@[simp] theorem send_fifos (m : Dev) (o : Out) : (m.send o).fifos = m.fifos := rfl
@[simp] theorem send_assay (m : Dev) (o : Out) : (m.send o).assay = m.assay := rfl
@[simp] theorem send_refOwed (m : Dev) (o : Out) : (m.send o).refOwed = m.refOwed := rfl
@[simp] theorem send_mr4 (m : Dev) (o : Out) : (m.send o).mr4 = m.mr4 := rfl
@[simp] theorem send_ceCount (m : Dev) (o : Out) : (m.send o).ceCount = m.ceCount := rfl
@[simp] theorem send_ceSec (m : Dev) (o : Out) : (m.send o).ceSec = m.ceSec := rfl
@[simp] theorem send_scrubPos (m : Dev) (o : Out) : (m.send o).scrubPos = m.scrubPos := rfl
@[simp] theorem send_swaps (m : Dev) (o : Out) : (m.send o).swaps = m.swaps := rfl
@[simp] theorem send_stopAt (m : Dev) (o : Out) : (m.send o).stopAt = m.stopAt := rfl
@[simp] theorem send_liveBad (m : Dev) (o : Out) : (m.send o).liveBad = m.liveBad := rfl
@[simp] theorem send_liveFalse (m : Dev) (o : Out) : (m.send o).liveFalse = m.liveFalse := rfl
@[simp] theorem send_liveOver (m : Dev) (o : Out) : (m.send o).liveOver = m.liveOver := rfl
@[simp] theorem send_paceBad (m : Dev) (o : Out) : (m.send o).paceBad = m.paceBad := rfl
@[simp] theorem send_reroute (m : Dev) (o : Out) : (m.send o).reroute = m.reroute := rfl
@[simp] theorem send_shedStack (m : Dev) (o : Out) : (m.send o).shedStack = m.shedStack := rfl
@[simp] theorem send_loadHi (m : Dev) (o : Out) : (m.send o).loadHi = m.loadHi := rfl
@[simp] theorem send_loadLo (m : Dev) (o : Out) : (m.send o).loadLo = m.loadLo := rfl
@[simp] theorem send_resync (m : Dev) (o : Out) : (m.send o).resync = m.resync := rfl
@[simp] theorem send_applied (m : Dev) (o : Out) : (m.send o).applied = m.applied := rfl
@[simp] theorem send_cfgRec (m : Dev) (o : Out) : (m.send o).cfgRec = m.cfgRec := rfl
@[simp] theorem send_cfgSet (m : Dev) (o : Out) : (m.send o).cfgSet = m.cfgSet := rfl
@[simp] theorem send_colourDue (m : Dev) (o : Out) : (m.send o).colourDue = m.colourDue := rfl
@[simp] theorem send_mapCheck (m : Dev) (o : Out) : (m.send o).mapCheck = m.mapCheck := rfl
@[simp] theorem send_mapReady (m : Dev) (o : Out) : (m.send o).mapReady = m.mapReady := rfl
@[simp] theorem send_layers (m : Dev) (o : Out) : (m.send o).layers = m.layers := rfl
@[simp] theorem send_lampVal (m : Dev) (o : Out) : (m.send o).lampVal = m.lampVal := rfl
@[simp] theorem send_sentVals (m : Dev) (o : Out) : (m.send o).sentVals = m.sentVals := rfl
@[simp] theorem send_inRefresh (m : Dev) (o : Out) : (m.send o).inRefresh = m.inRefresh := rfl
@[simp] theorem send_refPeriod (m : Dev) (o : Out) : (m.send o).refPeriod = m.refPeriod := rfl
@[simp] theorem send_refreshCtl (m : Dev) (o : Out) : (m.send o).refreshCtl = m.refreshCtl := rfl
@[simp] theorem send_trackP (m : Dev) (o : Out) : (m.send o).trackP = m.trackP := rfl
@[simp] theorem send_lastCap (m : Dev) (o : Out) : (m.send o).lastCap = m.lastCap := rfl
@[simp] theorem send_lports (m : Dev) (o : Out) : (m.send o).lports = m.lports := rfl
@[simp] theorem send_cards (m : Dev) (o : Out) : (m.send o).cards = m.cards := rfl
@[simp] theorem send_upQ (m : Dev) (o : Out) : (m.send o).upQ = m.upQ := rfl
@[simp] theorem send_upload (m : Dev) (o : Out) : (m.send o).upload = m.upload := rfl
@[simp] theorem send_calRun (m : Dev) (o : Out) : (m.send o).calRun = m.calRun := rfl
@[simp] theorem send_journal (m : Dev) (o : Out) : (m.send o).journal = m.journal := rfl
@[simp] theorem send_haltAdded (m : Dev) (o : Out) : (m.send o).haltAdded = m.haltAdded := rfl
@[simp] theorem send_acctStop (m : Dev) (o : Out) : (m.send o).acctStop = m.acctStop := rfl
@[simp] theorem send_pass (m : Dev) (o : Out) : (m.send o).pass = m.pass := rfl
@[simp] theorem send_passLate (m : Dev) (o : Out) : (m.send o).passLate = m.passLate := rfl
@[simp] theorem send_nextPass (m : Dev) (o : Out) : (m.send o).nextPass = m.nextPass := rfl
@[simp] theorem send_ledgerCmd (m : Dev) (o : Out) : (m.send o).ledgerCmd = m.ledgerCmd := rfl
@[simp] theorem send_calTicks (m : Dev) (o : Out) : (m.send o).calTicks = m.calTicks := rfl
@[simp] theorem send_calAt (m : Dev) (o : Out) : (m.send o).calAt = m.calAt := rfl
@[simp] theorem send_calDiffs (m : Dev) (o : Out) : (m.send o).calDiffs = m.calDiffs := rfl
@[simp] theorem send_ageSum (m : Dev) (o : Out) : (m.send o).ageSum = m.ageSum := rfl
@[simp] theorem send_ageCount (m : Dev) (o : Out) : (m.send o).ageCount = m.ageCount := rfl
@[simp] theorem send_ucode (m : Dev) (o : Out) : (m.send o).ucode = m.ucode := rfl
@[simp] theorem send_bursts (m : Dev) (o : Out) : (m.send o).bursts = m.bursts := rfl
@[simp] theorem send_ucStage (m : Dev) (o : Out) : (m.send o).ucStage = m.ucStage := rfl
@[simp] theorem send_cancelCount (m : Dev) (o : Out) : (m.send o).cancelCount = m.cancelCount := rfl
@[simp] theorem send_monBad (m : Dev) (o : Out) : (m.send o).monBad = m.monBad := rfl
@[simp] theorem send_nomFrac (m : Dev) (o : Out) : (m.send o).nomFrac = m.nomFrac := rfl
@[simp] theorem send_missWins (m : Dev) (o : Out) : (m.send o).missWins = m.missWins := rfl
@[simp] theorem send_coreTemps (m : Dev) (o : Out) : (m.send o).coreTemps = m.coreTemps := rfl
@[simp] theorem send_otherPower (m : Dev) (o : Out) : (m.send o).otherPower = m.otherPower := rfl
@[simp] theorem send_govHold (m : Dev) (o : Out) : (m.send o).govHold = m.govHold := rfl
@[simp] theorem send_govAuto (m : Dev) (o : Out) : (m.send o).govAuto = m.govAuto := rfl
@[simp] theorem send_avsTries (m : Dev) (o : Out) : (m.send o).avsTries = m.avsTries := rfl
@[simp] theorem send_bar0Stage (m : Dev) (o : Out) : (m.send o).bar0Stage = m.bar0Stage := rfl
@[simp] theorem send_bar0Latch (m : Dev) (o : Out) : (m.send o).bar0Latch = m.bar0Latch := rfl
@[simp] theorem send_bar4Stage (m : Dev) (o : Out) : (m.send o).bar4Stage = m.bar4Stage := rfl
@[simp] theorem send_bar4Latch (m : Dev) (o : Out) : (m.send o).bar4Latch = m.bar4Latch := rfl
@[simp] theorem send_sqLead (m : Dev) (o : Out) : (m.send o).sqLead = m.sqLead := rfl
@[simp] theorem send_sqIdle (m : Dev) (o : Out) : (m.send o).sqIdle = m.sqIdle := rfl
@[simp] theorem send_sqTries (m : Dev) (o : Out) : (m.send o).sqTries = m.sqTries := rfl
@[simp] theorem send_sqUnretired (m : Dev) (o : Out) : (m.send o).sqUnretired = m.sqUnretired := rfl
@[simp] theorem send_cqHeld (m : Dev) (o : Out) : (m.send o).cqHeld = m.cqHeld := rfl
@[simp] theorem send_driveResets (m : Dev) (o : Out) : (m.send o).driveResets = m.driveResets := rfl
@[simp] theorem send_driveMdts (m : Dev) (o : Out) : (m.send o).driveMdts = m.driveMdts := rfl
@[simp] theorem send_csBytes (m : Dev) (o : Out) : (m.send o).csBytes = m.csBytes := rfl
@[simp] theorem send_bootLast (m : Dev) (o : Out) : (m.send o).bootLast = m.bootLast := rfl
@[simp] theorem send_lastReset (m : Dev) (o : Out) : (m.send o).lastReset = m.lastReset := rfl
@[simp] theorem send_subsys (m : Dev) (o : Out) : (m.send o).subsys = m.subsys := rfl
@[simp] theorem send_sources (m : Dev) (o : Out) : (m.send o).sources = m.sources := rfl
@[simp] theorem send_progress (m : Dev) (o : Out) : (m.send o).progress = m.progress := rfl
@[simp] theorem send_ingests (m : Dev) (o : Out) : (m.send o).ingests = m.ingests := rfl
@[simp] theorem send_fab (m : Dev) (o : Out) : (m.send o).fab = m.fab := rfl
@[simp] theorem send_decs (m : Dev) (o : Out) : (m.send o).decs = m.decs := rfl
@[simp] theorem send_decLogSeq (m : Dev) (o : Out) : (m.send o).decLogSeq = m.decLogSeq := rfl
@[simp] theorem send_kRem (m : Dev) (o : Out) : (m.send o).kRem = m.kRem := rfl
@[simp] theorem send_encs (m : Dev) (o : Out) : (m.send o).encs = m.encs := rfl

/-! ### Storing a thread -/

@[simp] theorem setTh_regs (m : Dev) (t : Nat) (x : Thread) : (m.setTh t x).regs = m.regs := rfl
@[simp] theorem setTh_now (m : Dev) (t : Nat) (x : Thread) : (m.setTh t x).now = m.now := rfl
@[simp] theorem setTh_freeCtr (m : Dev) (t : Nat) (x : Thread) : (m.setTh t x).freeCtr = m.freeCtr := rfl
@[simp] theorem setTh_out (m : Dev) (t : Nat) (x : Thread) : (m.setTh t x).out = m.out := rfl
@[simp] theorem setTh_pins (m : Dev) (t : Nat) (x : Thread) : (m.setTh t x).pins = m.pins := rfl
@[simp] theorem setTh_timers (m : Dev) (t : Nat) (x : Thread) : (m.setTh t x).timers = m.timers := rfl
@[simp] theorem setTh_waitCtr (m : Dev) (t : Nat) (x : Thread) : (m.setTh t x).waitCtr = m.waitCtr := rfl
@[simp] theorem setTh_mbx (m : Dev) (t : Nat) (x : Thread) : (m.setTh t x).mbx = m.mbx := rfl
@[simp] theorem setTh_grpRec (m : Dev) (t : Nat) (x : Thread) : (m.setTh t x).grpRec = m.grpRec := rfl
@[simp] theorem setTh_msixOn (m : Dev) (t : Nat) (x : Thread) : (m.setTh t x).msixOn = m.msixOn := rfl
@[simp] theorem setTh_msixMaskAll (m : Dev) (t : Nat) (x : Thread) : (m.setTh t x).msixMaskAll = m.msixMaskAll := rfl
@[simp] theorem setTh_msixTbl (m : Dev) (t : Nat) (x : Thread) : (m.setTh t x).msixTbl = m.msixTbl := rfl
@[simp] theorem setTh_pba (m : Dev) (t : Nat) (x : Thread) : (m.setTh t x).pba = m.pba := rfl
@[simp] theorem setTh_esc (m : Dev) (t : Nat) (x : Thread) : (m.setTh t x).esc = m.esc := rfl
@[simp] theorem setTh_escWait (m : Dev) (t : Nat) (x : Thread) : (m.setTh t x).escWait = m.escWait := rfl
@[simp] theorem setTh_fnPulse (m : Dev) (t : Nat) (x : Thread) : (m.setTh t x).fnPulse = m.fnPulse := rfl
@[simp] theorem setTh_faultSeq (m : Dev) (t : Nat) (x : Thread) : (m.setTh t x).faultSeq = m.faultSeq := rfl
@[simp] theorem setTh_queues (m : Dev) (t : Nat) (x : Thread) : (m.setTh t x).queues = m.queues := rfl
@[simp] theorem setTh_running (m : Dev) (t : Nat) (x : Thread) : (m.setTh t x).running = m.running := rfl
@[simp] theorem setTh_qOrder (m : Dev) (t : Nat) (x : Thread) : (m.setTh t x).qOrder = m.qOrder := rfl
@[simp] theorem setTh_lastTick (m : Dev) (t : Nat) (x : Thread) : (m.setTh t x).lastTick = m.lastTick := rfl
@[simp] theorem setTh_segs (m : Dev) (t : Nat) (x : Thread) : (m.setTh t x).segs = m.segs := rfl
@[simp] theorem setTh_lastSeg (m : Dev) (t : Nat) (x : Thread) : (m.setTh t x).lastSeg = m.lastSeg := rfl
@[simp] theorem setTh_stage (m : Dev) (t : Nat) (x : Thread) : (m.setTh t x).stage = m.stage := rfl
@[simp] theorem setTh_meter (m : Dev) (t : Nat) (x : Thread) : (m.setTh t x).meter = m.meter := rfl
@[simp] theorem setTh_meterOver (m : Dev) (t : Nat) (x : Thread) : (m.setTh t x).meterOver = m.meterOver := rfl
@[simp] theorem setTh_ringStop (m : Dev) (t : Nat) (x : Thread) : (m.setTh t x).ringStop = m.ringStop := rfl
@[simp] theorem setTh_ringOff (m : Dev) (t : Nat) (x : Thread) : (m.setTh t x).ringOff = m.ringOff := rfl
@[simp] theorem setTh_entries (m : Dev) (t : Nat) (x : Thread) : (m.setTh t x).entries = m.entries := rfl
@[simp] theorem setTh_d3hot (m : Dev) (t : Nat) (x : Thread) : (m.setTh t x).d3hot = m.d3hot := rfl
@[simp] theorem setTh_linkSeq (m : Dev) (t : Nat) (x : Thread) : (m.setTh t x).linkSeq = m.linkSeq := rfl
@[simp] theorem setTh_egress (m : Dev) (t : Nat) (x : Thread) : (m.setTh t x).egress = m.egress := rfl
@[simp] theorem setTh_tr (m : Dev) (t : Nat) (x : Thread) : (m.setTh t x).tr = m.tr := rfl
@[simp] theorem setTh_poolRing (m : Dev) (t : Nat) (x : Thread) : (m.setTh t x).poolRing = m.poolRing := rfl
@[simp] theorem setTh_poolPlaced (m : Dev) (t : Nat) (x : Thread) : (m.setTh t x).poolPlaced = m.poolPlaced := rfl
@[simp] theorem setTh_poolUndef (m : Dev) (t : Nat) (x : Thread) : (m.setTh t x).poolUndef = m.poolUndef := rfl
@[simp] theorem setTh_reclaim (m : Dev) (t : Nat) (x : Thread) : (m.setTh t x).reclaim = m.reclaim := rfl
@[simp] theorem setTh_fifos (m : Dev) (t : Nat) (x : Thread) : (m.setTh t x).fifos = m.fifos := rfl
@[simp] theorem setTh_assay (m : Dev) (t : Nat) (x : Thread) : (m.setTh t x).assay = m.assay := rfl
@[simp] theorem setTh_refOwed (m : Dev) (t : Nat) (x : Thread) : (m.setTh t x).refOwed = m.refOwed := rfl
@[simp] theorem setTh_mr4 (m : Dev) (t : Nat) (x : Thread) : (m.setTh t x).mr4 = m.mr4 := rfl
@[simp] theorem setTh_ceCount (m : Dev) (t : Nat) (x : Thread) : (m.setTh t x).ceCount = m.ceCount := rfl
@[simp] theorem setTh_ceSec (m : Dev) (t : Nat) (x : Thread) : (m.setTh t x).ceSec = m.ceSec := rfl
@[simp] theorem setTh_scrubPos (m : Dev) (t : Nat) (x : Thread) : (m.setTh t x).scrubPos = m.scrubPos := rfl
@[simp] theorem setTh_swaps (m : Dev) (t : Nat) (x : Thread) : (m.setTh t x).swaps = m.swaps := rfl
@[simp] theorem setTh_stopAt (m : Dev) (t : Nat) (x : Thread) : (m.setTh t x).stopAt = m.stopAt := rfl
@[simp] theorem setTh_liveBad (m : Dev) (t : Nat) (x : Thread) : (m.setTh t x).liveBad = m.liveBad := rfl
@[simp] theorem setTh_liveFalse (m : Dev) (t : Nat) (x : Thread) : (m.setTh t x).liveFalse = m.liveFalse := rfl
@[simp] theorem setTh_liveOver (m : Dev) (t : Nat) (x : Thread) : (m.setTh t x).liveOver = m.liveOver := rfl
@[simp] theorem setTh_paceBad (m : Dev) (t : Nat) (x : Thread) : (m.setTh t x).paceBad = m.paceBad := rfl
@[simp] theorem setTh_reroute (m : Dev) (t : Nat) (x : Thread) : (m.setTh t x).reroute = m.reroute := rfl
@[simp] theorem setTh_shedStack (m : Dev) (t : Nat) (x : Thread) : (m.setTh t x).shedStack = m.shedStack := rfl
@[simp] theorem setTh_loadHi (m : Dev) (t : Nat) (x : Thread) : (m.setTh t x).loadHi = m.loadHi := rfl
@[simp] theorem setTh_loadLo (m : Dev) (t : Nat) (x : Thread) : (m.setTh t x).loadLo = m.loadLo := rfl
@[simp] theorem setTh_resync (m : Dev) (t : Nat) (x : Thread) : (m.setTh t x).resync = m.resync := rfl
@[simp] theorem setTh_applied (m : Dev) (t : Nat) (x : Thread) : (m.setTh t x).applied = m.applied := rfl
@[simp] theorem setTh_cfgRec (m : Dev) (t : Nat) (x : Thread) : (m.setTh t x).cfgRec = m.cfgRec := rfl
@[simp] theorem setTh_cfgSet (m : Dev) (t : Nat) (x : Thread) : (m.setTh t x).cfgSet = m.cfgSet := rfl
@[simp] theorem setTh_colourDue (m : Dev) (t : Nat) (x : Thread) : (m.setTh t x).colourDue = m.colourDue := rfl
@[simp] theorem setTh_mapCheck (m : Dev) (t : Nat) (x : Thread) : (m.setTh t x).mapCheck = m.mapCheck := rfl
@[simp] theorem setTh_mapReady (m : Dev) (t : Nat) (x : Thread) : (m.setTh t x).mapReady = m.mapReady := rfl
@[simp] theorem setTh_layers (m : Dev) (t : Nat) (x : Thread) : (m.setTh t x).layers = m.layers := rfl
@[simp] theorem setTh_lampVal (m : Dev) (t : Nat) (x : Thread) : (m.setTh t x).lampVal = m.lampVal := rfl
@[simp] theorem setTh_sentVals (m : Dev) (t : Nat) (x : Thread) : (m.setTh t x).sentVals = m.sentVals := rfl
@[simp] theorem setTh_inRefresh (m : Dev) (t : Nat) (x : Thread) : (m.setTh t x).inRefresh = m.inRefresh := rfl
@[simp] theorem setTh_refPeriod (m : Dev) (t : Nat) (x : Thread) : (m.setTh t x).refPeriod = m.refPeriod := rfl
@[simp] theorem setTh_refreshCtl (m : Dev) (t : Nat) (x : Thread) : (m.setTh t x).refreshCtl = m.refreshCtl := rfl
@[simp] theorem setTh_trackP (m : Dev) (t : Nat) (x : Thread) : (m.setTh t x).trackP = m.trackP := rfl
@[simp] theorem setTh_lastCap (m : Dev) (t : Nat) (x : Thread) : (m.setTh t x).lastCap = m.lastCap := rfl
@[simp] theorem setTh_lports (m : Dev) (t : Nat) (x : Thread) : (m.setTh t x).lports = m.lports := rfl
@[simp] theorem setTh_cards (m : Dev) (t : Nat) (x : Thread) : (m.setTh t x).cards = m.cards := rfl
@[simp] theorem setTh_upQ (m : Dev) (t : Nat) (x : Thread) : (m.setTh t x).upQ = m.upQ := rfl
@[simp] theorem setTh_upload (m : Dev) (t : Nat) (x : Thread) : (m.setTh t x).upload = m.upload := rfl
@[simp] theorem setTh_calRun (m : Dev) (t : Nat) (x : Thread) : (m.setTh t x).calRun = m.calRun := rfl
@[simp] theorem setTh_journal (m : Dev) (t : Nat) (x : Thread) : (m.setTh t x).journal = m.journal := rfl
@[simp] theorem setTh_haltAdded (m : Dev) (t : Nat) (x : Thread) : (m.setTh t x).haltAdded = m.haltAdded := rfl
@[simp] theorem setTh_acctStop (m : Dev) (t : Nat) (x : Thread) : (m.setTh t x).acctStop = m.acctStop := rfl
@[simp] theorem setTh_pass (m : Dev) (t : Nat) (x : Thread) : (m.setTh t x).pass = m.pass := rfl
@[simp] theorem setTh_passLate (m : Dev) (t : Nat) (x : Thread) : (m.setTh t x).passLate = m.passLate := rfl
@[simp] theorem setTh_nextPass (m : Dev) (t : Nat) (x : Thread) : (m.setTh t x).nextPass = m.nextPass := rfl
@[simp] theorem setTh_ledgerCmd (m : Dev) (t : Nat) (x : Thread) : (m.setTh t x).ledgerCmd = m.ledgerCmd := rfl
@[simp] theorem setTh_calTicks (m : Dev) (t : Nat) (x : Thread) : (m.setTh t x).calTicks = m.calTicks := rfl
@[simp] theorem setTh_calAt (m : Dev) (t : Nat) (x : Thread) : (m.setTh t x).calAt = m.calAt := rfl
@[simp] theorem setTh_calDiffs (m : Dev) (t : Nat) (x : Thread) : (m.setTh t x).calDiffs = m.calDiffs := rfl
@[simp] theorem setTh_ageSum (m : Dev) (t : Nat) (x : Thread) : (m.setTh t x).ageSum = m.ageSum := rfl
@[simp] theorem setTh_ageCount (m : Dev) (t : Nat) (x : Thread) : (m.setTh t x).ageCount = m.ageCount := rfl
@[simp] theorem setTh_ucode (m : Dev) (t : Nat) (x : Thread) : (m.setTh t x).ucode = m.ucode := rfl
@[simp] theorem setTh_bursts (m : Dev) (t : Nat) (x : Thread) : (m.setTh t x).bursts = m.bursts := rfl
@[simp] theorem setTh_ucStage (m : Dev) (t : Nat) (x : Thread) : (m.setTh t x).ucStage = m.ucStage := rfl
@[simp] theorem setTh_cancelCount (m : Dev) (t : Nat) (x : Thread) : (m.setTh t x).cancelCount = m.cancelCount := rfl
@[simp] theorem setTh_monBad (m : Dev) (t : Nat) (x : Thread) : (m.setTh t x).monBad = m.monBad := rfl
@[simp] theorem setTh_nomFrac (m : Dev) (t : Nat) (x : Thread) : (m.setTh t x).nomFrac = m.nomFrac := rfl
@[simp] theorem setTh_missWins (m : Dev) (t : Nat) (x : Thread) : (m.setTh t x).missWins = m.missWins := rfl
@[simp] theorem setTh_coreTemps (m : Dev) (t : Nat) (x : Thread) : (m.setTh t x).coreTemps = m.coreTemps := rfl
@[simp] theorem setTh_otherPower (m : Dev) (t : Nat) (x : Thread) : (m.setTh t x).otherPower = m.otherPower := rfl
@[simp] theorem setTh_govHold (m : Dev) (t : Nat) (x : Thread) : (m.setTh t x).govHold = m.govHold := rfl
@[simp] theorem setTh_govAuto (m : Dev) (t : Nat) (x : Thread) : (m.setTh t x).govAuto = m.govAuto := rfl
@[simp] theorem setTh_avsTries (m : Dev) (t : Nat) (x : Thread) : (m.setTh t x).avsTries = m.avsTries := rfl
@[simp] theorem setTh_bar0Stage (m : Dev) (t : Nat) (x : Thread) : (m.setTh t x).bar0Stage = m.bar0Stage := rfl
@[simp] theorem setTh_bar0Latch (m : Dev) (t : Nat) (x : Thread) : (m.setTh t x).bar0Latch = m.bar0Latch := rfl
@[simp] theorem setTh_bar4Stage (m : Dev) (t : Nat) (x : Thread) : (m.setTh t x).bar4Stage = m.bar4Stage := rfl
@[simp] theorem setTh_bar4Latch (m : Dev) (t : Nat) (x : Thread) : (m.setTh t x).bar4Latch = m.bar4Latch := rfl
@[simp] theorem setTh_sqLead (m : Dev) (t : Nat) (x : Thread) : (m.setTh t x).sqLead = m.sqLead := rfl
@[simp] theorem setTh_sqIdle (m : Dev) (t : Nat) (x : Thread) : (m.setTh t x).sqIdle = m.sqIdle := rfl
@[simp] theorem setTh_sqTries (m : Dev) (t : Nat) (x : Thread) : (m.setTh t x).sqTries = m.sqTries := rfl
@[simp] theorem setTh_sqUnretired (m : Dev) (t : Nat) (x : Thread) : (m.setTh t x).sqUnretired = m.sqUnretired := rfl
@[simp] theorem setTh_cqHeld (m : Dev) (t : Nat) (x : Thread) : (m.setTh t x).cqHeld = m.cqHeld := rfl
@[simp] theorem setTh_driveResets (m : Dev) (t : Nat) (x : Thread) : (m.setTh t x).driveResets = m.driveResets := rfl
@[simp] theorem setTh_driveMdts (m : Dev) (t : Nat) (x : Thread) : (m.setTh t x).driveMdts = m.driveMdts := rfl
@[simp] theorem setTh_csBytes (m : Dev) (t : Nat) (x : Thread) : (m.setTh t x).csBytes = m.csBytes := rfl
@[simp] theorem setTh_bootLast (m : Dev) (t : Nat) (x : Thread) : (m.setTh t x).bootLast = m.bootLast := rfl
@[simp] theorem setTh_lastReset (m : Dev) (t : Nat) (x : Thread) : (m.setTh t x).lastReset = m.lastReset := rfl
@[simp] theorem setTh_subsys (m : Dev) (t : Nat) (x : Thread) : (m.setTh t x).subsys = m.subsys := rfl
@[simp] theorem setTh_sources (m : Dev) (t : Nat) (x : Thread) : (m.setTh t x).sources = m.sources := rfl
@[simp] theorem setTh_progress (m : Dev) (t : Nat) (x : Thread) : (m.setTh t x).progress = m.progress := rfl
@[simp] theorem setTh_ingests (m : Dev) (t : Nat) (x : Thread) : (m.setTh t x).ingests = m.ingests := rfl
@[simp] theorem setTh_fab (m : Dev) (t : Nat) (x : Thread) : (m.setTh t x).fab = m.fab := rfl
@[simp] theorem setTh_decs (m : Dev) (t : Nat) (x : Thread) : (m.setTh t x).decs = m.decs := rfl
@[simp] theorem setTh_decLogSeq (m : Dev) (t : Nat) (x : Thread) : (m.setTh t x).decLogSeq = m.decLogSeq := rfl
@[simp] theorem setTh_kRem (m : Dev) (t : Nat) (x : Thread) : (m.setTh t x).kRem = m.kRem := rfl
@[simp] theorem setTh_encs (m : Dev) (t : Nat) (x : Thread) : (m.setTh t x).encs = m.encs := rfl

end Sys2Proof.Laws
end

