-- ==== Sys2Proof/Laws/Tbl.lean ====
section
/-!
SUPPORT. Laws/Tbl.lean: what the sparse tables do: a read after a write, and that writing keeps the canonical form.
-/

namespace Sys2Proof.Laws
open Sys2Proof.Machine

variable {α : Type}

theorem tget_terase_same (d : Nat → α) (m : List (Nat × α)) (k : Nat) : tget d (terase m k) k = d k := by
  induction m with
  | nil => rfl
  | cons p r ih =>
    obtain ⟨j, v⟩ := p
    by_cases h : k = j <;> simp [terase, tget, h] <;> simpa [h] using ih

theorem tget_terase_other (d : Nat → α) (m : List (Nat × α)) (k j : Nat) (h : j ≠ k) :
    tget d (terase m k) j = tget d m j := by
  induction m with
  | nil => rfl
  | cons p r ih =>
    obtain ⟨i, v⟩ := p
    by_cases h1 : k = i
    · subst h1; simp [terase, tget, h, ih]
    · by_cases h2 : j = i <;> simp [terase, tget, h1, h2, ih]

theorem tget_tins_same (d : Nat → α) (m : List (Nat × α)) (k : Nat) (v : α)
    (h : ∀ p ∈ m, p.1 ≠ k) : tget d (tins m k v) k = v := by
  induction m with
  | nil => simp [tins, tget]
  | cons p r ih =>
    obtain ⟨j, u⟩ := p
    have hj : k ≠ j := fun e => h (j, u) (by simp) e.symm
    by_cases h1 : k < j
    · simp [tins, tget, h1]
    · simp [tins, tget, h1, hj]
      exact ih (fun p hp => h p (by simp [hp]))

theorem tget_tins_other (d : Nat → α) (m : List (Nat × α)) (k j : Nat) (v : α) (h : j ≠ k) :
    tget d (tins m k v) j = tget d m j := by
  induction m with
  | nil => simp [tins, tget, h]
  | cons p r ih =>
    obtain ⟨i, u⟩ := p
    by_cases h1 : k < i
    · simp [tins, tget, h1, h]
    · simp [tins, tget, h1, ih]

theorem terase_ne (m : List (Nat × α)) (k : Nat) : ∀ p ∈ terase m k, p.1 ≠ k := by
  induction m with
  | nil => simp [terase]
  | cons p r ih =>
    obtain ⟨j, v⟩ := p
    by_cases h : k = j
    · simpa [terase, h] using ih
    · intro p hp
      simp only [terase, if_neg h, List.mem_cons] at hp
      rcases hp with rfl | hp
      · exact fun e => h e.symm
      · exact ih p hp

variable [DecidableEq α]

/-- A read after a write to the same key gives the value written. -/
@[simp] theorem tget_tput_same (d : Nat → α) (m : List (Nat × α)) (k : Nat) (v : α) :
    tget d (tput d m k v) k = v := by
  unfold tput
  split
  · rename_i h; rw [tget_terase_same, h]
  · exact tget_tins_same _ _ _ _ (terase_ne m k)

/-- A write leaves every other key as it was. -/
theorem tget_tput_other (d : Nat → α) (m : List (Nat × α)) (k j : Nat) (v : α) (h : j ≠ k) :
    tget d (tput d m k v) j = tget d m j := by
  unfold tput
  split
  · exact tget_terase_other _ _ _ _ h
  · rw [tget_tins_other _ _ _ _ _ h, tget_terase_other _ _ _ _ h]

/-- A read after a write, both cases. -/
theorem tget_tput (d : Nat → α) (m : List (Nat × α)) (k j : Nat) (v : α) :
    tget d (tput d m k v) j = if j = k then v else tget d m j := by
  split
  · rename_i h; subst h; simp
  · rename_i h; exact tget_tput_other _ _ _ _ _ h

omit [DecidableEq α] in
theorem trising_cons (j : Nat) (v : α) (m : List (Nat × α)) :
    trising ((j, v) :: m) = true ↔ (∀ p ∈ m, j < p.1) ∧ trising m = true := by
  induction m generalizing j v with
  | nil => simp [trising]
  | cons p r ih =>
    obtain ⟨k, u⟩ := p
    simp only [trising, Bool.and_eq_true, decide_eq_true_eq, List.mem_cons, forall_eq_or_imp]
    constructor
    · rintro ⟨h1, h2⟩
      exact ⟨⟨h1, fun p hp => Nat.lt_trans h1 (((ih k u).mp h2).1 p hp)⟩, h2⟩
    · rintro ⟨⟨h1, _⟩, h2⟩
      exact ⟨h1, h2⟩

omit [DecidableEq α] in
theorem terase_sub (m : List (Nat × α)) (k : Nat) : ∀ p ∈ terase m k, p ∈ m := by
  induction m with
  | nil => simp [terase]
  | cons q r ih =>
    obtain ⟨j, v⟩ := q
    intro p hp
    by_cases h : k = j
    · simp only [terase, if_pos h] at hp
      exact List.mem_cons_of_mem _ (ih p hp)
    · simp only [terase, if_neg h, List.mem_cons] at hp
      rcases hp with rfl | hp
      · simp
      · exact List.mem_cons_of_mem _ (ih p hp)

omit [DecidableEq α] in
theorem trising_terase (m : List (Nat × α)) (k : Nat) (h : trising m = true) : trising (terase m k) = true := by
  induction m with
  | nil => simpa [terase] using h
  | cons q r ih =>
    obtain ⟨j, v⟩ := q
    rw [trising_cons] at h
    by_cases hk : k = j
    · simpa [terase, hk] using (hk ▸ ih h.2)
    · simp only [terase, if_neg hk]
      rw [trising_cons]
      exact ⟨fun p hp => h.1 p (terase_sub r k p hp), ih h.2⟩

omit [DecidableEq α] in
theorem tins_mem (m : List (Nat × α)) (k : Nat) (v : α) : ∀ p ∈ tins m k v, p = (k, v) ∨ p ∈ m := by
  induction m with
  | nil => simp [tins]
  | cons q r ih =>
    obtain ⟨j, u⟩ := q
    intro p hp
    by_cases h : k < j
    · simpa [tins, h] using hp
    · simp only [tins, if_neg h, List.mem_cons] at hp
      rcases hp with rfl | hp
      · simp
      · rcases ih p hp with h1 | h1
        · exact Or.inl h1
        · exact Or.inr (List.mem_cons_of_mem _ h1)

omit [DecidableEq α] in
theorem trising_tins (m : List (Nat × α)) (k : Nat) (v : α) (h : trising m = true) (hk : ∀ p ∈ m, p.1 ≠ k) :
    trising (tins m k v) = true := by
  induction m with
  | nil => simp [tins, trising]
  | cons q r ih =>
    obtain ⟨j, u⟩ := q
    have h' := (trising_cons j u r).mp h
    by_cases hlt : k < j
    · simp only [tins, if_pos hlt]
      rw [trising_cons]
      refine ⟨fun p hp => ?_, h⟩
      rcases List.mem_cons.mp hp with rfl | hp
      · exact hlt
      · exact Nat.lt_trans hlt (h'.1 p hp)
    · have hne : j ≠ k := hk (j, u) (by simp)
      simp only [tins, if_neg hlt]
      rw [trising_cons]
      refine ⟨fun p hp => ?_, ih h'.2 (fun p hp => hk p (List.mem_cons_of_mem _ hp))⟩
      rcases tins_mem r k v p hp with rfl | hp
      · show j < k
        omega
      · exact h'.1 p hp

/-- Writing keeps the canonical form. -/
theorem twf_tput (d : Nat → α) (m : List (Nat × α)) (k : Nat) (v : α) (h : twf d m = true) :
    twf d (tput d m k v) = true := by
  simp only [twf, Bool.and_eq_true, List.all_eq_true, decide_eq_true_eq] at h ⊢
  unfold tput
  split
  · exact ⟨trising_terase m k h.1, fun p hp => h.2 p (terase_sub m k p hp)⟩
  · rename_i hv
    refine ⟨trising_tins _ k v (trising_terase m k h.1) (terase_ne m k), fun p hp => ?_⟩
    rcases tins_mem _ k v p hp with rfl | hp
    · exact hv
    · exact h.2 p (terase_sub m k p hp)

omit [DecidableEq α] in
theorem terase_terase (m : List (Nat × α)) (k : Nat) : terase (terase m k) k = terase m k := by
  induction m with
  | nil => rfl
  | cons p r ih =>
    obtain ⟨j, u⟩ := p
    by_cases h : k = j
    · simpa [terase, h] using (h ▸ ih)
    · simp [terase, h, ih]

omit [DecidableEq α] in
theorem terase_tins (m : List (Nat × α)) (k : Nat) (v : α) : terase (tins m k v) k = terase m k := by
  induction m with
  | nil => simp [tins, terase]
  | cons p r ih =>
    obtain ⟨j, u⟩ := p
    by_cases h : k < j
    · simp [tins, h, terase]
    · simp [tins, h, terase, ih]

/-- The second of two writes to a key stays. -/
@[simp] theorem tput_tput (d : Nat → α) (m : List (Nat × α)) (k : Nat) (v w : α) :
    tput d (tput d m k v) k w = tput d m k w := by
  have e : terase (tput d m k v) k = terase m k := by
    unfold tput
    split
    · exact terase_terase _ _
    · rw [terase_tins, terase_terase]
  simp only [tput] at e ⊢
  rw [e]

end Sys2Proof.Laws
end

