-- ==== Sys2Proof/Laws/Reg.lean ====
section
/-!
SUPPORT. Laws/Reg.lean: reads of registers and of fields after a register or a field was written: the same field reads
what was written, a field of another register, or of other bits of the same register, reads as before.
-/

namespace Sys2Proof.Laws
open Sys2Proof.Machine

@[simp] theorem rd_wr_same (m : Dev) (a : Nat) (v : Word) : (m.wr a v).rd a = v := by simp [Dev.rd, Dev.wr]

theorem rd_wr_other (m : Dev) (a b : Nat) (v : Word) (h : b ≠ a) : (m.wr a v).rd b = m.rd b := by
  simp [Dev.rd, Dev.wr, tget_tput_other _ _ _ _ _ h]

theorem rd_wr (m : Dev) (a b : Nat) (v : Word) : (m.wr a v).rd b = if b = a then v else m.rd b := by
  simp [Dev.rd, Dev.wr, tget_tput]

theorem rd_p_other (m : Dev) (f : RF) (v b : Nat) (h : b ≠ f.a) : (m.p f v).rd b = m.rd b := rd_wr_other _ _ _ _ h

theorem rd_p_same (m : Dev) (f : RF) (v : Nat) : (m.p f v).rd f.a = putBits (m.rd f.a) f.hi f.lo v := rd_wr_same _ _ _

/-- A digit and a rest below their bounds stay below the product of the bounds. -/
theorem digit_lt {a b q r : Nat} (h1 : a < q) (h2 : b < r) : a * r + b < q * r :=
  calc a * r + b < a * r + r := by omega
    _ = (a + 1) * r := by ring
    _ ≤ q * r := Nat.mul_le_mul_right r h1

/-- A number split at two bit positions. -/
theorem nat_split (W lo n : Nat) :
    W = W / 2 ^ (lo + n) * 2 ^ (lo + n) + (W / 2 ^ lo % 2 ^ n) * 2 ^ lo + W % 2 ^ lo := by
  have h1 := Nat.div_add_mod W (2 ^ lo)
  have h2 := Nat.div_add_mod (W / 2 ^ lo) (2 ^ n)
  rw [Nat.div_div_eq_div_mul, ← Nat.pow_add] at h2
  have h3 : W / 2 ^ (lo + n) * 2 ^ (lo + n) = 2 ^ lo * (2 ^ n * (W / 2 ^ (lo + n))) := by rw [Nat.pow_add]; ring
  have h4 : 2 ^ lo * (2 ^ n * (W / 2 ^ (lo + n))) + (W / 2 ^ lo % 2 ^ n) * 2 ^ lo = 2 ^ lo * (W / 2 ^ lo) := by
    rw [Nat.mul_comm (W / 2 ^ lo % 2 ^ n), ← Nat.mul_add, h2]
  omega

/-- The number that `putBits` forms before it is cut to a word. -/
theorem put_eq (W lo n v : Nat) :
    W - (W / 2 ^ lo % 2 ^ n) * 2 ^ lo + (v % 2 ^ n) * 2 ^ lo =
      W / 2 ^ (lo + n) * 2 ^ (lo + n) + (v % 2 ^ n) * 2 ^ lo + W % 2 ^ lo := by
  have h := nat_split W lo n
  omega

theorem put_lt (W lo n v k : Nat) (hW : W < 2 ^ k) (hk : lo + n ≤ k) :
    W / 2 ^ (lo + n) * 2 ^ (lo + n) + (v % 2 ^ n) * 2 ^ lo + W % 2 ^ lo < 2 ^ k := by
  have hc : W % 2 ^ lo < 2 ^ lo := Nat.mod_lt _ (by positivity)
  have hv : v % 2 ^ n < 2 ^ n := Nat.mod_lt _ (by positivity)
  have hA : W / 2 ^ (lo + n) < 2 ^ (k - (lo + n)) := by
    rw [Nat.div_lt_iff_lt_mul (by positivity), ← Nat.pow_add]; rwa [show k - (lo + n) + (lo + n) = k by omega]
  have h1 : (v % 2 ^ n) * 2 ^ lo + W % 2 ^ lo < 2 ^ (lo + n) := by
    rw [Nat.pow_add, Nat.mul_comm (2 ^ lo)]; exact digit_lt hv hc
  have h2 : 2 ^ k = 2 ^ (k - (lo + n)) * 2 ^ (lo + n) := by rw [← Nat.pow_add]; congr 1; omega
  rw [h2, Nat.add_assoc]
  exact digit_lt hA h1

theorem putBits_toNat (w : Word) (hi lo v : Nat) (h1 : lo ≤ hi) (h2 : hi < 72) :
    (putBits w hi lo v).toNat =
      w.toNat / 2 ^ (hi + 1) * 2 ^ (hi + 1) + (v % 2 ^ (hi + 1 - lo)) * 2 ^ lo + w.toNat % 2 ^ lo := by
  have e : lo + (hi + 1 - lo) = hi + 1 := by omega
  have hlt := put_lt w.toNat lo (hi + 1 - lo) v 72 w.isLt (by omega)
  rw [e] at hlt
  unfold putBits bits Word.of
  rw [put_eq, e, BitVec.toNat_ofNat, Nat.mod_eq_of_lt hlt]

theorem bits_put_same (w : Word) (hi lo v : Nat) (h1 : lo ≤ hi) (h2 : hi < 72) :
    bits (putBits w hi lo v) hi lo = v % 2 ^ (hi + 1 - lo) := by
  have e : lo + (hi + 1 - lo) = hi + 1 := by omega
  unfold bits
  rw [putBits_toNat w hi lo v h1 h2]
  have hc : w.toNat % 2 ^ lo < 2 ^ lo := Nat.mod_lt _ (by positivity)
  have h3 : w.toNat / 2 ^ (hi + 1) * 2 ^ (hi + 1) + (v % 2 ^ (hi + 1 - lo)) * 2 ^ lo + w.toNat % 2 ^ lo
      = w.toNat % 2 ^ lo + 2 ^ lo * (v % 2 ^ (hi + 1 - lo) + 2 ^ (hi + 1 - lo) * (w.toNat / 2 ^ (hi + 1))) := by
    have : (2 : Nat) ^ (hi + 1) = 2 ^ lo * 2 ^ (hi + 1 - lo) := by rw [← Nat.pow_add, e]
    rw [this]; ring
  rw [h3, Nat.add_mul_div_left _ _ (by positivity), Nat.div_eq_of_lt hc, Nat.zero_add, Nat.add_mul_mod_self_left,
    Nat.mod_mod]

theorem bits_put_above (w : Word) (hi lo v hi' lo' : Nat) (h1 : lo ≤ hi) (h2 : hi < 72) (h3 : hi < lo') :
    bits (putBits w hi lo v) hi' lo' = bits w hi' lo' := by
  unfold bits
  rw [putBits_toNat w hi lo v h1 h2]
  have e : lo + (hi + 1 - lo) = hi + 1 := by omega
  have hc : w.toNat % 2 ^ lo < 2 ^ lo := Nat.mod_lt _ (by positivity)
  have hv : v % 2 ^ (hi + 1 - lo) < 2 ^ (hi + 1 - lo) := Nat.mod_lt _ (by positivity)
  have hr : (v % 2 ^ (hi + 1 - lo)) * 2 ^ lo + w.toNat % 2 ^ lo < 2 ^ (hi + 1) := by
    rw [show 2 ^ (hi + 1) = 2 ^ (hi + 1 - lo) * 2 ^ lo by rw [← Nat.pow_add]; congr 1; omega]; exact digit_lt hv hc
  have : (w.toNat / 2 ^ (hi + 1) * 2 ^ (hi + 1) + (v % 2 ^ (hi + 1 - lo)) * 2 ^ lo + w.toNat % 2 ^ lo) / 2 ^ lo'
      = w.toNat / 2 ^ lo' := by
    have e2 : (2 : Nat) ^ lo' = 2 ^ (hi + 1) * 2 ^ (lo' - (hi + 1)) := by rw [← Nat.pow_add]; congr 1; omega
    rw [e2, ← Nat.div_div_eq_div_mul, ← Nat.div_div_eq_div_mul, Nat.add_assoc, Nat.mul_comm, Nat.mul_add_div (by positivity),
      Nat.div_eq_of_lt hr, Nat.add_zero]
  rw [this]

theorem bits_put_below (w : Word) (hi lo v hi' lo' : Nat) (h1 : lo ≤ hi) (h2 : hi < 72) (h3 : hi' < lo) :
    bits (putBits w hi lo v) hi' lo' = bits w hi' lo' := by
  have hm : ∀ W : Nat, W / 2 ^ lo' % 2 ^ (hi' + 1 - lo') = W % 2 ^ lo / 2 ^ lo' % 2 ^ (hi' + 1 - lo') := by
    intro W
    by_cases hl : lo' ≤ hi'
    · obtain ⟨k, rfl⟩ : ∃ k, lo = lo' + ((hi' + 1 - lo') + k) := ⟨lo - (hi' + 1), by omega⟩
      rw [Nat.pow_add, Nat.mod_mul_right_div_self, Nat.pow_add, Nat.mod_mul_right_mod]
    · rw [show hi' + 1 - lo' = 0 by omega]; simp [Nat.mod_one]
  unfold bits
  rw [hm, hm w.toNat, putBits_toNat w hi lo v h1 h2]
  congr 2
  have e : lo + (hi + 1 - lo) = hi + 1 := by omega
  rw [← e, Nat.pow_add]
  have h4 : w.toNat / (2 ^ lo * 2 ^ (hi + 1 - lo)) * (2 ^ lo * 2 ^ (hi + 1 - lo)) + v % 2 ^ (lo + (hi + 1 - lo) - lo) * 2 ^ lo
      + w.toNat % 2 ^ lo = w.toNat % 2 ^ lo + 2 ^ lo * (w.toNat / (2 ^ lo * 2 ^ (hi + 1 - lo)) * 2 ^ (hi + 1 - lo)
      + v % 2 ^ (lo + (hi + 1 - lo) - lo)) := by ring
  rw [h4, Nat.add_mul_mod_self_left, Nat.mod_mod]

/-- A field reads what was written to it, cut to its width. -/
theorem g_p_same (m : Dev) (f : RF) (v : Nat) (h1 : f.lo ≤ f.hi) (h2 : f.hi < 72) :
    (m.p f v).g f = v % 2 ^ (f.hi + 1 - f.lo) := by
  unfold Dev.g; rw [rd_p_same]; exact bits_put_same _ _ _ _ h1 h2

/-- A field of another register reads as before. -/
theorem g_p_other (m : Dev) (f g : RF) (v : Nat) (h : g.a ≠ f.a) : (m.p f v).g g = m.g g := by
  unfold Dev.g; rw [rd_p_other _ _ _ _ h]

/-- A field that shares no bit with the one written reads as before. -/
theorem g_p_apart (m : Dev) (f g : RF) (v : Nat) (h1 : f.lo ≤ f.hi) (h2 : f.hi < 72) (h : f.hi < g.lo ∨ g.hi < f.lo) :
    (m.p f v).g g = m.g g := by
  by_cases ha : g.a = f.a
  · unfold Dev.g
    rw [ha, rd_p_same]
    rcases h with h | h
    · exact bits_put_above _ _ _ _ _ _ h1 h2 h
    · exact bits_put_below _ _ _ _ _ _ h1 h2 h
  · exact g_p_other _ _ _ _ ha

theorem g_wr_other (m : Dev) (a : Nat) (w : Word) (f : RF) (h : f.a ≠ a) : (m.wr a w).g f = m.g f := by
  unfold Dev.g; rw [rd_wr_other _ _ _ _ h]

theorem g_wr_same (m : Dev) (w : Word) (f : RF) : (m.wr f.a w).g f = bits w f.hi f.lo := by
  unfold Dev.g; rw [rd_wr_same]

/-- The thread that was stored is read back. -/
@[simp] theorem th_setTh_same (m : Dev) (t : Nat) (x : Thread) : (m.setTh t x).th t = x := by simp [Dev.th, Dev.setTh]

/-- Another thread stays as it was. -/
theorem th_setTh_other (m : Dev) (t u : Nat) (x : Thread) (h : u ≠ t) : (m.setTh t x).th u = m.th u := by
  simp [Dev.th, Dev.setTh, tget_tput_other _ _ _ _ _ h]

@[simp] theorem th_wr (m : Dev) (a : Nat) (v : Word) (t : Nat) : (m.wr a v).th t = m.th t := rfl
@[simp] theorem th_p (m : Dev) (f : RF) (v : Nat) (t : Nat) : (m.p f v).th t = m.th t := rfl
@[simp] theorem rd_setTh (m : Dev) (t : Nat) (x : Thread) (a : Nat) : (m.setTh t x).rd a = m.rd a := rfl
@[simp] theorem g_setTh (m : Dev) (t : Nat) (x : Thread) (f : RF) : (m.setTh t x).g f = m.g f := rfl
@[simp] theorem rd_send (m : Dev) (o : Out) (a : Nat) : (m.send o).rd a = m.rd a := rfl
@[simp] theorem g_send (m : Dev) (o : Out) (f : RF) : (m.send o).g f = m.g f := rfl
@[simp] theorem th_send (m : Dev) (o : Out) (t : Nat) : (m.send o).th t = m.th t := rfl
@[simp] theorem modTh_same (m : Dev) (t : Nat) (f : Thread → Thread) : (m.modTh t f).th t = f (m.th t) := by
  simp [Dev.modTh]
theorem modTh_other (m : Dev) (t u : Nat) (f : Thread → Thread) (h : u ≠ t) : (m.modTh t f).th u = m.th u := by
  simp [Dev.modTh, th_setTh_other _ _ _ _ h]
@[simp] theorem rd_modTh (m : Dev) (t : Nat) (f : Thread → Thread) (a : Nat) : (m.modTh t f).rd a = m.rd a := rfl

end Sys2Proof.Laws
end

