-- ==== Sys2Proof/Laws/Thread.lean ====
section
/-!
SUPPORT. Laws/Thread.lean: what a thread's registers and status bits read after a write, and what an instruction that is
issued and completes does: one lemma per operation, for the statements about instructions.
-/

namespace Sys2Proof.Laws
open Sys2Proof Sys2Proof.Machine

/-! ### Registers and status bits -/

theorem rw_setW (x : Thread) (d r : BitVec 5) (v : Word) :
    (x.setW d v).rw r = if r = d ∧ d ≠ 0 then v else x.rw r := by
  by_cases hd : d = 0
  · subst hd; simp [Thread.setW]
  · have e : x.setW d v = { x with w := tput (fun _ => 0) x.w d.toNat v } := by unfold Thread.setW; exact if_neg hd
    rw [e]
    unfold Thread.rw
    by_cases hr : r = 0
    · have : ¬(r = d) := fun e => hd (e ▸ hr)
      rw [if_pos hr, if_pos hr, if_neg (fun h => this h.1)]
    · rw [if_neg hr, if_neg hr]
      by_cases e : r = d
      · subst e; rw [if_pos ⟨rfl, hd⟩]; simp
      · have : r.toNat ≠ d.toNat := fun h => e (BitVec.eq_of_toNat_eq h)
        rw [if_neg (fun h => e h.1)]
        exact tget_tput_other _ _ _ _ _ this

theorem bit_setBit (x : Thread) (i j : Nat) (b : Bool) (hi : i < 72) :
    (x.setBit i b).bit j = if j = i then b else x.bit j := by
  unfold Thread.bit Thread.setBit
  by_cases h : j = i
  · subst h
    rw [bits_put_same _ _ _ _ (Nat.le_refl _) hi]
    cases b <;> simp
  · rcases Nat.lt_or_gt_of_ne h with h' | h'
    · rw [bits_put_below _ _ _ _ _ _ (Nat.le_refl _) hi h']; simp [h]
    · rw [bits_put_above _ _ _ _ _ _ (Nat.le_refl _) hi h']; simp [h]

@[simp] theorem rw_setBit (x : Thread) (i : Nat) (b : Bool) (r : BitVec 5) : (x.setBit i b).rw r = x.rw r := rfl
@[simp] theorem rw_optBit (x : Thread) (i : Nat) (b : Option Bool) (r : BitVec 5) : (x.optBit i b).rw r = x.rw r := by
  cases b <;> rfl
@[simp] theorem rw_putFlags (x : Thread) (o : Alu) (r : BitVec 5) : (x.putFlags o).rw r = x.rw r := by simp [Thread.putFlags]
@[simp] theorem rw_pc (x : Thread) (n : Nat) (r : BitVec 5) : Thread.rw { x with pc := n } r = x.rw r := rfl
@[simp] theorem bit_pc (x : Thread) (n i : Nat) : Thread.bit { x with pc := n } i = x.bit i := rfl
@[simp] theorem bit_setW (x : Thread) (d : BitVec 5) (v : Word) (i : Nat) : (x.setW d v).bit i = x.bit i := by
  unfold Thread.setW; split <;> rfl

theorem bit_optBit (x : Thread) (i j : Nat) (b : Option Bool) (hi : i < 72) :
    (x.optBit i b).bit j = if j = i then b.getD (x.bit j) else x.bit j := by
  cases b with
  | none => simp [Thread.optBit]
  | some b => simp [Thread.optBit, bit_setBit _ _ _ _ hi]

/-- The status bits that a result's flags give, by their place. -/
def flagList (o : Alu) : List (Nat × Bool) :=
  (o.z.toList.map (41, ·)) ++ (o.n.toList.map (40, ·)) ++ (o.c.toList.map (39, ·)) ++ (o.v.toList.map (38, ·))
    ++ (o.p0.toList.map (34, ·)) ++ (o.p1.toList.map (35, ·))

theorem lookup_opt (l : List (Nat × Bool)) (o : Option Bool) (i j : Nat) :
    ((o.toList.map (fun b => (j, b))) ++ l).lookup i = if i = j then o.or (l.lookup i) else l.lookup i := by
  cases o with
  | none => by_cases h : i = j <;> simp [h]
  | some b =>
    by_cases h : i = j
    · simp [h]
    · simp [List.lookup, beq_eq_false_iff_ne.mpr h, h]

theorem bit_putFlags (x : Thread) (o : Alu) (i : Nat) :
    (x.putFlags o).bit i = ((flagList o).lookup i).getD (x.bit i) := by
  obtain ⟨r, z, n, c, v, p0, p1⟩ := o
  have e : flagList ⟨r, z, n, c, v, p0, p1⟩ = z.toList.map (41, ·) ++ (n.toList.map (40, ·) ++ (c.toList.map (39, ·) ++
    (v.toList.map (38, ·) ++ (p0.toList.map (34, ·) ++ (p1.toList.map (35, ·) ++ []))))) := by simp [flagList]
  rw [e]
  simp only [lookup_opt, Thread.putFlags, bit_optBit _ _ _ _ (show 35 < 72 by omega), bit_optBit _ _ _ _ (show 34 < 72 by omega),
    bit_optBit _ _ _ _ (show 38 < 72 by omega), bit_optBit _ _ _ _ (show 39 < 72 by omega),
    bit_optBit _ _ _ _ (show 40 < 72 by omega), bit_optBit _ _ _ _ (show 41 < 72 by omega), List.lookup_nil]
  by_cases h1 : i = 41
  · subst h1; cases z <;> simp
  by_cases h2 : i = 40
  · subst h2; cases n <;> simp
  by_cases h3 : i = 39
  · subst h3; cases c <;> simp
  by_cases h4 : i = 38
  · subst h4; cases v <;> simp
  by_cases h5 : i = 34
  · subst h5; cases p0 <;> simp
  by_cases h6 : i = 35
  · subst h6; cases p1 <;> simp
  simp [h1, h2, h3, h4, h5, h6]

/-- Setting fields of a thread leaves the rest of it. -/
theorem putAlu_rest (x : Thread) (d : BitVec 5) (o : Alu) :
    { x.putAlu d o with w := x.w, tsw := x.tsw, pc := x.pc } = x := by
  have h : ∀ (y : Thread) (i : Nat) (b : Option Bool), ∃ v, y.optBit i b = { y with tsw := v } := by
    intro y i b; cases b with
    | none => exact ⟨y.tsw, rfl⟩
    | some b => exact ⟨_, rfl⟩
  have hw : ∃ w, x.setW d o.r = { x with w := w } := by
    unfold Thread.setW; split
    · exact ⟨x.w, rfl⟩
    · exact ⟨_, rfl⟩
  unfold Thread.putAlu Thread.putFlags
  obtain ⟨w, hw⟩ := hw
  rw [hw]
  obtain ⟨v1, h1⟩ := h { x with w := w } 41 o.z; rw [h1]
  obtain ⟨v2, h2⟩ := h { x with w := w, tsw := v1 } 40 o.n; rw [h2]
  obtain ⟨v3, h3⟩ := h { x with w := w, tsw := v2 } 39 o.c; rw [h3]
  obtain ⟨v4, h4⟩ := h { x with w := w, tsw := v3 } 38 o.v; rw [h4]
  obtain ⟨v5, h5⟩ := h { x with w := w, tsw := v4 } 34 o.p0; rw [h5]
  obtain ⟨v6, h6⟩ := h { x with w := w, tsw := v5 } 35 o.p1; rw [h6]

/-! ### Issue and completion -/

/-- A legal instruction of a ready thread runs its body. -/
theorem issue_ready {s : State} {op t : Nat} {c : BitVec 4} (h : Ready s t c) (ho : op < 1024) (fw gret : Bool)
    (kind : Option LongKind) (body : State → Res) (hf : fw = true → (s.m.th t).priv = true) :
    s.issue op t c true fw gret kind body = s.runBody t gret body := by
  have hs : (if (s.m.th t).inTrap = true then none else (s.m.th t).saved) = none := by
    rcases h.fresh with e | e <;> simp [e]
  have hp : (fw && !(s.m.th t).priv) = false := by
    cases fw
    · rfl
    · simp [hf rfl]
  unfold State.issue
  simp only [h.issues, h.fetched, hs, h.holds, hp, microRead_sound h.micro t ho]
  simp

/-- An illegal instruction of a ready thread raises ILLEGAL (R85). -/
theorem issue_illegal {s : State} {op t : Nat} {c : BitVec 4} (h : Ready s t c) (ho : op < 1024) (fw gret : Bool)
    (kind : Option LongKind) (body : State → Res) :
    s.issue op t c false fw gret kind body = s.trapTo t 0x01 (s.m.th t).pc (s.m.th t).pc := by
  have hs : (if (s.m.th t).inTrap = true then none else (s.m.th t).saved) = none := by
    rcases h.fresh with e | e <;> simp [e]
  unfold State.issue
  simp only [h.issues, h.fetched, hs, microRead_sound h.micro t ho]
  simp

/-- A thread whose STEP is 0 goes on. -/
theorem finish_quiet (s : State) (t : Nat) (w g : Bool) (pc pc' : Nat) (h : (s.m.th t).step = false) :
    s.finish t w g pc pc' = s.onM (fun m => m.modTh t (fun x => { x with pc := pc' })) := by
  have e : ((s.onM (fun m => m.modTh t (fun x => { x with pc := pc' }))).m.th t).step = false := by
    simpa [Thread.step] using h
  unfold State.finish
  simp only [e]
  simp

/-- Changing a thread is the same as storing the changed thread. -/
theorem onM_modTh (s : State) (t : Nat) (f : Thread → Thread) :
    s.onM (fun m => m.modTh t f) = { s with m := s.m.setTh t (f (s.m.th t)) } := rfl

/-- The second of two stores of a thread stays. -/
@[simp] theorem setTh_setTh (m : Dev) (t : Nat) (x y : Thread) : (m.setTh t x).setTh t y = m.setTh t y := by
  simp [Dev.setTh]

/-- A change of one thread's registers, status and program counter changes only that. -/
theorem onlyThread_set (s : State) (t : Nat) (y : Thread)
    (h : { y with w := (s.m.th t).w, tsw := (s.m.th t).tsw, pc := (s.m.th t).pc } = s.m.th t) :
    OnlyThread s { s with m := s.m.setTh t y } t := by
  refine ⟨rfl, fun k hk => th_setTh_other _ _ _ _ hk, ?_⟩
  simpa using h

/-- An instruction that writes a result and flags computed from its thread. -/
theorem alu_wrote {s : State} {op t : Nat} {c : BitVec 4} (h : Ready s t c) (ho : op < 1024) (d : BitVec 5) (f : Thread → Alu) :
    Wrote s (s.alu op t c true d f) t d (f (s.m.th t)).r (flagList (f (s.m.th t))) (nextPc (s.m.th t).pc) := by
  have hq : (((s.m.th t).putAlu d (f (s.m.th t)))).step = false := by
    have := bit_putFlags ((s.m.th t).setW d (f (s.m.th t)).r) (f (s.m.th t)) 32
    have e : (flagList (f (s.m.th t))).lookup 32 = none := by
      cases f (s.m.th t) with
      | mk r z n c v p0 p1 => cases z <;> cases n <;> cases c <;> cases v <;> cases p0 <;> cases p1 <;> simp [flagList, List.lookup]
    rw [e] at this
    have q := h.quiet
    unfold Thread.step at q ⊢
    unfold Thread.putAlu
    rw [this]
    simpa using q
  have he : s.alu op t c true d f = { s with m := s.m.setTh t { (s.m.th t).putAlu d (f (s.m.th t)) with pc := nextPc (s.m.th t).pc } } := by
    unfold State.alu State.issueT
    rw [issue_ready h ho _ _ _ _ (by simp)]
    unfold State.runBody
    dsimp only
    rw [finish_quiet _ _ _ _ _ _ (by simpa using hq), onM_modTh]
    simp [State.onM, Dev.modTh]
  rw [he]
  refine ⟨onlyThread_set _ _ _ ?_, fun r => ?_, fun i _ => ?_, by simp⟩
  · have := putAlu_rest (s.m.th t) d (f (s.m.th t))
    simpa using this
  · simp [Thread.putAlu, rw_setW]
  · simp [Thread.putAlu, bit_putFlags]

/-- A compare writes only flags. -/
theorem flags_wrote {s : State} {op t : Nat} {c : BitVec 4} (h : Ready s t c) (ho : op < 1024) (f : Thread → Alu) :
    Wrote s (s.issueT op t c true (fun x => x.putFlags (f x))) t 0 (f (s.m.th t)).r (flagList (f (s.m.th t)))
      (nextPc (s.m.th t).pc) := by
  have := alu_wrote h ho 0 f
  simpa [State.alu, Thread.putAlu, Thread.setW] using this

end Sys2Proof.Laws
end

