-- ==== Sys2Proof/Laws/Lanes.lean ====
section
/-!
SUPPORT. Laws/Lanes.lean: a word made from lanes has those lanes (R11), for the statements about packed instructions.
-/

namespace Sys2Proof.Laws
open Sys2Proof Sys2Proof.Machine

/-- The number that lanes make up. -/
def laneSumOf (l : Nat) (xs : List Nat) : Nat := xs.foldr (fun x acc => acc * 2 ^ l + x % 2 ^ l) 0

theorem laneSumOf_lt (l : Nat) (xs : List Nat) : laneSumOf l xs < 2 ^ (l * xs.length) := by
  induction xs with
  | nil => simp [laneSumOf]
  | cons x r ih =>
    have h : x % 2 ^ l < 2 ^ l := Nat.mod_lt _ (by positivity)
    have e : laneSumOf l (x :: r) = laneSumOf l r * 2 ^ l + x % 2 ^ l := rfl
    rw [e, List.length_cons, Nat.mul_succ, Nat.pow_add]
    exact digit_lt ih h

theorem laneSumOf_div (l : Nat) (xs : List Nat) (k : Nat) (h : k < xs.length) :
    laneSumOf l xs / 2 ^ (l * k) % 2 ^ l = xs[k] % 2 ^ l := by
  induction xs generalizing k with
  | nil => simp at h
  | cons x r ih =>
    have hx : x % 2 ^ l < 2 ^ l := Nat.mod_lt _ (by positivity)
    have e : laneSumOf l (x :: r) = laneSumOf l r * 2 ^ l + x % 2 ^ l := rfl
    cases k with
    | zero =>
      rw [e]
      simp only [Nat.mul_zero, Nat.pow_zero, Nat.div_one, List.getElem_cons_zero]
      rw [Nat.add_comm, Nat.add_mul_mod_self_right, Nat.mod_mod]
    | succ k =>
      have hk : k < r.length := by simpa using h
      rw [e, Nat.mul_succ, Nat.add_comm (l * k) l, Nat.pow_add, ← Nat.div_div_eq_div_mul,
        Nat.add_comm, Nat.add_mul_div_right _ _ (by positivity), Nat.div_eq_of_lt hx, Nat.zero_add]
      simpa using ih k hk

/-- A lane of a word made from lanes. -/
theorem laneOf_pack (l : Nat) (xs : List Nat) (k : Nat) (h : k < xs.length) (hw : l * xs.length ≤ 72) :
    laneOf l k (packLanes l xs) = xs[k] % 2 ^ l := by
  have hlt : laneSumOf l xs < 2 ^ 72 := Nat.lt_of_lt_of_le (laneSumOf_lt l xs) (Nat.pow_le_pow_right (by omega) hw)
  have e : (packLanes l xs).toNat = laneSumOf l xs := by
    show (BitVec.ofNat 72 (laneSumOf l xs)).toNat = _
    rw [BitVec.toNat_ofNat, Nat.mod_eq_of_lt hlt]
  unfold laneOf
  rw [e, laneSumOf_div l xs k h]

theorem laneOf_lt (l k : Nat) (w : Word) : laneOf l k w < 2 ^ l := Nat.mod_lt _ (by positivity)

@[simp] theorem lanes_length (n l : Nat) (w : Word) : (lanes n l w).length = n := by simp [lanes]

theorem lanes_get (n l : Nat) (w : Word) (k : Nat) (h : k < (lanes n l w).length) : (lanes n l w)[k] = laneOf l k w := by
  simp [lanes, laneOf]

/-- A lane of a word made by a lane operation on two words. -/
theorem laneOf_zip (n l : Nat) (f : Nat → Nat → Nat) (a b : Word) (k : Nat) (h : k < n) (hw : l * n ≤ 72) :
    laneOf l k (packLanes l (List.zipWith f (lanes n l a) (lanes n l b))) = f (laneOf l k a) (laneOf l k b) % 2 ^ l := by
  rw [laneOf_pack l _ k (by simpa using h) (by simpa using hw)]
  simp [lanes_get]

/-- A lane of a word made by a lane operation on one word. -/
theorem laneOf_map (n l : Nat) (f : Nat → Nat) (a : Word) (k : Nat) (h : k < n) (hw : l * n ≤ 72) :
    laneOf l k (packLanes l ((lanes n l a).map f)) = f (laneOf l k a) % 2 ^ l := by
  rw [laneOf_pack l _ k (by simpa using h) (by simpa using hw)]
  simp [lanes_get]

end Sys2Proof.Laws
end

