-- ==== Sys2Proof/Tests/Slice0.lean ====
section
/-!
SUPPORT. Tests/Slice0.lean: the well-formedness checks on ill-formed commands, witnesses for the hypotheses of the statements, and
tests of the model on small states. A test's expected value comes from the rule its docstring names.
-/

namespace Sys2Proof.Tests
set_option Elab.async false -- one test at a time: the stacks of threads that run at once count against the memory limit
open Sys2Proof Sys2Proof.Machine

/-! ### Small states -/

/-- A register field set. -/
def field (f : RF) (v : Nat) (s : State) : State := s.onM (fun m => m.p f v)
/-- A register set. -/
def reg (a : Nat) (v : Word) (s : State) : State := s.onM (fun m => m.wr a v)
/-- A thread put in place. -/
def thr (t : Nat) (x : Thread) (s : State) : State := s.onM (fun m => m.setTh t x)
/-- A DRAM word. -/
def dramWord (a : Nat) (v : Word) (s : State) : State := { s with mem := s.mem.putDram a v false }
/-- A device that runs: powered, host-ready, with 2^24 DRAM words; bank 0 is of cluster 0 and its domain is on. -/
def up : State := field VAULT_POWER_DOMAIN_ON 1 (field (VAULT_OWNER_OWNER 0) 0 (field DRAM_CONFIG_CAPACITY (2 ^ 24) (field BOOT_STATUS_HOST_READY 1
  (field POWER_STATUS_STATE 1 { m := { pins := { pwrOk := true } } }))))
/-- A thread at firmware privilege, at 440h, with W1 and W2. -/
def firm (x y : Word) : Thread := { st := .ready, tsw := svcTsw 0, pc := 0x440, w := [(1, x), (2, y)] }
/-- A thread of channel 3 at channel privilege, at 1000h. -/
def plain (x y : Word) : Thread := { st := .ready, tsw := Word.of (at_ 25 17 3), pc := 0x1000, w := [(1, x), (2, y)] }
/-- A service context that may issue. -/
def svc (x y : Word) : State := thr 512 (firm x y) up
/-- A channel thread that may issue. -/
def chan (x y : Word) : State := field (CHAN_WINDOW_WIN_BASE 3) 0x1000 (field (CHAN_WINDOW_WIN_LIMIT 3) 0x1FFF (thr 3 (plain x y) up))

theorem ready_svc : Ready (svc 7 3) 512 0 := ⟨by decide +kernel, by decide +kernel, by decide +kernel, by decide +kernel, by decide +kernel, by decide +kernel⟩
theorem ready_chan : Ready (chan 7 3) 3 0 := ⟨by decide +kernel, by decide +kernel, by decide +kernel, by decide +kernel, by decide +kernel, by decide +kernel⟩
theorem priv_svc : ((svc 7 3).m.th 512).priv = true := by decide +kernel
theorem priv_chan : ((chan 7 3).m.th 3).priv = false := by decide +kernel

/-! ### Ill-formed commands: one for each check of WellFormed -/

theorem test_wf_masters_and_addresses : Instr.wf (.registerWrite 10 0 0) = false ∧ Instr.wf (.registerWrite 12 0 0) = false ∧ Instr.wf (.registerWrite 0 (2 ^ 24) 0) = false ∧
    Instr.wf (.rcRead 0 (2 ^ 24)) = false ∧ Instr.wf (.configWrite 0 (2 ^ 24) 0) = false ∧ Instr.wf (.mgmtRead (2 ^ 24) 0) = false ∧ Instr.wf (.bar0HighRead (2 ^ 28) 0) = false ∧
    Instr.wf (.bar4Read (2 ^ 32) 0) = false ∧ Instr.wf (.setdasaEntdaa 128) = false ∧ Instr.wf (.hostPortReset 3 0 0) = false := by decide
theorem test_wf_threads_and_channels : Instr.wf (.add 544 0 0 0 0) = false ∧ Instr.wf (.asyncTrap 544) = false ∧ Instr.wf (.poolGet 544) = false ∧ Instr.wf (.timerExpiry 0 4) = false ∧
    Instr.wf (.chanCtrlWrite 0 512 0) = false ∧ Instr.wf (.cmdLoad 0 0 (2 ^ 36)) = false ∧ Instr.wf (.cmdReserved 0 0 16) = false ∧ Instr.wf (.message 512) = false ∧
    Instr.wf (.loadWindow 32 0 0) = false ∧ Instr.wf (.loadWindow 0 1025 0) = false ∧ Instr.wf (.loadWindow 0 0 1025) = false ∧ Instr.wf (.clusterSleep 8) = false := by decide
theorem test_wf_supply : Instr.wf (.governorPoint 1024 0) = false ∧ Instr.wf (.governorPoint 0 4096) = false ∧ Instr.wf (.avsFrame true 256) = false ∧
    Instr.wf (.refclkStopped 4) = false ∧ (∀ b, Instr.wf (.graceExpiry 16 b) = false) := by
  refine ⟨by decide, by decide, by decide, by decide, fun _ => rfl⟩
theorem test_wf_engines : Instr.wf (.searchDone 4 0 0 ⟨0, 0, 0, 0, false⟩) = false ∧ Instr.wf (.rateDone 4) = false ∧ Instr.wf (.reconEncDone 8 0 0 0) = false ∧ Instr.wf (.entropyEncDone 24 0 []) = false ∧
    Instr.wf (.scaleBandEnd 4) = false ∧ Instr.wf (.seamDone 2 0 0) = false ∧ Instr.wf (.post 2 []) = false ∧ Instr.wf (.memberDeparted (2 ^ 18)) = false := by decide
theorem test_wf_pictures : Instr.wf (.srcEnable 0 24 0) = false ∧ Instr.wf (.csiFrameStart 8 0) = false ∧ Instr.wf (.csiFrameStart 0 16) = false ∧ Instr.wf (.captureNoSignal 8) = false ∧
    Instr.wf (.portEnable 0 64 0) = false ∧ Instr.wf (.holdTimer 64) = false := by decide
theorem test_wf_memories : Instr.wf (.vaultOwnerWrite 0 192 0) = false ∧ Instr.wf (.domainClearDone 12) = false ∧ Instr.wf (.zqCalibration 8) = false ∧ Instr.wf (.poolTake 0 16) = false ∧
    Instr.wf (.fifoPop 0 64) = false ∧ Instr.wf (.fifoPush 0 0 8 0) = false := by decide
theorem test_wf_host_and_drives : Instr.wf (.ringEnable 0 513 true 0) = false ∧ Instr.wf (.sqDoorbell 512 0 0) = false ∧ Instr.wf (.dmaResume 0 32) = false ∧ Instr.wf (.msixUnmask 2048 0) = false ∧
    Instr.wf (.driveLinkRetry 4) = false ∧ Instr.wf (.nvmeCompletion 0 256 0 0 []) = false ∧ Instr.wf (.nvmeCompletion 0 0 8 0 []) = false ∧ Instr.wf (.nvmeCompletion 0 0 0 256 []) = false ∧
    Instr.wf (.mbxTimeout 64 true) = false ∧ Instr.wf (.groupCtrlWrite 0 64 0) = false ∧ Instr.wf (.holdoffExpiry 44) = false := by decide
theorem test_wf_fabric : Instr.wf (.keepalive 8) = false ∧ Instr.wf (.hello 0 (2 ^ 18) 0 0) = false ∧ Instr.wf (.hello 0 0 4 0) = false ∧ Instr.wf (.hello 0 0 0 65536) = false ∧
    Instr.wf (.stop 0 256) = false ∧ Instr.wf (.close 9 0 []) = false ∧ Instr.wf (.close 0 (2 ^ 18) []) = false ∧ Instr.wf (.gateEntryEnd 24) = false ∧ Instr.wf (.shaperCredit 0 8) = false ∧
    Instr.wf (.uplinkEnable 0 4 0) = false ∧ Instr.wf (.uplinkRetry 16) = false ∧ Instr.wf (.ingestEnable 0 256 0) = false ∧ Instr.wf (.egressStreamPop 64) = false := by decide
/-- The last values of the same bounds are well formed. -/
theorem test_wf_last_values : Instr.wf (.registerWrite 11 (2 ^ 24 - 1) 0) = true ∧ Instr.wf (.add 543 0 0 0 0) = true ∧ Instr.wf (.cmdLoad 9 511 (2 ^ 36 - 1)) = true ∧
    Instr.wf (.nvmeCompletion 3 255 7 255 []) = true ∧ Instr.wf (.hello 7 (2 ^ 18 - 1) 3 65535) = true ∧ Instr.wf (.shaperCredit 23 7) = true := by decide
/-- No row of the table has bits, so a word spells no command. -/
theorem test_no_words : decodeTableWord 72 5 = none := by decide

/-! ### The spec's own worked examples -/

/-- R10: the word 12_3456_789A_BCDE_F0A5h packed. -/
theorem test_packed_word : wordBytes 0x123456789ABCDEF0A5#72 = [0xA5, 0xF0, 0xDE, 0xBC, 0x9A, 0x78, 0x56, 0x34, 0x12] := by decide +kernel
/-- R12: 86400.000012500. -/
theorem test_device_time : timeWord 86400000012500 = 0x5460000030D4#72 ∧ timeNs 0x5460000030D4#72 = 86400000012500 := by decide +kernel
/-- R26: 03.12.40. -/
theorem test_identity : identOf 3 12 40 = 13096 := by decide
/-- R94: a load of W3 + W7 × 8 − 8 under P1, with W3 = 0_0200_0000h and W7 = 5. -/
theorem test_effective_address :
    (match execLd 512 2 5 3 7 3 (-8) (dramWord 0x2000020 77 (field DRAM_CONFIG_CAPACITY (2 ^ 30)
      (thr 512 { firm 0 0 with w := [(3, 0x2000000), (7, 5)], tsw := svcTsw 0 ||| 0xF000000000000000#72 } up))) with
    | .next t => ((t.m.th 512).ea 3 7 3 (-8)) | _ => 0) = 0x2000020 := by decide +kernel
/-- R384: lamp 5 of a panel at (100, 40) of 4 × 3 lamps with SCAN 3 and SERP. -/
theorem test_lamp_position : Panel.pos ⟨100, 40, 4, 3, 3, true, 0, 0, 0⟩ 5 = (101, 41) := by decide
/-- R409: the effective word of two calibration words. -/
theorem test_effective_word : effective 0x04000000180000000A#72 0xF4080002DC040006EC#72 = 0xF8080002F2040006F6#72 := by decide +kernel
/-- R410–R412: the drive value of a lamp and of its neighbour's red code. -/
theorem test_drive_value : driveValue ⟨0x8000, 0, 1000, 12, 2⟩ 0xF8080002F2040006F6#72 0 3 2 (40000, 20000, 10000) = 0x9A204D6027B0 ∧
    driveValue ⟨0x8000, 0, 1000, 12, 2⟩ 0xF8080002F2040006F6#72 0 2 2 (40000, 20000, 10000) / 2 ^ 36 = 2465 := by decide +kernel
/-- R442: an image of 1,048,576 lamps takes 145 sectors. -/
theorem test_sectors : (field LAMP_RECORDS_LAMPS 1048576 up).m.slotSectors = 145 := by decide +kernel
/-- R504: the check word of an admin entry that loads channel 63 from 4_0000h. -/
theorem test_admin_entry : entryReason 512 false [0x030100000005000000#72, 0x11F800000000000000#72, 0x000000000000040000#72, 0, 0, 0, 0x14F900000005040000#72] = 0 ∧
    entryReason 512 false [0x030100000005000000#72, 0x11F800000000000000#72, 0x000000000000040000#72, 0, 0, 0, 0x14F900000005040001#72] = 5 := by decide +kernel
/-- R606: the event word of THERM_CRIT from monitor 5. -/
theorem test_event_word : eventWord 4 4 0x142 8 5 0x440 = 0x048028500050000440#72 := by decide +kernel
/-- R622: mailbox 49 of the default table. -/
theorem test_teller_default : tellerDefault 49 / 2 ^ 63 = 0x113 := by decide +kernel
/-- R270: λm at QP 32 is 1,961 in UQ8.8. -/
theorem test_lambda : lambdaM 32 = 1961 := by decide +kernel
/-- R587: the gap of class 6 in a list of 6,000 ns. -/
theorem test_live_gap : liveGap [(0x80, 400), (0x40, 2000), (0x3F, 3600)] = 4000 := by decide
/-- A recorder's rate record: 25 Mbit/s CBR, 50 frames/s, 0.5 s, INIT_FULL 192. -/
def recorder : EncCtx := { ws := [], rate := [Word.of (at_ 71 64 1 + at_ 61 61 1 + at_ 59 36 50 + at_ 35 12 1), Word.of (at_ 71 48 390625), Word.of (at_ 71 44 781250 + at_ 43 36 192)] }
/-- R308–R313: its initial fullness, the target of its IDR, and that of the picture after 1,800,000 bits. -/
theorem test_recorder : recorder.initD = 9375000 ∧ recorder.targetBits 0 (some recorder.initD) = 2000000 ∧
    { recorder with model := { recorder.model with e := -1300000 } }.targetBits 1 (some 8075000) = 175000 := by decide +kernel
/-- R315: the queue limit and the buffer of a relay at 60 Mbit/s and 60 frames/s with 2,000 µs. -/
theorem test_relay : (let c : EncCtx := { ws := [], rate := [Word.of (at_ 71 64 1 + at_ 63 62 3 + at_ 59 36 60 + at_ 35 12 1), Word.of (at_ 71 48 937500), Word.of (at_ 35 12 2000)] }
    c.queueLimit = 120000 ∧ c.buffer = 1120000) := by decide +kernel

/-! ### Witnesses: instructions -/

theorem wit_StepRunsFrontCommand : ({ up with pending := [.fence 512 0] } : State).pending = .fence 512 0 :: [] := by decide +kernel
theorem wit_StepIdlesWithoutCommand : up.pending = [] := by decide +kernel
theorem wit_StepKeepsSound : ∃ t, ({ up with pending := [.uplinkRetry 0] } : State).sound ∧ step { up with pending := [.uplinkRetry 0] } = .next t :=
  ⟨_, by unfold State.sound; decide +kernel, rfl⟩
theorem wit_WordArithmeticAndLogicResults : Ready (svc 7 3) 512 0 := ready_svc
/-- A divisor that is not zero, and one that is. -/
theorem wit_MultiplyDivideResults : Ready (svc 7 3) 512 0 ∧ ((svc 7 3).m.th 512).rw 2 ≠ 0 ∧ ((svc 7 3).m.th 512).rw 3 = 0 :=
  ⟨ready_svc, by decide +kernel, by decide +kernel⟩
/-- Immediates on both sides of each limit: 71 and 72, a field that ends at bit 71 and one past it, 2^24 − 1 and 2^24. -/
theorem wit_ImmediateResults : Ready (svc 7 3) 512 0 ∧ (71#48).toNat < 72 ∧ 72 ≤ (72#48).toNat ∧
    (1 ≤ (199#48).toNat / 128 ∧ (199#48).toNat % 128 + (199#48).toNat / 128 = 72) ∧
    72 < (327#48).toNat % 128 + (327#48).toNat / 128 ∧ (71#48).toNat / 128 = 0 ∧
    (16777215#48).toNat < 2 ^ 24 ∧ 2 ^ 24 ≤ (16777216#48).toNat := ⟨ready_svc, by decide +kernel⟩
theorem wit_PackedLanesSumsAndCompares : Ready (svc 7 3) 512 0 := ready_svc
theorem wit_QuadAndConvertLanes : Ready (svc 7 3) 512 0 := ready_svc

/-- A thread that is not READY; a condition that is false; a program counter below, above and inside each window. -/
theorem wit_IssueOutcomes :
    (issuerOf (.nop 512 5) = some (512, 5) ∧ up.m.issues 512 = false) ∧
    ((svc 7 3).m.issues 512 = true ∧ (svc 7 3).fetchTrap 512 = none ∧ ((svc 7 3).m.th 512).saved = none ∧ (svc 7 3).m.microSound = true ∧
      ((svc 7 3).m.th 512).cond 1 = false ∧ ((svc 7 3).m.th 512).step = false) ∧
    (let s := thr 512 { firm 7 3 with pc := 0x43F } up
     issuerOf (.nop 512 0) = some (512, 0) ∧ s.m.issues 512 = true ∧ (s.m.th 512).priv = true ∧ (s.m.th 512).pc < 0x440) ∧
    (let s := thr 512 { firm 7 3 with pc := 0x100000 } up
     s.m.issues 512 = true ∧ (s.m.th 512).priv = true ∧ 0xFFFFF < (s.m.th 512).pc) ∧
    (let s := thr 3 { plain 7 3 with pc := 0xFFF } (chan 7 3)
     s.m.issues 3 = true ∧ (s.m.th 3).priv = false ∧ (s.m.th 3).pc < s.m.g (CHAN_WINDOW_WIN_BASE 3)) ∧
    (let s := thr 3 { plain 7 3 with pc := 0x2000 } (chan 7 3)
     s.m.issues 3 = true ∧ (s.m.th 3).priv = false ∧ s.m.g (CHAN_WINDOW_WIN_LIMIT 3) < (s.m.th 3).pc) ∧
    (let s := { svc 7 3 with mem := (svc 7 3).mem.putDram ((svc 7 3).m.progAddr 0x440) 0 true }
     s.m.issues 512 = true ∧ (s.m.th 512).priv = true ∧ 0x440 ≤ (s.m.th 512).pc ∧ s.dramPoison (s.m.progAddr (s.m.th 512).pc) = true) := by decide +kernel

/-- NOP's microword on clerk 0: one that fails its check where clerk 1 has a good copy, and where only clerk 31 has one; one that
fails on every clerk; a RET that passes. -/
def micro (l : List (Nat × Nat)) : State := (svc 7 3).onM (fun m => { m with ucode := l.map (fun e => (e.1 * 8192 + 0x010, e.2)) })
theorem wit_MicrowordCheckResults : (microPasses (2 ^ 136 + 1) = true ∧ 7 < 8) ∧
    (let s := micro [(0, 1)]
     s.m.issues 512 = true ∧ s.fetchTrap 512 = none ∧ (s.m.th 512).saved = none ∧ s.m.clerkOf 512 % 32 = 0 ∧ microPasses (s.m.uword 0 0x010) = false ∧
       microPasses (s.m.uword 1 0x010) = true ∧ microFaulty (s.m.uword 1 0x010) = false ∧ (s.m.th 512).cond 0 = true ∧ (s.m.th 512).step = false) ∧
    (let s := micro ((List.range 31).map (fun k => (k, 1)))
     (∀ j, j < 31 → microPasses (s.m.uword ((0 + j) % 32) 0x010) = false) ∧ microPasses (s.m.uword 31 0x010) = true) ∧
    (let s := micro ((List.range 32).map (fun k => (k, 1)))
     s.m.issues 512 = true ∧ s.fetchTrap 512 = none ∧ ∀ j, j < 32 → microPasses (s.m.uword ((0 + j) % 32) 0x010) = false) ∧
    (let s := micro [(0, 0x50 * 2 ^ 128 + 0x50 * 2 ^ 136)]
     s.m.issues 512 = true ∧ microPasses (s.m.uword 0 0x010) = true ∧ microFaulty (s.m.uword 0 0x010) = true ∧ s.m.escFree.isSome = true) := by decide +kernel

/-- A microword of ones in [7:0] needs ones in its check byte (R189); a reserved SEQ, LANE 5h and a selector 19h are faults (R192). -/
theorem test_microword : microPasses (0xFF * 2 ^ 136 + 0xFF) = true ∧ microPasses 0xFF = false ∧ microFaulty (9 * 2 ^ 132) = true ∧
    microFaulty (8 * 2 ^ 132) = false ∧ microFaulty (5 * 2 ^ 82) = true ∧ microFaulty (0x19 * 2 ^ 91) = true ∧ microFaulty (0x18 * 2 ^ 91) = false := by decide

/-- A valid vector at 00_0440h, one at 0F_FFFFh, and an invalid one; a thread in a trap. -/
theorem wit_TrapEntryAndDoubleTrap :
    (let s := dramWord ((svc 7 3).m.progAddr 0x414) (Word.of (2 ^ 71 + 0x440)) (svc 7 3)
     (s.m.th 512).inTrap = false ∧ s.dramPoison (s.m.progAddr (0x400 + 0x14)) = false ∧ bits (s.dram (s.m.progAddr (0x400 + 0x14))) 71 71 = 1 ∧
       0x440 ≤ bits (s.dram (s.m.progAddr (0x400 + 0x14))) 23 0 ∧ bits (s.dram (s.m.progAddr (0x400 + 0x14))) 23 0 ≤ 0xFFFFF ∧
       s.m.issues 512 = true ∧ s.fetchTrap 512 = none) ∧
    (let s := dramWord (up.m.progAddr 0x43F) (Word.of (2 ^ 71 + 0xFFFFF)) up
     63 < 64 ∧ (s.m.th 0).inTrap = false ∧ bits (s.dram (s.m.progAddr (0x400 + 63))) 71 71 = 1 ∧ bits (s.dram (s.m.progAddr (0x400 + 63))) 23 0 = 0xFFFFF) ∧
    (((svc 7 3).m.th 512).st = .ready ∧ (svc 7 3).m.escFree.isSome = true ∧ bits ((svc 7 3).dram ((svc 7 3).m.progAddr (0x400 + 1))) 71 71 = 0) ∧
    (let s := thr 543 { firm 7 3 with tsw := svcTsw 31 ||| Word.of (2 ^ 43) } up
     (s.m.th 543).st = .ready ∧ (s.m.th 543).inTrap = true ∧ s.m.escFree.isSome = true) := by decide +kernel

theorem wit_PrivilegeAndStepTraps : Ready (chan 7 3) 3 0 ∧ ((chan 7 3).m.th 3).priv = false ∧ (9#5).toNat ≤ 9 ∧ (5#5).toNat ≤ 5 ∧
    (let s := thr 3 { plain 7 3 with tsw := Word.of (at_ 25 17 3 + 2 ^ 32) } (chan 7 3)
     s.m.issues 3 = true ∧ s.fetchTrap 3 = none ∧ (s.m.th 3).saved = none ∧ s.m.microSound = true ∧ (s.m.th 3).priv = false ∧ (s.m.th 3).step = true) :=
  ⟨ready_chan, by decide +kernel⟩

/-- The first and the last relation of CMPP, and one on either side; the last predicate number, and the first func past it. -/
theorem wit_StatusAndSystemResults : Ready (svc 7 3) 512 0 ∧ (9 ≤ (1155#11).toNat / 128 ∧ (1155#11).toNat % 128 < 4) ∧
    ((1792#11).toNat / 128 ≤ 14 ∧ (1792#11).toNat % 128 < 4) ∧ (1151#11).toNat / 128 < 9 ∧ 14 < (1920#11).toNat / 128 ∧ 4 ≤ (1156#11).toNat % 128 :=
  ⟨ready_svc, by decide +kernel⟩

/-- Timer 3 and number 4; a deadline of 0, one to come, a word with a billion nanoseconds, and sums within and past 42 bits of seconds. -/
theorem wit_TimeResults : Ready (svc 7 3) 512 0 ∧ (3#5).toNat < 4 ∧ 4 ≤ (4#5).toNat ∧ ((svc 7 3).m.th 512).rw 3 = 0 ∧
    (bits (((svc 7 3).m.th 512).rw 1) 29 0 < 1000000000 ∧ (svc 7 3).m.now < timeNs (((svc 7 3).m.th 512).rw 1)) ∧
    ((1000000000#72) ≠ 0 ∧ 1000000000 ≤ bits (1000000000#72) 29 0) ∧ (svc 7 3).m.now < 2 ^ 42 * 1000000000 ∧
    timeNs (((svc 7 3).m.th 512).rw 1) + (3#72).toNat < 2 ^ 42 * 1000000000 ∧
    ¬ timeNs (Word.of ((2 ^ 42 - 1) * 2 ^ 30)) + (1000000000#72).toNat < 2 ^ 42 * 1000000000 := ⟨ready_svc, by decide +kernel⟩

/-- The numbers at the ends of each range. -/
theorem wit_SpecialRegisterAccess : Ready (svc 7 3) 512 0 ∧ ((svc 7 3).m.th 512).priv = true ∧ (0#5).toNat = 0 ∧ (1#5).toNat = 1 ∧
    2 ≤ (2#5).toNat ∧ (5#5).toNat ≤ 5 ∧ 6 ≤ (6#5).toNat ∧ (9#5).toNat ≤ 9 ∧ 10 ≤ (10#5).toNat := ⟨ready_svc, by decide +kernel⟩

/-- A gate called at firmware privilege; an invalid entry; one whose class bit is 0; one that passes; a target below 440h; and
the returns in and out of their order. -/
theorem wit_ControlTransfers : Ready (svc 7 3) 512 0 ∧ (1023#48).toNat < 1024 ∧ ((svc 7 3).m.th 512).priv = true ∧
    Ready (chan 7 3) 3 0 ∧ bits ((chan 7 3).dram ((chan 7 3).m.progAddr 16)) 71 71 = 0 ∧
    (let s := dramWord (up.m.progAddr 16) (Word.of (2 ^ 71)) (chan 7 3)
     (s.m.th 3).priv = false ∧ bits (s.dram (s.m.progAddr 16)) 71 71 = 1 ∧
       bits (s.dram (s.m.progAddr 16)) (70 - (s.m.th 3).cls) (70 - (s.m.th 3).cls) = 0) ∧
    ((svc 7 3).m.th 512).inGate = false ∧ ((svc 7 3).m.th 512).inTrap = false ∧
    (let x := { firm 7 3 with tsw := svcTsw 0 ||| Word.of (2 ^ 44) }
     x.inGate = true ∧ x.inTrap = false ∧ x.priv = true) ∧
    ({ firm 7 3 with tsw := svcTsw 0 ||| Word.of (2 ^ 43) } : Thread).inTrap = true :=
  ⟨ready_svc, by decide +kernel, by decide +kernel, ready_chan, by decide +kernel⟩

/-- DRAM words below and at the installed capacity; a vault word of a bank of the cluster, one of another bank, one past the last;
a poisoned word; a protected one; and a vault word with each error. -/
theorem wit_LoadAndStoreResults : Ready (svc 7 3) 512 0 ∧ DramOpen (svc 7 3) 512 (((svc 7 3).m.th 512).ea 1 0 0 0) ∧
    DramFree (svc 7 3) 512 (((svc 7 3).m.th 512).ea 1 0 0 0) ∧ ¬ DramOpen (svc (16777216#72) 3) 512 (((svc (16777216#72) 3).m.th 512).ea 1 0 0 0) ∧
    VaultOpen (svc 7 3) 512 7 ∧ (192 * 32768 - 1 < 192 * 32768 ∧ ¬ VaultOpen (svc 7 3) 512 (192 * 32768 - 1)) ∧
    (let s := { svc 7 3 with mem := (svc 7 3).mem.putDram 7 1 true }
     s.dramPoison 7 = true ∧ DramOpen s 512 7) ∧
    (let s := field DOLRY_SPACE_LOCK 1 (svc 7 3)
     s.m.progLocked (.master (s.m.threadMaster 512)) (s.m.progAddr 0x440) = true ∧ DramOpen s 512 0x440) ∧
    (let s := fun e => { svc 7 3 with mem := (svc 7 3).mem.putVaultErr 7 e }
     (svc 7 3).vaultErr 7 = 0 ∧ (s 1).vaultErr 7 = 1 ∧ (s 1).vaultPoison 7 = false ∧ VaultOpen (s 1) 512 7 ∧ 2 ≤ (s 2).vaultErr 7 ∧ VaultOpen (s 2) 512 7) := by
  refine ⟨ready_svc, ?_⟩
  simp only [DramOpen, DramFree, VaultOpen]
  decide +kernel

/-- A compare that is equal and one that is not; a scale that is not 0; a poisoned word. -/
theorem wit_AtomicResults : Ready (svc 7 3) 512 0 ∧ DramOpen (svc 7 3) 512 (((svc 7 3).m.th 512).eaCas 1 0) ∧
    DramFree (svc 7 3) 512 (((svc 7 3).m.th 512).eaCas 1 0) ∧ (svc 7 3).dramPoison 7 = false ∧ (svc 7 3).dram 7 = ((svc 7 3).m.th 512).rw 3 ∧
    (svc 7 3).dram 7 ≠ ((svc 7 3).m.th 512).rw 2 ∧ VaultOpen (svc 7 3) 512 7 ∧ (svc 7 3).vaultPoison 7 = false ∧ (svc 7 3).vaultErr 7 = 0 ∧ (1#3) ≠ 0 ∧
    (let s := { svc 7 3 with mem := (svc 7 3).mem.putDram 7 1 true }
     DramOpen s 512 7 ∧ s.dramPoison 7 = true) ∧ ¬ DramOpen (svc 7 3) 512 (2 ^ 24) := by
  refine ⟨ready_svc, ?_⟩
  simp only [DramOpen, DramFree, VaultOpen]
  decide +kernel

theorem wit_RegisterFieldsApart : (regAt POWER_STATUS_addr).isSome = true := by decide +kernel

/-- A plain register at firmware privilege, a locked one, none; a word 20h and a word 1Fh of the channel's block, and the words
before and after the block. -/
theorem wit_RegisterLoadStoreResults : Ready (svc 7 3) 512 0 ∧ (svc 7 3).m.held = false ∧
    (let s := svc (Word.of DRAM_CONFIG_addr) 3
     (s.m.th 512).priv = true ∧ plainBlock ((s.m.th 512).ea 1 0 0 0) = true ∧ s.m.regLocked ((s.m.th 512).ea 1 0 0 0) = false ∧
       (regAt ((s.m.th 512).ea 1 0 0 0)).isSome = true ∧ ∀ f ∈ (regAt DRAM_CONFIG_addr).elim [] (·.fields), f.acc ≠ .rc) ∧
    (plainBlock 0x04FFFF = true ∧ regAt 0x04FFFF = none) ∧
    Ready (chan 7 3) 3 0 ∧ ((chan (Word.of (0x020000 + 64 * 3 + 32)) 3).m.th 3).priv = false ∧
    ((0x020000 + 64 * 3 ≤ 0x020000 + 64 * 3 + 32 ∧ 0x020000 + 64 * 3 + 32 < 0x020040 + 64 * 3) ∧ 32 ≤ (0x020000 + 64 * 3 + 32) % 64) ∧
    (0x020000 + 64 * 3 + 31) % 64 < 32 ∧ ¬ 0x020000 + 64 * 3 ≤ 0x020000 + 64 * 3 - 1 ∧ ¬ 0x020040 + 64 * 3 < 0x020040 + 64 * 3 ∧
    2 ^ 24 ≤ ((svc (16777216#72) 3).m.th 512).ea 1 0 0 0 := ⟨ready_svc, by decide +kernel, by decide +kernel, by decide +kernel, ready_chan, by decide +kernel⟩

/-- A queue that is open and one that is not; blocks of 1 and of 64 words; the last word of DRAM and the one after; 63 and 64
tickets; a ticket that waits, one that has completed; FIFOs that are empty, one word short of full, and full. -/
theorem wit_QueueAndFifoInstructionResults :
    (Ready (svc 7 3) 512 0 ∧ 1 ≤ (1#32).toNat ∧ (64#32).toNat ≤ 64 ∧ (3#8).toNat < 4 ∧ queueOpen 0 ((svc 7 3).m.th 512).cls = true ∧
      queueOpen 0xFF ((svc 7 3).m.th 512).cls = false ∧
      (2 ^ 24 - 1 + 1 ≤ (svc 7 3).m.capacity ∧ ((svc 7 3).m.th 512).priv = true) ∧ ¬ 2 ^ 24 + 1 ≤ (svc 7 3).m.capacity ∧
      (List.replicate 63 (⟨0, none⟩ : Ticket)).length < 64 ∧ 64 ≤ (List.replicate 64 (⟨0, none⟩ : Ticket)).length ∧
      (svc 7 3).m.queueRoom 0 (workClass 0 3) = true ∧ (svc 7 3).anyPoison 7 1 = false) ∧
    ((7#72).getLsbD 71 = false ∧ (Word.of (2 ^ 71 + 1)).getLsbD 71 = true ∧
      [(⟨Word.of (2 ^ 71 + 1), none⟩ : Ticket)].find? (fun k => k.word == Word.of (2 ^ 71 + 1)) = some ⟨Word.of (2 ^ 71 + 1), none⟩ ∧
      [(⟨Word.of (2 ^ 71 + 2), some 5⟩ : Ticket)].find? (fun k => k.word == Word.of (2 ^ 71 + 2)) = some ⟨Word.of (2 ^ 71 + 2), some 5⟩) ∧
    (let s := field (FIFO_CTRL_ENABLE 7) 1 (svc 7 3)
     (s.m.th 512).priv = true ∧ s.m.on (FIFO_CTRL_ENABLE 7) = true ∧ s.m.on (FIFO_CTRL_PACKET 7) = false ∧ (s.m.fifo 7).count < 256 ∧
       (s.m.fifo 7).cur = [] ∧ (s.m.fifo 7).items = []) ∧
    256 ≤ ({ items := List.replicate 256 (0, [0]) } : Fifo).count ∧ ({ items := List.replicate 255 (0, [0]) } : Fifo).count < 256 ∧
    ((chan 7 3).m.chanFifo 7 3 = false ∧ (chan 7 3).m.chanReads 7 3 = false) ∧
    (∀ i ∈ [(6, [(1 : Word)])], i.1 < 7) ∧ (∀ i ∈ [(7, [(1 : Word)])], i.1 ≤ 7) := by
  refine ⟨⟨ready_svc, by decide +kernel⟩, by decide +kernel⟩

/-- A mailbox of the cluster and one that is not; a slot empty, posted and taken. -/
theorem wit_MailboxInstructionResults : Ready (svc 7 3) 512 0 ∧
    (let s := field (TELLER_VALID 7) 1 (field (TELLER_MASTER_B 7) 2 (svc 7 3))
     s.m.clusterSide 512 7 = some true ∧ (s.m.side 7 true).slot = 0 ∧ (s.m.side 7 false).slot ≠ 1) ∧ (svc 7 3).m.clusterSide 512 7 = none := by
  refine ⟨ready_svc, by decide +kernel⟩

/-- The last bank and the first number past it; a bank of the cluster, one of another; a code in the table, one not in it. -/
theorem wit_BankInstructionResults : Ready (svc 0 3) 512 0 ∧ bits (((svc 191 3).m.th 512).rw 1) 7 0 ≤ 191 ∧ 191 < bits (((svc 192 3).m.th 512).rw 1) 7 0 ∧
    (svc 0 3).m.g (VAULT_OWNER_OWNER 0) = (svc 0 3).m.clusterOf 512 ∧ (svc 0 3).m.g (VAULT_OWNER_OWNER 191) ≠ (svc 0 3).m.clusterOf 512 ∧
    ownerCode 3 = true ∧ ownerCode 0xFFF = false ∧ (svc 0 3).m.markedBy 0 0 = false ∧ (svc 0 3).m.handoverBar 0 3 = 0 ∧
    (let s := field (VAULT_OWNER_RETIRED 0) 1 (svc 0 3); 3 ≠ s.m.clusterOf 512 ∧ s.m.handoverBar 0 3 ≠ 0) :=
  ⟨⟨by decide +kernel, by decide +kernel, by decide +kernel, by decide +kernel, by decide +kernel, by decide +kernel⟩, by decide +kernel⟩

/-- No guard and each end of the guards; an event set and none; a deadline past, now and to come, and no device time. -/
theorem wit_WaitStartResults : Ready (svc 7 3) 512 0 ∧ ((0#3) = 0 ∧ 4 ≤ (4#3).toNat ∧ 4 ≤ (7#3).toNat) ∧
    (svc 7 3).m.latchOf 512 &&& bits (7#72) 7 0 = 0 ∧ (svc 7 3).m.guardPast 512 none = false ∧
    ((thr 512 { firm 7 3 with latch := 1 } up).m.latchOf 512 &&& bits (7#72) 7 0) ≠ 0 ∧
    1000000000 ≤ bits (1000000000#72) 29 0 ∧ timeNs 0 = (svc 0 3).m.now ∧ (svc 7 3).m.now < timeNs 7 ∧
    (let s := (svc 7 3).onM (fun m => { m with now := 9 }); timeNs 7 < s.m.now) ∧
    (let s := (chan 7 3).onM (fun m => { m with now := 9, timers := [(12, 1)] }); s.m.guardPast 3 (some 0) = true) ∧
    (7#72).getLsbD 71 = false ∧ ((svc 7 3).m.th 512).priv = true ∧ ((svc 7 3).m.fifo 7).ready = 0 ∧ (chan 7 3).m.chanReads 7 3 = false := by
  refine ⟨ready_svc, by decide +kernel⟩

/-- A WAITT of the last service context; a stop request, a timer and an interrupt of an open channel thread with its vector valid. -/
theorem wit_BetweenInstructions :
    (let x := { firm 7 3 with st := .waiting, wait := some ⟨.waitt, 31, 0, none, 7, 0⟩ }
     let s := thr 543 x up
     s.m.coreUp = true ∧ 543 < 544 ∧ (s.m.th 543).wait.isSome = true ∧ 31 < 32 ∧ (s.m.th 543).step = false) ∧
    (let x := { plain 7 3 with tsw := Word.of (at_ 25 17 3 + 2 ^ 33), stopReq := true }
     let s := dramWord (up.m.progAddr 0x425) (Word.of (2 ^ 71 + 0x440)) (thr 3 x up)
     s.m.coreUp = true ∧ s.m.asyncCause 3 = some 0x25 ∧ (s.m.th 3).asyncOpen = true ∧ s.m.swapFirst 3 = false ∧ (s.m.th 3).long = none ∧
       bits (s.dram (s.m.progAddr (0x400 + 0x25))) 71 71 = 1 ∧ bits (s.dram (s.m.progAddr (0x400 + 0x25))) 23 0 = 0x440 ∧
       s.dramPoison (s.m.progAddr (0x400 + 0x25)) = false) ∧
    (let x := { plain 7 3 with tsw := Word.of (at_ 25 17 3 + 2 ^ 33) }
     let s := field (CHAN_TIMER_CTRL_EXP 3 3) 1 (field (CHAN_TIMER_CTRL_TRAP_EN 3 3) 1 (thr 3 x up))
     s.m.asyncCause 3 = some 0x24 ∧ (s.m.th 3).asyncOpen = true) := by decide +kernel

/-- Counts of none, of one word and up to the last word of DRAM and of the vaults; tickets done and not done; a staging area free
and one held. -/
theorem wit_LongStartResults : Ready (svc 7 3) 512 0 ∧ bits (((svc 7 3).m.th 512).rw 2) 35 0 ≠ 0 ∧ bits (((svc 7 0).m.th 512).rw 2) 35 0 = 0 ∧
    ((svc 7 3).m.dramExtent 16777215 1 = true ∧ (svc 7 3).m.dramExtent 16777216 1 = false ∧ (svc 7 3).dramOwned 512 7 3 = true) ∧
    (vaultExtent 7 3 = true ∧ vaultExtent 6291455 1 = true ∧ vaultExtent 6291456 1 = false ∧ (svc 7 3).m.vaultOwned 512 7 3 = true) ∧
    bits (((svc 255 3).m.th 512).rw 1) 7 0 = 0xFF ∧ (∀ k ∈ ((svc 255 3).m.th 512).tickets, k.done ≠ none) ∧
    1 = ([⟨Word.of (2 ^ 71), none⟩].filter (fun k : Ticket => k.done.isNone)).length ∧ ((svc 7 3).m.th 512).priv = true ∧
    (bits (((svc 7 3).m.th 512).rw 2) 11 0 ≠ 0 ∧ 7 + 3 ≤ (svc 7 3).m.capacity ∧ (svc 7 3).dramPoison 7 = false) ∧
    ((svc 7 3).m.layer 0).staging = none ∧ (svc 7 3).m.pendingFull 0 0 = false := ⟨ready_svc, by decide +kernel⟩

/-- A FILL of vault words with more than 8 to go, and with 8; a hold that can be taken. -/
theorem wit_LongProgressResults :
    (let l : LongOp := ⟨.fillV, 0, 7, 0, 9, 5, 0, 0, [0], [], [], 0, [], 0⟩
     let s := thr 512 { firm 7 3 with long := some l } up
     s.m.longRuns 512 = true ∧ (s.m.th 512).long = some l ∧ l.done < l.count ∧ (s.m.th 512).step = false ∧ min 8 (l.count - l.done) = 8) ∧
    (let l : LongOp := ⟨.fillV, 0, 7, 0, 9, 5, 1, 0, [0], [], [], 0, [], 0⟩; l.done < l.count ∧ l.done + min 8 (l.count - l.done) = l.count) ∧
    (let l : LongOp := ⟨.moveDD, 0, 7, 0, 9, 5, 0, 0, [], [], [7], 0, [], 0⟩
     let s := thr 512 { firm 7 3 with long := some l } up
     s.m.longRuns 512 = true ∧ l.todo = [7] ∧ s.holdFull 7 = false) := by decide +kernel

/-- A channel that is EMPTY, READY, STOPPED, ISOLATED; a home that another channel has; a command under way. -/
theorem wit_ChannelCommands :
    (3 < 512 ∧ up.m.mayWrite 0 (CHAN_CTRL_addr 3) = true ∧ up.m.mayWrite 0 (CHAN_CMD_addr 3) = true ∧ (up.m.th 3).st = .empty ∧
      up.m.on (CHAN_STATUS_CMD_BUSY 3) = false ∧ up.m.engineBusy 3 = false ∧ up.m.on (CHAN_STATUS_SHED 3) = false) ∧
    (let s := field (CHAN_CTRL_HOME_VALID 4) 1 (field (CHAN_CTRL_HOME_CLERK 4) 0 (field (CHAN_CTRL_HOME_SLOT 4) 0 up))
     bits (Word.of (2 ^ 69)) 69 69 = 1 ∧ s.m.on (CHAN_CTRL_HOME_VALID 4) = true ∧ s.m.g (CHAN_CTRL_HOME_CLERK 4) = bits (Word.of (2 ^ 69)) 68 64 ∧
       s.m.g (CHAN_CTRL_HOME_SLOT 4) = bits (Word.of (2 ^ 69)) 63 60) ∧
    (field (CHAN_STATUS_CMD_BUSY 511) 1 up).m.on (CHAN_STATUS_CMD_BUSY 511) = true ∧
    ((chan 7 3).m.th 3).st = .ready ∧
    (let x := { plain 7 3 with st := .stopped, tsw := Word.of (2 ^ 43) }; x.st = .stopped ∧ x.inTrap = true) ∧
    ((thr 3 { plain 7 3 with st := .isolated } up).m.th 3).st = .isolated ∧ ((thr 3 { plain 7 3 with stopReq := true } up).m.th 3).stopReq = true ∧
    (field (CHAN_STATUS_SHED 3) 1 up).m.on (CHAN_STATUS_SHED 3) = true ∧
    (let s := field (CHAN_CMD_CMD 3) 4 (field (CHAN_STATUS_CMD_BUSY 3) 1 up); s.m.on (CHAN_STATUS_CMD_BUSY 3) = true ∧ s.m.g (CHAN_CMD_CMD 3) = 4) := by
  decide +kernel

/-- The words of a record that passes R172, at 64: version 1, its window, no demand, an exchange at a wait with the sum of the
words in the last. -/
def recordWords (w0 : Nat) : List Word :=
  let w1 := Word.of (at_ 71 48 0x100000 + at_ 47 24 0x1FFFFF + at_ 23 0 0x100000)
  [Word.of w0, w1, 0, 0, 0, 0, 0, Word.of w0 + w1]

/-- A state with a record at 64 and a home for channel 3 in class 1. -/
def loadable (s : State) : State :=
  field DMA_GLOBAL_SERVICE 0 (field (CHAN_CTRL_HOME_VALID 3) 1 (field (CHAN_CTRL_CLASS 3) 1 { s with mem := s.mem.putDrams 64 (recordWords (2 ^ 64 + 2 ^ 57)) }))

theorem wit_LoadAndSwapCommands :
    (let s := loadable up
     s.m.mayWrite 0 (CHAN_CMD_addr 3) = true ∧ s.m.on (CHAN_STATUS_CMD_BUSY 3) = false ∧ (s.m.th 3).st = .empty ∧
       s.m.on (CHAN_CTRL_HOME_VALID 3) = true ∧ s.m.g (CHAN_CTRL_CLASS 3) ≠ 3 ∧ s.m.on DMA_GLOBAL_SERVICE = false ∧ s.m.g (CHAN_CTRL_CLASS 3) ≠ 0 ∧
       s.record 64 = some (recordWords (2 ^ 64 + 2 ^ 57)) ∧ s.m.admitCheck (s.m.recordDemand 3 (recordWords (2 ^ 64 + 2 ^ 57))) 512 = (0, 0)) ∧
    (field (CHAN_CTRL_HOME_VALID 3) 0 up).m.on (CHAN_CTRL_HOME_VALID 3) = false ∧
    (let s := loadable (chan 7 3)
     (s.m.th 3).st ≠ .empty ∧ (s.m.th 3).st ≠ .isolated ∧ s.m.swapOf 3 = none ∧ s.record 64 = some (recordWords (2 ^ 64 + 2 ^ 57)) ∧
       bits (nthWord (recordWords (2 ^ 64 + 2 ^ 57)) 0) 57 57 = 1) ∧
    ((chan 7 3).onM (fun m => { m with swaps := [(3, some ⟨[], 0, 0, true, false, false⟩)] })).m.swapOf 3 ≠ none := by decide +kernel

/-- An exchange at a wait, at a boundary and at a time. -/
theorem wit_ExchangeEffects :
    (let w : Swap := ⟨recordWords (2 ^ 64), 0, 9, true, false, false⟩
     let s := (thr 3 { plain 7 3 with st := .waiting, wait := some ⟨.waite, 1, 0, none, 7, 0⟩ } up).onM (fun m => { m with swaps := [(3, some w)] })
     3 < 512 ∧ s.m.coreUp = true ∧ s.m.swapOf 3 = some w ∧ (s.m.th 3).priv = false ∧ (s.m.th 3).long = none ∧ (s.m.th 3).saved = none ∧
       (s.m.th 3).st = .waiting ∧ w.mode = 0) ∧
    (let w : Swap := ⟨recordWords (2 ^ 64 + 2 ^ 60), 1, 9, true, false, false⟩
     let s := (chan 7 3).onM (fun m => { m with swaps := [(3, some w)] })
     s.m.swapOf 3 = some w ∧ (s.m.th 3).st = .ready ∧ w.mode = 1) := by decide +kernel

theorem wit_SwapAndKillInstructions : Ready (svc 3 64) 512 0 ∧ ((svc 3 64).m.th 512).priv = true ∧ ((svc 3 64).m.th 3).st = .empty ∧
    (let s := loadable (thr 3 (plain 7 3) (svc 3 64))
     (s.m.th 3).st = .ready ∧ s.m.swapOf 3 = none ∧ bits ((s.m.th 512).rw 2) 35 0 = 64 ∧ s.record 64 = some (recordWords (2 ^ 64 + 2 ^ 57)) ∧
       bits ((s.m.th 512).rw 1) 8 0 ≠ 512 ∧ (s.m.th 3).tickets.any (fun k => k.done.isNone) = false) ∧
    [(⟨Word.of (2 ^ 71), none⟩ : Ticket)].any (fun k => k.done.isNone) = true ∧ bits (((chan 3 3).m.th 3).rw 1) 8 0 = 3 :=
  ⟨⟨by decide +kernel, by decide +kernel, by decide +kernel, by decide +kernel, by decide +kernel, by decide +kernel⟩, by decide +kernel⟩

/-- A channel outside the guarantee; a timer that runs; the schedule table off, on, at its end and with an entry due. -/
theorem wit_ChannelTimeEvents : 511 < 512 ∧ 3 < 4 ∧ 31 < 32 ∧ up.m.on (CHAN_STATUS_ADMITTED 511) = false ∧
    (let s := field (CHAN_STATUS_ADMITTED 3) 1 (field (CHAN_CTRL_CLASS 3) 0 (field PACE_NOW_PACE_INDEX 720 (chan 7 3))); s.m.liveFalseReason 3 = none) ∧
    (let s := (chan 7 3).onM (fun m => m.setTimer 3 3 9); s.m.timer 3 3 ≠ 0 ∧ (s.m.th 3).wait = none) ∧
    (up.m.mayWrite 0 SCHED_CTRL_addr = true ∧ up.m.on SCHED_CTRL_ENABLE = false) ∧
    (let s := field SCHED_CTRL_ENABLE 1 up; s.m.on SCHED_CTRL_ENABLE = true ∧ s.m.on SCHED_STATUS_EXHAUSTED = false ∧ s.schedNext = none) ∧
    (let s := dramWord 65 (Word.of (2 ^ 71 + 2 * 2 ^ 68)) (field SCHED_CTRL_ENTRIES 1 (field SCHED_CTRL_TABLE_BASE 64 (field SCHED_CTRL_ENABLE 1 up)))
     s.schedNext = some 0 ∧ timeOk (s.dram 64) = true ∧ s.m.now ≤ timeNs (s.dram 64) ∧ bits (s.dram 65) 70 68 = 2) := by decide +kernel

/-! ### Witnesses: registers, pools, FIFOs, pace, mailboxes, the host window -/

/-- Pool 15 enabled with two buffers of class 1 at 512 and its metadata at 0, initialised, none taken. -/
def pooled : State := (field (POOL_STATUS_STATE 15) 2 (field (POOL_STATUS_FREE 15) 2 (field (POOL_CFG_B_COUNT 15) 2 (field (POOL_CFG_A_BASE 15) 512
  (field (POOL_CFG_A_CLASS 15) 1 (field (POOL_CFG_A_ENABLE 15) 1 up)))))).onM (fun m => { m with poolRing := [(15, [(0, 1)])], poolPlaced := [(15, 2)] })

/-- The last pool off, on and free, on with a buffer out; a take from a ring, from an empty one; a good handle and a bad one; a hold
that ends. -/
theorem wit_PoolCommands :
    (15 < 16 ∧ up.m.mayWrite 0 (POOL_CFG_A_addr 15) = true ∧ up.m.on (POOL_CFG_A_ENABLE 15) = false ∧ bits (Word.of (2 ^ 27)) 27 27 = 1) ∧
    (pooled.m.on (POOL_CFG_A_ENABLE 15) = true ∧ bits (0#72) 27 27 = 0 ∧ pooled.m.g (POOL_STATUS_FREE 15) = pooled.m.g (POOL_CFG_B_COUNT 15)) ∧
    (let s := field (POOL_STATUS_FREE 15) 1 pooled; s.m.g (POOL_STATUS_FREE 15) ≠ s.m.g (POOL_CFG_B_COUNT 15)) ∧
    (let s := field (POOL_STATUS_STATE 15) 1 (field (POOL_CFG_B_COUNT 15) 2 up)
     s.m.g (POOL_STATUS_STATE 15) = 1 ∧ tget (fun _ => 0) s.m.poolPlaced 15 = 0 ∧ s.m.ring 15 = [] ∧ s.m.g (POOL_STATUS_FREE 15) = 0 ∧ 0 < 2 ∧ 2 ≤ 2) ∧
    (pooled.m.mayRead 0 (POOL_TAKE_addr 15) = true ∧ pooled.m.g (POOL_STATUS_STATE 15) = 2 ∧ smem pooled.m.poolUndef 15 = false ∧
      pooled.m.ring 15 = (0, 1) :: [] ∧ pooled.m.progLocked .poolManager (pooled.m.poolMeta 15) = false ∧
      pooled.m.recordLocked .poolManager (pooled.m.poolMeta 15) = false) ∧
    (let s := field (POOL_CFG_B_META_BASE 15) (2 ^ 25) (field (POOL_CFG_B_COUNT 15) 2 (field DRAM_CONFIG_CAPACITY (2 ^ 28) up))
     let m := (((s.m.p (POOL_CFG_A_BASE 15) (2 ^ 26)).p (POOL_CFG_A_CLASS 15) 1).p (POOL_CFG_A_FALLBACK 15) 0).p (POOL_CFG_A_FB_EN 15) 0
     m.poolCheck 15 = 0 ∧ (m.p (POOL_CFG_A_CLASS 15) 0).poolCheck 15 = 1) ∧
    (let s := pooled.onM (fun m => { m with poolRing := [] }); s.m.ring 15 = [] ∧ s.m.on (POOL_CFG_A_FB_EN 15) = false) ∧
    (let h := pooled.m.handle 15 0 0
     let s := dramWord (pooled.m.poolMeta 15) (bufWord ⟨1, ownerOf 0, 0, 0⟩) (reg POOL_HOST_HANDLE_addr h pooled)
     s.m.mayWrite 0 POOL_HOST_CMD_addr = true ∧ s.m.on POOL_HOST_STATUS_BUSY = false ∧ bits (Word.of (s.m.g POOL_HOST_HANDLE_HANDLE)) 35 32 = 15 ∧
       s.putCheck (Word.of (s.m.g POOL_HOST_HANDLE_HANDLE)) (ownerOf 0) none = (0, 0) ∧ (s.buf 15 0).holds = 0 ∧
       s.putCheck (Word.of (s.m.g POOL_HOST_HANDLE_HANDLE)) (ownerOf 0) (some 0x200) = (0, 0)) ∧
    (pooled.putCheck 0 (ownerOf 0) none).1 ≠ 0 ∧ (up.m.th (bits (Word.of (3 * 2 ^ 70)) 59 51)).st = .empty ∧
    ((thr 0 (plain 7 3) up).m.th 0).st ≠ .empty ∧ (let s := up.onM (fun m => { m with reclaim := some 3 }); s.m.reclaim = some 3 ∧ ∀ q, q < 16 → s.takenBy q 3 = []) ∧
    (let s := dramWord (pooled.m.poolMeta 15 + 1) (bufWord ⟨2, 3, 1, 0⟩) pooled
     1 < s.m.g (POOL_CFG_B_COUNT 15) ∧ (s.buf 15 1).st = 2 ∧ (s.buf 15 1).holds = 1) := by decide +kernel

/-- The last FIFO and priority: an open packet, none, a full FIFO, an empty one; a gate that runs. -/
theorem wit_FifoCommandsAndGates :
    (let s := field (FIFO_CTRL_READER_KIND 63) 2 (field (FIFO_CTRL_ENABLE 63) 1 up)
     63 < 64 ∧ 7 < 8 ∧ s.m.mayRead 0 (FIFO_POP_addr 63) = true ∧ s.m.popMaster 0 63 = true ∧ (s.m.fifo 63).cur = [] ∧ (s.m.fifo 63).items = [] ∧
       s.m.mayWrite 0 (FIFO_PUSH_addr 63 7) = true ∧ s.m.on (FIFO_CTRL_ENABLE 63) = true ∧ s.m.on (FIFO_CTRL_PACKET 63) = false ∧
       (s.m.fifo 63).count < 256 ∧ s.m.mayWrite 0 (FIFO_CLOSE_addr 63) = true ∧ s.m.mayWrite 0 (FIFO_CTRL_addr 63) = true) ∧
    (let s := up.onM (fun m => m.setFifo 63 (({} : Fifo).setPkt 7 (some ⟨[1], false, true⟩)))
     (s.m.fifo 63).pkt (bits (Word.of (7 * 2 ^ 69)) 71 69) = some ⟨[1], false, true⟩ ∧ bits (Word.of (7 * 2 ^ 69)) 68 68 = 0) ∧
    bits (Word.of (2 ^ 68)) 68 68 = 1 ∧
    (let s := thr 543 { firm 7 3 with pc := up.m.serviceEntry } up
     512 ≤ 543 ∧ (field (FIFO_CTRL_PACKET 0) 1 s).m.on (FIFO_CTRL_PACKET (bits ((s.m.th 543).rw 2) 5 0)) = false) := by decide +kernel

/-- A plain register, a locked one, an unassigned address; a master that may and one that may not; a mailbox of the board
controller. -/
theorem wit_RegisterCommands : DRAM_CONFIG_addr + 1 < 2 ^ 24 ∧ up.m.mayWrite 0 DRAM_CONFIG_addr = true ∧ plainBlock DRAM_CONFIG_addr = true ∧
    up.m.regLocked DRAM_CONFIG_addr = false ∧ (regAt DRAM_CONFIG_addr).isSome = true ∧ (regAt 0x04FFFF).isSome = false ∧
    up.m.mayWrite 10 DRAM_CONFIG_addr = false ∧ up.m.d3hot = false ∧ up.m.mayRead 0 DRAM_CONFIG_addr = true ∧
    (DRAM_CONFIG_addr / 65536 ≠ 0x0B ∧ DRAM_CONFIG_addr / 65536 ≠ 0x0D ∧ up.m.shownWord DRAM_CONFIG_addr = up.m.rd DRAM_CONFIG_addr) ∧
    up.m.mayRead 1 POWER_STATUS_addr = true ∧ up.m.mayRead 1 DRAM_CONFIG_addr = false ∧ up.m.mayWrite 1 DRAM_CONFIG_addr = false ∧
    (let s := field (TELLER_VALID 63) 1 (field (TELLER_MASTER_A 63) 1 up)
     63 < 64 ∧ s.m.held = false ∧ s.m.sideOpen 1 63 false = true ∧ (s.m.side 63 false).slot = 0) := by decide +kernel

/-- A stage and a latch in place; an offset that is no half of a register; the boot master before host-ready. -/
theorem wit_WindowRegisterCommands : up.m.held = false ∧ up.m.d3hot = false ∧ 2 ^ 24 - 1 < 2 ^ 24 ∧ 31 < 32 ∧
    (let s := up.onM (fun m => { m with bar0Stage := some (DRAM_CONFIG_addr, 1), bar0Latch := some (DRAM_CONFIG_addr, 1) })
     s.m.bar0Stage = some (DRAM_CONFIG_addr, 1) ∧ s.m.bar0Latch = some (DRAM_CONFIG_addr, 1) ∧ s.m.mayWrite 0 DRAM_CONFIG_addr = true ∧
       s.m.mayRead 0 DRAM_CONFIG_addr = true) ∧ 4 % 8 ≠ 0 ∧
    (let s := field BOOT_STATUS_HOST_READY 0 (field UC_CTRL_LOCK 0 up); s.m.hostReady = false ∧ s.m.on UC_CTRL_LOCK = false ∧ s.m.held = false) ∧
    (let s := field BOOT_STATUS_HOST_READY 0 (field UC_CTRL_LOCK 1 up); s.m.hostReady = false ∧ s.m.on UC_CTRL_LOCK = true) := by decide +kernel

/-- Every monitor at 0 degrees; supply voltages at the ends of the range; retries 2 and 3. -/
theorem wit_PaceWindowAndGovernorResults :
    (up.m.pins.pwrOk = true ∧ ∀ k ∈ List.range 16, ([] : List Int).getD k 0 ≤ thermLimit (up.m.g THERM_CTRL_T_CRIT)) ∧
    (let s := field GOV_STATUS_VCORE_SET 900 up
     s.m.govRuns = true ∧ 580 ≤ 580 ∧ 920 ≤ 920 ∧ 600 ≤ s.m.g GOV_STATUS_VCORE_SET ∧ s.m.g GOV_STATUS_VCORE_SET ≤ 900 ∧
       s.m.on GOV_STATUS_AVS_FAULT = false ∧ 920 * 2000 / 2000 + s.m.otherPower < 1024) ∧
    (let s := field GOV_CTRL_MODE 1 up
     s.m.coreUp = true ∧ s.m.g GOV_CTRL_MODE = 1 ∧ s.m.paceLost = false ∧ s.m.on GOV_STATUS_LIMIT_POWER = false ∧
       s.m.on GOV_STATUS_LIMIT_THERMAL = false ∧ s.m.thermCrit = false) ∧
    (let s := up.onM (fun m => { m with missWins := 1000, avsTries := 3 }); 1000 ≤ s.m.missWins ∧ 3 ≤ s.m.avsTries ∧ s.m.escFree.isSome = true) ∧
    (let s := up.onM (fun m => { m with missWins := 999, avsTries := 2 }); s.m.missWins < 1000 ∧ s.m.avsTries < 3) := by decide +kernel

/-- The last mailbox with its slot empty, posted and taken; a master that is not bound; the last interrupt group and the first number
past it; a vector that is pending. -/
theorem wit_MailboxAndInterruptCommands :
    (let s := field (TELLER_VALID 63) 1 (field (TELLER_MASTER_A 63) 0 (field (TELLER_MASTER_B 63) 2 up))
     63 < 64 ∧ s.m.sideOpen 0 63 false = true ∧ s.m.mayWrite 0 (mbxAddr 63 false 2) = true ∧ (s.m.side 63 false).slot = 0 ∧
       s.m.mayRead 0 (mbxAddr 63 false 3) = true ∧ s.m.mayWrite 0 (mbxAddr 63 false 4) = true ∧ (s.m.side 63 true).slot ≠ 2 ∧
       s.m.sideOpen 3 63 false = false ∧ s.m.mayWrite 3 (mbxAddr 63 false 2) = true ∧ s.m.mayWrite 3 (mbxAddr 63 false 4) = true) ∧
    (let s := (field (TELLER_VALID 63) 1 (field (TELLER_MASTER_A 63) 0 up)).onM (fun m => m.setSide 63 true { slot := 2 })
     s.m.sideOpen 0 63 false = true ∧ (s.m.side 63 true).slot = 2 ∧ (s.m.side 63 true).stale = false) ∧
    (up.m.mayWrite 0 (TELLER_addr 63) = true ∧ up.m.on MBX_GLOBAL_TELLER_LOCK = false ∧ ¬ 9 < bits (Word.of (9 * 2 ^ 67)) 70 67 ∧
      9 < bits (Word.of (10 * 2 ^ 67)) 70 67) ∧
    (43 < 44 ∧ up.m.mayWrite 0 (GROUP_CTRL_addr 43) = true ∧ bits (0#72) 71 71 = 0 ∧ 44 ≤ 44 ∧ up.m.mayWrite 0 (GROUP_CTRL_addr 44) = true) ∧
    (field (GROUP_STATUS_HOLDING 43) 1 up).m.on (GROUP_STATUS_HOLDING 43) = true ∧
    (let s := up.onM (fun m => { m with msixOn := true, pba := [2047] })
     s.m.msixOn = true ∧ 2047 < 2048 ∧ s.m.d3hot = false ∧ 2047 ∈ s.m.pba) := by decide +kernel

/-- The first DRAM word of the window and the first past the capacity; a vault word of a bank of the host, one that is not. -/
theorem wit_HostWindowCommands : up.m.held = false ∧ up.m.halted = false ∧ 2 ^ 27 - 1 < 2 ^ 27 ∧
    (up.onM (fun m => { m with d3hot := true })).m.d3hot = true ∧ up.m.g HOST_WINDOW_DRAM_WIN_BASE / 2 ^ 27 * 2 ^ 27 + 7 < up.m.capacity ∧
    up.m.capacity ≤ up.m.g HOST_WINDOW_DRAM_WIN_BASE / 2 ^ 27 * 2 ^ 27 + 2 ^ 24 ∧
    (let s := up.onM (fun m => { m with bar4Stage := some (7, 1), bar4Latch := some (7, 1) }); s.m.bar4Stage = some (7, 1) ∧ s.m.bar4Latch = some (7, 1)) ∧
    (up.m.progLocked (.master 0) 7 = false ∧ up.m.recordLocked (.master 0) 7 = false ∧ up.m.metaPool 7 = none) ∧
    (let s := field (VAULT_OWNER_OWNER 0) 0x700 up; 32767 < 192 * 32768 ∧ s.m.bankOpen (32767 / 32768) 0x700 = true ∧ s.vaultErr 32767 = 0 ∧
      2 ≤ { s with mem := s.mem.putVaultErr 32767 2 }.vaultErr 32767) ∧
    (192 * 32768 - 1 < 192 * 32768 ∧ up.m.bankOpen 191 0x700 = false) := by decide +kernel

/-! ### Witnesses: rings, the DMA engine -/

/-- The ABI accepted, and the ring enabled in both directions with the smallest size. -/
def ringed (r : Nat) : State := field (rCqSize r) 4 (field (rCqEnable r) 1 (field (rSqPhase r) 1 (field (rSqSize r) 4 (field (rSqEnable r) 1
  (field HOST_ABI_ACCEPTED 0x30 up)))))
/-- An entry with an opcode, and with a buffer, an offset and a count. -/
def entry (op : Nat) (h : Word) (n : Nat) : RingEntry := ⟨15, [Word.of (at_ 71 64 3 + at_ 63 56 op), 0, Word.of n, h], 0, 0, 0, false, 1⟩
/-- The ring's oldest entry is e; a pool's buffer 0 is of channel 511. -/
def fronted (r : Nat) (e : RingEntry) : State :=
  (dramWord 0 (bufWord ⟨1, 511, 0, 0⟩) pooled).onM (fun m => m.setEntries r [e])

/-- The ABI with no ring and with one; the last channel's ring and the admin ring, disabled and enabled, with sizes 4 and 16; a
doorbell at the last entry; an entry that is well formed and one that is not. -/
theorem wit_RingAndEntryCommands_rings :
    (511 < 513 ∧ 512 < 513 ∧ 15 < 2 ^ 16 ∧ up.m.held = false ∧ up.m.d3hot = false ∧ up.m.mayWrite 0 HOST_ABI_addr = true ∧ up.m.anyRing = false) ∧
    (ringed 511).m.anyRing = true ∧ up.m.mayWrite 0 (ringSet 512 + 4) = true ∧ up.m.mayWrite 0 (ringSet 511 + 4) = true ∧
    up.m.mayWrite 0 (ringSet 511 + 1) = true ∧ up.m.mayWrite 0 (ringSet 512 + 1) = true ∧ up.m.on (rCqEnable 511) = false ∧
    bits (Word.of (2 ^ 71 + at_ 70 66 16)) 71 71 = 1 ∧ bits (Word.of (2 ^ 71 + at_ 70 66 16)) 70 66 = 16 ∧ up.m.on (rSqEnable 512) = false ∧
    (field HOST_ABI_ACCEPTED 0x30 up).sqOk 512 (Word.of (2 ^ 71 + at_ 70 66 16)) = true ∧
    (field (FIFO_CTRL_WRITER 63) 511 (field (FIFO_CTRL_WRITER_VALID 63) 1 (field HOST_ABI_ACCEPTED 0x30 (fronted 511 (entry 1 0 0))))).sqOk 511
      (Word.of (2 ^ 71 + at_ 70 66 4 + at_ 65 30 512 + at_ 29 24 63)) = true ∧
    ((ringed 511).m.on (rSqEnable 511) = true ∧ (ringed 511).m.ringEntries 511 = [] ∧ (ringed 511).m.halted = false ∧
      15 < 2 ^ (ringed 511).m.g (rSqSize 511) ∧ 15 < 2 ^ (ringed 511).m.g (rCqSize 511) ∧ (ringed 511).m.on (rCqEnable 511) = true) ∧
    ((ringed 512).m.on (rSqEnable 512) = true ∧ 15 < 2 ^ (ringed 512).m.g (rSqSize 512) ∧ 15 < 2 ^ (ringed 512).m.g (rCqSize 512) ∧
      (ringed 512).m.on (rCqEnable 512) = true ∧ (ringed 512).m.halted = false) ∧
    (let s := (ringed 511).onM (fun m => { m with sqLead := [(511, 1)] })
     s.m.sqMayFetch 511 = true ∧ (0xAB#8).toNat = 0xAA + s.m.g (rSqPhase 511) ∧ entryReason 511 false (entry 1 0 0).ws ≠ 0 ∧
       entryReason 511 false [Word.of (at_ 71 64 3 + at_ 63 56 1), 0, 0, 0, 0, 0, Word.of (at_ 71 64 3 + at_ 63 56 1)] = 0) := by decide +kernel

/-- The last channel's oldest entry a message, a transfer in each direction; the admin ring's two commands; the gates with room in
the completion ring and without. -/
theorem wit_RingAndEntryCommands_entries :
    (let s := (fronted 511 (entry 1 0 0)).onM (fun m => m.p (rSqInbox 511) 512)
     s.m.ringDma = true ∧ (s.m.ringEntries 511).head? = some (entry 1 0 0) ∧ bits (nthWord (entry 1 0 0).ws 0) 63 56 = 1 ∧
       ∀ j, j < 8 → s.m.progLocked .device (s.m.g (rSqInbox 511) + 8 * 15 + j) = false ∧
         s.m.recordLocked .device (s.m.g (rSqInbox 511) + 8 * 15 + j) = false ∧ s.m.metaPool (s.m.g (rSqInbox 511) + 8 * 15 + j) = none) ∧
    (let h := pooled.m.handle 15 0 0
     let s := fronted 511 (entry 2 h 2)
     (s.m.ringEntries 511).head? = some (entry 2 h 2) ∧ bits (nthWord (entry 2 h 2).ws 0) 63 56 = 2 ∧ h ≠ 0 ∧ s.requestOk 511 h 0 2 = true ∧
       s.holdFull (bits h 71 36) = false ∧ s.anyPoison 512 2 = false ∧
       ∀ j, j < 2 → s.m.progLocked .device (512 + j) = false ∧ s.m.recordLocked .device (512 + j) = false ∧ s.m.metaPool (512 + j) = none) ∧
    bits (nthWord (entry 3 0 2).ws 0) 63 56 = 3 ∧ bits (nthWord (entry 0 0 2).ws 0) 63 56 = 0 ∧
    (let e : RingEntry := { entry 1 0 0 with ws := [Word.of (at_ 63 56 1), Word.of (at_ 71 68 3 + at_ 67 59 511)] }
     let s := fronted 512 e
     let s1 := s.onM (fun m => m.setFront 512 { e with checked := true })
     (s.m.ringEntries 512).head? = some e ∧ s.m.on (CHAN_STATUS_CMD_BUSY 511) = false ∧ s1.m.mayWrite 0 (CHAN_CMD_addr 511) = true) ∧
    (let s := ((ringed 511).onM (fun m => { m with sqUnretired := [(511, 2)] })).onM (fun m => m.setTh 511 { firm 7 2 with pc := up.m.serviceEntry })
     s.m.gateRuns 511 = true ∧ ((s.m.th 511).rw 2).toNat ≤ s.m.unretired 511 ∧ 3 ≤ s.m.cqFree 511) ∧
    (let s := ((fronted 511 (entry 1 0 0)).onM (fun m => (m.p (rCqEnable 511) 1).p (rCqSize 511) 1)).onM (fun m => m.setTh 511 { firm 7 512 with pc := up.m.serviceEntry })
     s.m.gateRuns 511 = true ∧ s.m.unretired 511 < ((s.m.th 511).rw 2).toNat ∧ s.m.on (rCqEnable 511) = true ∧ s.owns 511 512 6 = true ∧
       s.anyPoison 512 6 = false ∧ bits ((s.m.th 511).rw 3) 0 0 = 0 ∧ s.m.cqFree 511 < 3) := by decide +kernel

/-- A descriptor at 4096 that brings two words to 100 from the host. -/
def moving : State := field (DMA_CTRL_DESC 31) 4096 (field (DMA_PROGRESS_CURRENT 31) 4096 (dramWord 4096 (Word.of (at_ 71 64 1 + at_ 58 58 1 + 2))
  (dramWord 4098 (Word.of (at_ 71 36 8192 + at_ 35 20 1)) (dramWord 8192 (Word.of (at_ 71 36 100 + 2)) up))))

/-- The last channel idle, running and stopped; a descriptor that is good and one that is not; a bus error; nothing sent to the
host. -/
theorem wit_DmaCommands : 2 ≤ 2 ∧ 31 < 32 ∧
    (moving.m.coreUp = true ∧ moving.m.d3hot = false ∧ moving.m.g (DMA_STATUS_STATE 31) = 0 ∧ moving.descReason (moving.m.g (DMA_CTRL_DESC 31)) = 0) ∧
    (up.m.g (DMA_STATUS_STATE 31) = 0 ∧ up.descReason (up.m.g (DMA_CTRL_DESC 31)) ≠ 0) ∧
    (let s := field (DMA_STATUS_STATE 31) 1 moving
     let left := (s.descWords (s.dmaDesc 31)).drop (s.m.g (DMA_PROGRESS_WORDS_DONE 31))
     s.m.g (DMA_STATUS_STATE 31) = 1 ∧ (s.dmaDesc 31).toHost = false ∧ (s.dmaDesc 31).vault = false ∧ (s.dmaDesc 31).irq = false ∧
       (s.dmaDesc 31).last = true ∧ [7#72, 8#72].length = left.length ∧ [7#72].length < left.length ∧ (left.map (·.1)).Nodup ∧
       (∀ e ∈ left, s.m.progLocked .device e.1 = false ∧ s.m.recordLocked .device e.1 = false ∧ s.m.metaPool e.1 = none) ∧
       s.m.g (DMA_PROGRESS_WORDS_DONE 31) + left.length < 2 ^ 36 ∧ s.m.mayWrite 0 (DMA_CTRL_addr 31) = true) ∧
    (field (DMA_STATUS_STATE 31) 4 moving).m.g (DMA_STATUS_STATE 31) = 4 ∧ 15 < 16 ∧ up.m.mayWrite 0 DMA_GLOBAL_addr = true ∧
    (field DMA_GLOBAL_BUS_ERROR 1 up).m.on DMA_GLOBAL_BUS_ERROR = true ∧ bits (0#72) 65 65 = 0 ∧ up.dmaSending = false := by decide +kernel

/-! ### Witnesses: vaults, DRAM, the ledger and the calendar -/

/-- The last bank handed over by the host, and one with an owner code that is none; a bank to retire and a number that is none;
domain 11 switched on, off while idle and not; the end of its clearing; a run over banks 190 and 191, one refused, and its end. -/
theorem wit_VaultCommands : 191 < 192 ∧ 11 < 12 ∧
    (let s := field VAULT_POWER_DOMAIN_ON 0x800 up
     let ok := fun (c : Nat) => ownerCode c = true ∧ s.m.marked 191 = false ∧ s.m.on (VAULT_OWNER_STAGING 191) = false ∧
       (s.m.on (VAULT_OWNER_MAP 191) = false ∨ c = 0x600) ∧ (s.m.on (VAULT_OWNER_RETIRED 191) = false ∨ c = 0x800) ∧
       s.m.assayHolds 191 = false ∧ s.m.domainOn 191 = true ∧ s.m.on (VAULT_OWNER_CLEARING 191) = false
     s.m.mayWrite 0 (VAULT_OWNER_addr 191) = true ∧ ok (bits (Word.of (at_ 71 60 7)) 71 60) ∧ ¬ ok (bits (Word.of (at_ 71 60 8)) 71 60) ∧
       s.m.mayWrite 0 VAULT_RETIRE_addr = true ∧ bits (Word.of (at_ 71 64 191)) 71 64 = 191 ∧ ok 0x800 ∧ 192 ≤ bits (Word.of (at_ 71 64 192)) 71 64) ∧
    (let on := up.m.g VAULT_POWER_DOMAIN_ON
     up.m.mayWrite 0 VAULT_POWER_addr = true ∧ Nat.testBit on 11 = false ∧ bits (Word.of (at_ 71 60 0x801)) 71 60 = on + 2 ^ 11) ∧
    (let s := field VAULT_POWER_DOMAIN_ON 0x801 up
     let on := s.m.g VAULT_POWER_DOMAIN_ON
     Nat.testBit on 11 = true ∧ bits (Word.of (at_ 71 60 1)) 71 60 + 2 ^ 11 = on ∧ s.m.domainIdle 11 = true ∧
       (field (VAULT_OWNER_OWNER 191) 7 s).m.domainIdle 11 = false) ∧
    (let s := (List.range 16).foldl (fun s k => field (VAULT_OWNER_CLEARING (176 + k)) 1 s) up
     ∀ k, k < 192 → 16 * 11 ≤ k ∧ k < 16 * 11 + 16 → s.m.on (VAULT_OWNER_CLEARING k) = true) ∧
    (let v := Word.of (at_ 69 62 190 + at_ 61 54 191 + at_ 45 45 1)
     let s := field (VAULT_OWNER_OWNER 190) 0x800 (field (VAULT_OWNER_OWNER 191) 0x800 up)
     s.m.mayWrite 0 ASSAY_CMD_addr = true ∧ bits v 45 45 = 1 ∧ s.m.assayReason ⟨false, false, 190, 191, 0⟩ = 0 ∧
       up.m.assayReason ⟨false, false, 190, 191, 0⟩ ≠ 0 ∧ (bits v 69 62 = 190 ∧ bits v 61 54 = 191) ∧
       (let r : AssayRun := ⟨false, false, 190, 191, 0⟩; r.preserving = false ∧ r.first ≤ r.last ∧ r.last < 192)) := by decide +kernel

/-- The last channel, bank, rank and address; the scrub at its last word and before; a channel that is not frozen; no open
report. -/
theorem wit_DramCommands : 7 < 8 ∧ 63 < 64 ∧ 1 < 2 ∧ 2 ^ 36 - 1 < 2 ^ 36 ∧ up.m.scrubPos + 1 < up.m.capacity ∧
    (let s := up.onM (fun m => { m with scrubPos := 2 ^ 24 - 1 }); s.m.capacity ≤ s.m.scrubPos + 1 ∧
     s.m.g (DRAM_CH_STATUS_STATE (dramChannel s.m.scrubPos)) ≠ 3) ∧ up.m.g (DRAM_CH_STATUS_STATE (dramChannel up.m.scrubPos)) ≠ 3 ∧
    (let s := field (DRAM_CH_STATUS_STATE 0) 3 up; s.m.g (DRAM_CH_STATUS_STATE (dramChannel s.m.scrubPos)) = 3) ∧ up.m.g (DRAM_CH_STATUS_STATE 7) ≠ 3 ∧ up.m.g (DRAM_CH_STATUS_STATE (dramChannel (2 ^ 36 - 1))) ≠ 3 ∧ 3 < 4 ∧
    (field (DRAM_CH_STATUS_STATE 0) 3 up).m.g (DRAM_CH_STATUS_STATE (dramChannel 0)) = 3 ∧
    up.m.escMatch 0x23 7 = none := by decide +kernel

/-- Three lamp records at 8192, the journal's region valid and locked, its newest image in slot 0. -/
def ledgered : State :=
  ((field LEDGER_CTRL_JOURNAL_EN 1 (field LEDGER_STATUS_STATE 2 (field JOURNAL_REGION_BASE 0x02100000 (field JOURNAL_REGION_SECTORS 3
    (field JOURNAL_REGION_SLOTS 2 (field JOURNAL_REGION_LOCK 1 (field LAMP_RECORDS_LAMP_BASE 8192 (field LAMP_RECORDS_LAMPS 3
      (field LAMP_RECORDS_LOCK 1 up))))))))).onM (fun m => { m with pins := { m.pins with flashSize := 2 ^ 26 } }))

/-- The journal's region valid and not; an image in the first slot; a pass that runs and none; a command on the last lamp and one
past it; a time and a number that is none; the calendar following and not. -/
theorem wit_LedgerAndCalendarCommands :
    (let m := up.m
     m.mayWrite 0 LEDGER_CTRL_addr = true ∧ bits (Word.of (2 ^ 71)) 71 70 = 2 ∧ m.on LEDGER_CTRL_ENABLE = false ∧
       m.on LEDGER_CTRL_JOURNAL_EN = false ∧ m.journalOk = false ∧ ledgered.m.journalOk = true) ∧
    (let s := (field LEDGER_STATUS_STATE 1 ledgered).onM (fun m => { m with journal := [(0x02100000, some ⟨9, 0, 3, 0, [], [1, 2, 3]⟩)] })
     s.m.g LEDGER_STATUS_STATE = 1 ∧ s.m.coreUp = true ∧ s.m.newestImage.isSome = true ∧ ∀ i, i < 3 →
       s.m.progLocked .ledger (s.m.lampRec i + 3) = false ∧ s.m.recordLocked .ledger (s.m.lampRec i + 3) = false ∧
         s.m.metaPool (s.m.lampRec i + 3) = none) ∧
    (ledgered.m.journalOn = true ∧ ledgered.m.coreUp = true ∧ ledgered.m.acctStop = false ∧ ledgered.m.pass = none) ∧
    (let s := ledgered.onM (fun m => { m with pass := some ⟨1, 1, 0⟩ })
     s.m.pass = some ⟨1, 1, 0⟩ ∧ s.m.passLate = false ∧ s.m.g POWER_STATUS_STATE = 1 ∧ s.m.halted = false) ∧
    (ledgered.m.mayWrite 0 LEDGER_CMD_addr = true ∧ ledgered.m.on LEDGER_STATUS_CMD_BUSY = false ∧ up.m.journalOn = false ∧
      (field LEDGER_STATUS_CMD_BUSY 1 ledgered).m.on LEDGER_STATUS_CMD_BUSY = true) ∧
    (bits (Word.of (at_ 69 45 2)) 69 45 + (bits (Word.of (at_ 69 45 2)) 44 20 + 1) ≤ ledgered.m.g LAMP_RECORDS_LAMPS ∧
      ¬ bits (Word.of (at_ 69 45 3)) 69 45 + (bits (Word.of (at_ 69 45 3)) 44 20 + 1) ≤ ledgered.m.g LAMP_RECORDS_LAMPS) ∧
    (let s := ledgered.onM (fun m => { m with ledgerCmd := some (2, 0, 3) }); s.m.coreUp = true ∧ s.m.ledgerCmd = some (2, 0, 3)) ∧
    (up.m.hostReady = true ∧ up.m.acctStop = false ∧ up.m.mayWrite 0 CAL_SET_addr = true ∧ timeOk (Word.of 999999999) = true ∧
      timeOk (Word.of 1000000000) = false) ∧
    (let s := field CAL_CTRL_FOLLOW 1 (field FAB_TIME_STATUS_STATE 1 up)
     s.m.on CAL_CTRL_FOLLOW = true ∧ s.m.timeSync = true ∧ (field CAL_CTRL_FOLLOW 0 up).m.on CAL_CTRL_FOLLOW = false) := by decide +kernel

/-! ### Witnesses: resets, power, faults and pins -/

/-- A boot that goes well. -/
def boot0 : BootInfo := ⟨0, 0, 0, [], [], 0, [], 0, 0, 0, 0, 0, 0, 0, false, [], 0, 100, 31, 4, 16⟩
/-- The pins of a powered device, changed. -/
def pinned (f : Pins → Pins) : State := up.onM (fun m => { m with pins := f { m.pins with trstN := true } })

/-- The pins at each level that the statement asks for; the key right and wrong; the host ready and not; a cluster that may sleep
and one that does; each power state; the journal on and off. -/
theorem wit_ResetAndPowerCommands :
    (State.reset.m.pins.pwrOk = false ∧ State.reset.m.pins.sysRstN = true ∧ State.reset.m.pins.testEn = false ∧ State.reset.m.pins.tapHold = false) ∧
    up.m.pins.pwrOk = true ∧ up.m.pins.sysRstN = true ∧ up.m.pins.testEn = false ∧ up.m.pins.tapHold = false ∧
    (let p := (pinned (fun p => { p with sysRstN := false })).m.pins; p.sysRstN = false ∧ p.pwrOk = true ∧ p.testEn = false ∧ p.tapHold = false) ∧
    (let p := (pinned (fun p => { p with testEn := true })).m.pins; p.testEn = true ∧ p.pwrOk = true ∧ p.sysRstN = true ∧ p.tapHold = false) ∧
    (let v := Word.of (2 ^ 71 + at_ 69 54 0x5A5A)
     let w := Word.of (2 ^ 70 + at_ 69 54 0x5A5A)
     up.m.mayWrite 0 RESET_CTRL_addr = true ∧ bits v 69 54 = 0x5A5A ∧ bits v 71 71 = 1 ∧ bits w 69 54 = 0x5A5A ∧ bits w 71 70 = 1 ∧
       up.m.g POWER_STATUS_STATE ≠ 3 ∧ bits (Word.of (2 ^ 71)) 69 54 ≠ 0x5A5A ∧ bits (Word.of (2 ^ 71)) 71 70 ≠ 0) ∧
    (up.m.held = false ∧ up.m.pins.perstN = true ∧ up.m.on RESET_CTRL_PERST_MODE = false ∧ up.m.hostReady = true) ∧
    (field RESET_CTRL_PERST_MODE 1 up).m.on RESET_CTRL_PERST_MODE = true ∧ (field DOLRY_SPACE_LOCK 1 up).m.on DOLRY_SPACE_LOCK = true ∧
    (let s := pinned (fun p => { p with perstN := false }); s.m.held = false ∧ s.m.hostReady = true ∧ s.m.pins.perstN = false) ∧
    (let s := field POWER_CTRL_SLEEP_EN 1 (field POWER_STATUS_CLUSTER_AWAKE 0x80 up)
     s.m.coreUp = true ∧ 7 < 8 ∧ Nat.testBit (s.m.g POWER_STATUS_CLUSTER_AWAKE) 7 = true ∧ s.m.maySleep 7 = true ∧
       (thr 511 (plain 7 3) s).m.maySleep 7 = false) ∧
    (field POWER_STATUS_STATE 0 up).m.g POWER_STATUS_STATE = 0 ∧ up.m.g POWER_STATUS_STATE = 1 ∧
    (ledgered.m.journalOn = true ∧ ledgered.m.halted = false ∧ ledgered.m.g POWER_STATUS_STATE = 1 ∧ up.m.journalOn = false) ∧
    up.m.pins.pwrfailN = true ∧
    (let s := ledgered.onM (fun m => { m with pins := { m.pins with pwrfailN := false } })
     s.m.pins.pwrfailN = false ∧ s.m.g POWER_STATUS_STATE = 1 ∧ s.m.halted = false ∧ s.m.journalOn = true) := by decide +kernel

/-- The last escalation entry free and in use; ACK of every entry and of one; HALT and none; a device that is halted; TRST_N at
both levels, with the TAP holding the device; each state of a clock. -/
theorem wit_FaultAndPinCommands : 15 < 16 ∧ 3 < 4 ∧ up.m.escAt 15 = none ∧
    (let x : Esc := ⟨1, 1, 2, 0, 511, 0, 0, 5⟩
     let s := (thr 511 (plain 7 3) up).onM (fun m => { m with esc := [(15, some x)] })
     s.m.escAt 15 = some x ∧ x.rung = 0 ∧ x.cls = 2 ∧ x.subj < 512 ∧ s.m.halted = false ∧ (s.m.th x.subj).st = .ready) ∧
    (up.m.mayWrite 0 FAULT_ACK_addr = true ∧ bits (Word.of (2 ^ 55)) 55 55 = 1 ∧ bits (0#72) 55 55 = 0 ∧ up.m.escWait = []) ∧
    (up.m.mayWrite 0 FAULT_CTRL_addr = true ∧ up.m.escMatch 0x3F 0 = none ∧ bits (0#72) 57 57 = 0 ∧ up.m.fnPulse = false) ∧
    (up.m.halted = false ∧ up.m.on BOOT_STATUS_BOOT_FAIL = false) ∧ (field FAULT_STATUS_STATE 1 up).m.halted = true ∧
    (let p := (pinned id).m.pins; p.trstN = true ∧ p.tapHold = false) ∧ up.m.pins.trstN = false ∧
    (let p := (pinned (fun p => { p with tapHold := true })).m.pins; p.tapHold = true ∧ p.pwrOk = true ∧ p.sysRstN = true ∧ p.testEn = false) ∧
    (up.m.held = false ∧ up.m.g (clkState 3) = 0 ∧ (field (clkState 3) 3 up).m.g (clkState 3) = 3 ∧ (field (clkState 3) 2 up).m.g (clkState 3) = 2) ∧
    (field (clkState 1) 1 up).m.g (clkState 1) = 1 ∧ (field CLK_STATUS_XTAL32 1 up).m.g CLK_STATUS_XTAL32 = 1 ∧
    (let p := (pinned (fun p => { p with mgmtMode := true })).m.pins; p.pwrOk = true ∧ p.mgmtMode = true) := by decide +kernel

/-! ### Witnesses: the codec gates and the engines -/

/-- The first word of buffer 0 of pool 0 in `rich`. -/
def base : Nat := 2 ^ 21
/-- Thread t at firmware privilege with registers; pool 0 enabled with four buffers of class 4, the first of them its own. -/
def rich (t : Nat) (w : List (Nat × Word)) : State :=
  thr t { firm 0 0 with w := w } (dramWord 0 (bufWord ⟨1, t, 0, 0⟩) (field (POOL_CFG_B_COUNT 0) 4 (field (POOL_CFG_A_BASE 0) base
    (field (POOL_CFG_A_CLASS 0) 4 (field (POOL_CFG_A_ENABLE 0) 1 up)))))
/-- The words of a list in DRAM from an address. -/
def words (a : Nat) : List Word → State → State
  | [], s => s
  | v :: r, s => words (a + 1) r (dramWord a v s)

/-- A decoder's config record: H.264, 4:2:0, 8 bit, 64 × 64, one reference, two slots. -/
def decCfg : List Word := [Word.of (at_ 71 64 1 + at_ 55 52 1 + at_ 51 48 8 + at_ 47 32 64 + at_ 31 16 64 + at_ 15 8 1),
  Word.of (at_ 71 36 base + at_ 35 0 (base + 16384)), Word.of (at_ 71 36 (base + 65536) + at_ 35 0 1000),
  Word.of (at_ 71 36 (base + 70000) + at_ 35 30 2)]
def dec0 : DecCtx := decRecord decCfg
/-- Nothing parsed, of nine bytes. -/
def unit0 : DecUnit := ⟨0, 9, 0, 0, false, false, 0, none, none, [], [], 0, 0, 1, 9 * base, 9, 40, 50, 60, 70, []⟩
def info0 : PicInfo := ⟨64, 64, 0, 0, 0, 0, 8, 0, 0, 0, 0, false, 0, 0, 0, [], true, true, false, none⟩
def pic0 : DecPic := { tag := 7, seq := 0, slot := 0, grain := none, ref := true, wait := true, info := info0 }
def seq0 : SeqInfo := ⟨0, 30, 1, 8, 8, 64, 64, 1, 1000, 16, false, 0⟩
/-- Channel 511 with a context and data of nine bytes. -/
def decoding (c : DecCtx) : State := (rich 511 [(2, Word.of (9 * base)), (3, 9)]).onM (fun m => m.setDec 511 (some c))
/-- Channel 511 with a context, W2 naming a picture. -/
def picked (c : DecCtx) : State := (rich 511 [(2, 7)]).onM (fun m => m.setDec 511 (some c))
/-- A region record of one member with no boundary. -/
def regCfg : List Word :=
  let l : List Word := [Word.of (at_ 71 64 1), Word.of (at_ 35 0 (base + 1000)), Word.of (at_ 71 36 (base + 4096) + at_ 35 0 4096),
    Word.of (at_ 71 36 (base + 8192) + at_ 35 0 8192), 0]
  l ++ [l.foldl (· + ·) 0]

/-- No context, and a record that is good and one that is not; each kind of unit; a full slot table; pictures reported, closed and
neither; output due and not; a context whose engines work; a region record that is good and one that is not. -/
theorem wit_DecodeGates_open : 511 < 512 ∧ (rich 511 []).m.gateRuns 511 = true ∧ (rich 511 []).m.dec 511 = none ∧
    (let s := words (base + 100) decCfg (rich 511 [(2, Word.of (base + 100))])
     s.owns 511 (base + 100) 4 = true ∧ s.anyPoison (base + 100) 4 = false ∧ (s.m.dec 511).isNone = true ∧ decRecordOk (s.drams (base + 100) 4) = true ∧
       s.decAreas 511 (decRecord (s.drams (base + 100) 4)) = true) ∧ (rich 511 []).owns 511 0 4 = false ∧
    (let s := decoding dec0
     s.m.dec 511 = some dec0 ∧ s.owns 511 (9 * base / 9) (max 1 (ceilDiv (9 * base % 9 + 9) 9)) = true ∧ dec0.hurt = [] ∧
       smem s.m.resync 511 = false ∧ dec0.gap = none ∧ unit0.damage = 0 ∧ dec0.discard = false ∧ unit0.what = 0 ∧ unit0.rap = false ∧
       dec0.unsupported = 0 ∧ unit0.pic = none ∧ unit0.params = [] ∧ dec0.seqItem seq0 = 0 ∧ dec0.exceeds seq0 = false ∧
       dec0.exceeds { seq0 with width := 80 } = true ∧ { dec0 with slots := 0 }.freeSlot [] = none ∧
       { dec0 with cur := some 7, pics := [pic0] }.cur.bind { dec0 with cur := some 7, pics := [pic0] }.pic = some pic0 ∧
       ∀ j, j < 4 → s.m.progLocked .device (dec0.workA + unit0.entOff % 32768 + j) = false ∧
         s.m.recordLocked .device (dec0.workA + unit0.entOff % 32768 + j) = false ∧ s.m.metaPool (dec0.workA + unit0.entOff % 32768 + j) = none) := by
  decide +kernel

theorem wit_DecodeGates_pictures :
    (let c := { dec0 with pics := [pic0] }; c.pic ((7#72).toNat) = some pic0 ∧ pic0.closed = false) ∧
    (let p := { pic0 with closed := true }; (picked { dec0 with pics := [p] }).m.hasWork 8 511 (tagIs 51 20 7) = false ∧ p.reported = false ∧
      p.closed = true ∧ dec0.due = [] ∧ dec0.hurt = []) ∧
    (decoding dec0).m.dueNow 511 dec0 = none ∧
    (let p := { pic0 with reported := true }
     let c := { dec0 with pics := [p], due := [7] }
     (picked c).m.dueNow 511 c = some p ∧ ∀ j, j < 7 → (picked c).m.progLocked .device (c.workA + 32760 + j) = false ∧
       (picked c).m.recordLocked .device (c.workA + 32760 + j) = false ∧ (picked c).m.metaPool (c.workA + 32760 + j) = none) ∧
    (let c := { dec0 with pics := [{ pic0 with out := true }] }; c.pics.any (fun p => p.tag == 7 && p.out) = true ∧
      dec0.pics.any (fun p => p.tag == 7 && p.out) = false) ∧
    (dec0.region = none ∧ (picked dec0).m.queueBusy 0 511 = false ∧ (picked dec0).m.queueBusy 1 511 = false ∧ (picked dec0).m.queueBusy 8 511 = false) ∧
    ((picked dec0).onM (fun m => m.setQueue 8 [⟨0, 511, 0, 0, [], 0, 0, 0⟩])).m.queueBusy 8 511 = true ∧
    (decoding dec0).owns 511 (9 * base / 9) 1 = true ∧
    (let s := (words (base + 200) regCfg (rich 511 [(2, Word.of (base + 200))])).onM (fun m => m.setDec 511 (some dec0))
     s.owns 511 (base + 200) 6 = true ∧ s.anyPoison (base + 200) 6 = false ∧ s.regionItem 511 (s.drams (base + 200) 6) = 0 ∧
       s.regionItem 511 (s.drams (base + 201) 6) = 1) := by decide +kernel

/-- An encoder's config and rate records: H.264 level 5.2, 4:2:0, 8 bit, 64 × 64, constant quality. -/
def encCfg : List Word := [Word.of (at_ 71 64 1 + at_ 55 52 1 + at_ 51 48 8 + at_ 47 32 64 + at_ 31 16 64 + at_ 15 8 52),
  Word.of (at_ 69 66 1 + at_ 65 62 1 + at_ 27 16 16 + at_ 15 6 8), 0, 0, Word.of (at_ 71 36 base + at_ 35 0 (base + 16384)),
  Word.of (at_ 71 36 (base + 70000) + at_ 35 30 2), Word.of (at_ 71 36 (base + 65536) + at_ 35 0 1000), Word.of (at_ 71 36 (base + 300))]
def rateCfg : List Word := [Word.of (at_ 71 64 1 + at_ 63 62 2 + at_ 59 36 30 + at_ 35 12 1), 0, Word.of (at_ 43 36 1),
  Word.of (at_ 65 60 51 + at_ 59 54 20 + at_ 53 48 20 + at_ 31 28 1), 0, 0]
/-- A source's descriptor. -/
def srcCfg : List Word := [Word.of (at_ 35 32 1 + at_ 31 28 8), 0, Word.of (at_ 71 56 64 + at_ 55 40 64), 0, 0]
def enc0 : EncCtx := { ws := encCfg, rate := rateCfg }
def encB : EncCtx := { enc0 with ws := enc0.ws.set 1 (Word.of (at_ 71 70 2 + at_ 69 66 2 + at_ 65 62 1)) }
def encR : EncCtx := { enc0 with ws := enc0.ws.set 2 (Word.of (2 ^ 56)) }
def eunit0 : EncUnit := ⟨0, 0, 4, 16, true, 100, 50, none, none⟩
def epic0 : EncPic := { tag := 7, ord := 0, slot := 0, ptype := 1, pts := 0, refs := [], unref := [], isRef := true, sweep := none, sweepStart := false, forced := false, payload := false, outA := base + 1000, outN := 2048, units := [eunit0], needSearch := false, needRate := false }
def plan0 : EncPlan := ⟨none, 1, [], [], 0, 100, 200, 300, 20, []⟩
/-- Channel 511 with an encoder context and registers; the two records and a source stand in its buffer. -/
def encoding (c : Option EncCtx) (w : List (Nat × Word)) : State :=
  (words (base + 100) encCfg (words (base + 300) rateCfg (words (base + 400) srcCfg (rich 511 w)))).onM (fun m => m.setEnc 511 c)

/-- No context; a record that is good where the level's picture size allows 64 × 64 (the tables of the standards are open), and one
that is not. -/
theorem wit_EncodeGates_open : 511 < 512 ∧ (encoding none []).m.gateRuns 511 = true ∧ (encoding none []).m.enc 511 = none ∧
    (let s := encoding none [(2, Word.of (base + 100))]
     s.owns 511 (base + 100) 8 = true ∧ s.anyPoison (base + 100) 8 = false ∧
       (⟨s.drams (base + 100) 8, s.drams (bits (nthWord (s.drams (base + 100) 8) 7) 71 36) 6, none, false, [], [], 0, 1, 0, 0, true, 0, 0, false, false, {}⟩ : EncCtx) = enc0) ∧
    (encoding none []).encItem 511 { enc0 with ws := [] } = 1 := by decide +kernel

theorem wit_EncodeGates_record (h : 4096 ≤ Config.levelPicture 0 52) :
    (encoding none []).encItem 511 enc0 = 0 := by
  have h1 : enc0.profileBad = false := by decide +kernel
  have h2 : enc0.levelBad = false := by
    have e : enc0.levelBad = (decide (52 < 52) || decide (Config.levelPicture 0 52 < 4096)) := by
      have a : enc0.std = 0 := by decide +kernel
      have b : enc0.level = 52 := by decide +kernel
      have c : enc0.width * enc0.height = 4096 := by decide +kernel
      simp [EncCtx.levelBad, a, b, c]
    rw [e]; simp; omega
  have h3 : enc0.chromaBad = false := by decide +kernel
  have h4 : enc0.depthBad = false := by decide +kernel
  have h5 : enc0.sizeBad = false := by decide +kernel
  have h6 : (encoding none []).rateBad 511 ((encoding none []).m.isLive 511) enc0 = false := by decide +kernel
  have h7 : enc0.gopBad ((encoding none []).m.isLive 511) = false := by decide +kernel
  have h8 : enc0.searchBad = false := by decide +kernel
  have h9 : enc0.refreshBad = false := by decide +kernel
  have hA : enc0.regionBad = false := by decide +kernel
  have hB : (encoding none []).encAreas 511 enc0 = true := by decide +kernel
  simp [State.encItem, h1, h2, h3, h4, h5, h6, h7, h8, h9, hA, hB]

/-- An output buffer too small and the smallest; no free slot and one; both kinds of GOP; units given and not, completed and not;
a picture whose reconstruction is done; a sweep asked for with and without the columns; a context whose engines work. -/
theorem wit_EncodeGates_pictures :
    (let s := encoding (some enc0) [(2, Word.of (base + 400)), (4, Word.of (base + 1000)), (5, 2048)]
     s.m.enc 511 = some enc0 ∧ 2048 ≤ ((s.m.th 511).rw 5).toNat ∧ s.owns 511 (base + 1000) 2048 = true ∧
       ((s.m.th 511).rw 2).toNat % 2 ^ 36 ≠ 0 ∧ s.sourceOk 511 enc0 (((s.m.th 511).rw 2).toNat % 2 ^ 36) = true ∧
       enc0.freeSlot = some 0 ∧ (enc0.pics.filter (·.live)).length < 4 ∧ enc0.gopMode ≠ 2 ∧ enc0.held = []) ∧
    (2047#72).toNat < 2048 ∧ (encB.freeSlot = some 0 ∧ encB.gopMode = 2 ∧ plan0.code = none) ∧
    { enc0 with pics := [epic0, { epic0 with slot := 1 }] }.freeSlot = none ∧
    (let c := { enc0 with pics := [epic0] }
     let s := encoding (some c) [(2, 7)]
     c.pic ((s.m.th 511).rw 2).toNat = some epic0 ∧ epic0.units[epic0.given]? = some eunit0 ∧ eunit0.done = none ∧ epic0.reconDone = false ∧
       epic0.units[((s.m.th 511).rw 3).toNat]? = some eunit0 ∧ { epic0 with given := 1 }.units[1]? = none ∧
       ∀ j, j < 3 → s.m.progLocked .device (c.workA + 32765 + j) = false ∧ s.m.recordLocked .device (c.workA + 32765 + j) = false ∧
         s.m.metaPool (c.workA + 32765 + j) = none) ∧
    (let u := { eunit0 with done := some (40, 0) }
     u.done.isSome = true ∧ u.lastOfGroup = true ∧ { u with lastOfGroup := false }.lastOfGroup = false ∧
       { epic0 with units := [u], reconDone := true }.reconDone = true ∧ [u].all (fun u => u.done.isSome) = true) ∧
    (bits (1#72) 0 0 = 1 ∧ ¬ bits (2#72) 0 0 = 1 ∧ enc0.refresh = false ∧ encR.refresh = true) ∧
    ([2, 3, 9, 0x10, 0x18].any (fun q => (encoding (some enc0) []).m.queueBusy q 511) = false ∧
      [2, 3, 9, 0x10, 0x18].any (fun q => ((encoding (some enc0) []).onM (fun m => m.setQueue 0x18 [⟨0, 511, 0, 0, [], 0, 0, 0⟩])).m.queueBusy q 511) = true) := by
  decide +kernel

/-- A ticket that is outstanding. -/
def tick : Ticket := ⟨9, none⟩
/-- An entry of channel 511 with a block. -/
def entryOf (b : List Word) : QEntry := ⟨9, 511, 0, 0, b, 0, 4, 0⟩
/-- Channel 511 has the ticket, and runs the entry under a key from a queue, with a context of each kind. -/
def working (key : Nat) (r : Run) (d : Option DecCtx) (c : Option EncCtx) : State :=
  (thr 511 { firm 0 0 with tickets := [tick] } (encoding c [])).onM (fun m => ((m.setRun key (some r)).setDec 511 d))
/-- A block of twelve rows with 100 bytes in the channel's buffer, and of none. -/
def entBlock (rows : Nat) : List Word := [Word.of rows, Word.of (at_ 71 36 (base + 2000) + at_ 31 0 100), 0, Word.of (at_ 35 0 1)]
/-- A reconstruction or search block of picture 7, its picture's slot at the start of the buffer. -/
def recBlock : List Word := [Word.of (at_ 51 20 7), Word.of (at_ 71 36 base), Word.of (at_ 71 36 (base + 10000)), 0]
/-- A rate block of picture 7, its source in the buffer. -/
def rateBlock : List Word := [Word.of (at_ 59 28 7), Word.of (at_ 71 36 base + at_ 35 24 8), Word.of (at_ 71 36 (base + 20000)), 0]
def run0 (q : Nat) (b : List Word) (rows : Nat) : Run := { e := entryOf b, queue := q, rows := rows }
def decP (p : DecPic) : DecCtx := { dec0 with pics := [p], cur := some 7 }
def encP : EncCtx := { enc0 with pics := [epic0] }

/-- RC_SET with no context, with a record that is good and one that is not; the last rate accelerator and search engine free, with
one command waiting. -/
theorem wit_EngineEvents_start :
    (let s := encoding (some enc0) [(2, Word.of (base + 300))]
     let d : EncCtx := { enc0 with rate := s.drams (base + 300) 6 }
     s.m.coreUp = true ∧ s.m.gateRuns 511 = true ∧ (encoding none []).m.enc 511 = none ∧ s.m.enc 511 = some enc0 ∧
       bits (s.m.gateIn 511 2) 35 0 = base + 300 ∧ s.owns 511 (base + 300) 6 = true ∧ s.anyPoison (base + 300) 6 = false ∧
       s.rateBad 511 (s.m.isLive 511) d = false ∧ d.mode = enc0.mode ∧ d.hrd = enc0.hrd ∧ s.owns 511 300 6 = false) ∧
    (let x : QEntry := { entryOf [] with t := 512 }
     let s := up.onM (fun m => m.setQueue 0x18 [x])
     (s.m.run (192 + 3)).isSome = false ∧ s.m.queue 0x18 = [x] ∧ s.m.orderedOk x = true ∧ 512 ≤ x.t ∧
       s.m.hasWork 0x10 x.t (fun w => encTag 0x10 w == some (bits (nthWord x.block 0) 59 28)) = false) ∧
    (let x : QEntry := { entryOf [] with t := 512 }
     let s := up.onM (fun m => m.setQueue 0x10 [x])
     s.m.seg (128 + 3) = 0 ∧ s.m.running = [] ∧ s.m.queue 0x10 = [x] ∧ s.m.orderedOk x = true ∧ s.searchBounds x = true ∧ x.order ∈ [4]) ∧
    up.m.pickWork 0 [entryOf []] = some (entryOf []) ∧
    (let s := field (CHAN_STATUS_ADMITTED 511) 1 (field (CHAN_CTRL_CLASS 511) 0 up)
     511 < 512 ∧ s.m.on (CHAN_STATUS_ADMITTED 511) = true ∧ s.m.isLive 511 = true) := by decide +kernel

/-- The last entropy engine in its last row and past it, decoding and encoding, with its slots and without; each end of its unit. -/
theorem wit_EngineEvents_entropy :
    (let r := run0 2 (entBlock 12) 11
     let s := working 23 r none (some encP)
     s.m.run 23 = some r ∧ r.rows < bits (nthWord r.e.block 0) 11 0 ∧ 2 ≤ r.queue ∧ r.abandon = false) ∧
    (let r : Run := { run0 1 (entBlock 12) 11 with n2 := 1 }
     r.queue ≤ 1 ∧ r.n2 ≠ 0 ∧ r.rows < 12 ∧ bits (nthWord r.e.block 3) 35 0 < [1#72, 2#72].length) ∧
    (let r := run0 1 (entBlock 12) 12
     let s := working 23 r (some (decP pic0)) none
     s.m.run 23 = some r ∧ r.queue ≤ 1 ∧ r.n2 = 0 ∧ (field DEC_STAGE_CTRL_BANKS 0 s).m.stageFree r.queue = none ∧ r.rows = bits (nthWord r.e.block 0) 11 0 ∧
       s.m.on (CHAN_STATUS_CMD_BUSY 511) = false ∧ s.m.swapOf 511 = none ∧ (run0 1 (entBlock 12) 11).rows ≠ 12) ∧
    (let r := run0 3 (entBlock 12) 12
     2 ≤ r.queue ∧ decide (bits (nthWord r.e.block 1) 31 0 < (List.replicate 101 0#8).length) = true ∧
       decide (bits (nthWord r.e.block 1) 31 0 < (List.replicate 100 0#8).length) = false) := by decide +kernel

/-- The last pipe idle, on work that is gone, on a decoded row and on an encoded one; the end of a picture, by its last row and by its
time limit; the end of an encoded picture; a search band, the last one and one before; the last rate accelerator with the context
of its channel and without. -/
theorem wit_EngineEvents_pictures :
    (up.m.seg (64 + 7) = 0 ∧ (let s := up.onM (fun m => m.setSeg 71 5); s.m.seg 71 ≠ 0 ∧ s.m.run (workKey (s.m.seg 71 - 1)) = none)) ∧
    (let r := run0 9 recBlock 0
     let s := (working (workKey 4) r none (some encP)).onM (fun m => m.setSeg 71 5)
     s.m.run (workKey (s.m.seg 71 - 1)) = some r ∧ r.abandon = false ∧ r.queue = 9) ∧
    (let r := run0 8 recBlock 4
     let s := (working (workKey 4) r (some (decP pic0)) none).onM (fun m => m.setSeg 71 5)
     s.m.run (workKey (s.m.seg 71 - 1)) = some r ∧ r.queue = 8 ∧ s.pipeMayWrite r base = true ∧ s.m.progLocked .device base = false ∧
       s.m.recordLocked .device base = false ∧ s.m.metaPool base = none) ∧
    (let r := run0 8 recBlock 4
     let s := working (workKey 4) r (some (decP pic0)) none
     s.m.findRun 8 511 (tagIs 51 20 7) = some (workKey 4, r) ∧ r.n3 = 0 ∧ (decP pic0).region = none ∧ s.m.segsOf r.e.order = 0 ∧
       s.m.mayClose 511 7 r.rows = true ∧ s.m.mayClose 511 7 0 = false ∧ (s.m.dec 511).bind (fun c => c.pic 7) = some pic0) ∧
    (let r := run0 9 recBlock 4
     let s := working (workKey 4) r none (some encP)
     s.m.findRun 9 511 (tagIs 51 20 7) = some (workKey 4, r) ∧ s.m.segsOf r.e.order = 0 ∧ encP.rows ≤ r.rows) ∧
    (let r := run0 0x10 recBlock 1
     let s := (working (workKey 4) r none none).onM (fun m => m.setSeg 131 5)
     s.m.seg (128 + 3) ≠ 0 ∧ s.m.run (workKey 4) = some r ∧ r.queue = 0x10 ∧ r.e.t = 511 ∧
       (working (workKey 4) r none none).m.segsOf 4 = 0 ∧ r.rows < geomBands (s.searchGeom r.e ⟨64, 128, 0, 8, false⟩) ∧
       geomBands (s.searchGeom r.e ⟨64, 64, 0, 8, false⟩) ≤ r.rows) ∧
    (let r := run0 0x18 rateBlock 0
     let s := working 195 r none (some encP)
     s.m.run (192 + 3) = some r ∧ r.abandon = false ∧ r.e.t < 512 ∧ s.m.enc r.e.t = some encP ∧
       encP.pic (bits (nthWord r.e.block 0) 59 28) = some epic0 ∧ (working 195 r none none).m.enc r.e.t = none) := by decide +kernel

/-! ### Witnesses: capture, scaler-rotators and seams -/

/-- Source 7 with a 64 × 64 picture of 8 bits, 4:2:0, and one slot in channel 511's buffer; its two FIFOs are the channel's. -/
def camera : State :=
  field (CAP_LINK_DT 7) 0x18 (field (FIFO_CTRL_ENABLE 62) 1 (field (FIFO_CTRL_WRITER 62) 511 (field (FIFO_CTRL_WRITER_VALID 62) 1 (field (FIFO_CTRL_ENABLE 63) 1 (field (FIFO_CTRL_WRITER 63) 511
    (field (FIFO_CTRL_WRITER_VALID 63) 1 (field (SRC_CTRL_EVENT_FIFO 7) 63 (field (SRC_CTRL_RETURN_FIFO 7) 62 (field (SRC_RING_SLOTS 7) 1 (field (SRC_RING_RING_ADDR 7) (base + 500)
      (field (SRC_FORMAT_DEPTH 7) 8 (field (SRC_FORMAT_CHROMA 7) 1 (field (SRC_FORMAT_HEIGHT 7) 64 (field (SRC_FORMAT_WIDTH 7) 64
        (dramWord (base + 500) (Word.of (at_ 71 36 (base + 1000) + at_ 35 0 (base + 600))) (rich 511 []))))))))))))))))
/-- The write that enables it. -/
def camOn : Word := Word.of (2 ^ 71 + at_ 70 62 511 + at_ 60 55 63 + at_ 51 46 62)
/-- It takes packets of virtual channel 0 and its data type. -/
def camRun : State := field (SRC_CTRL_FRAME_TIMEOUT 7) 40 (field (CAP_LINK_LINE_NUMBERS 7) 1 (field (CAP_LINK_VC 7) 0 (field (SRC_STATUS_STATE 7) 3 (field (SRC_CTRL_ENABLE 7) 1 camera))))
def frame0 : CapFrame := { slot := 0, serial := 3, capture := 10, began := 20, unlocked := false }
def inFrame (f : CapFrame) : State := camRun.onM (fun m => m.setSource 7 { slots := [(0, 1)], frame := some f })
def flow0 : FlowPacket := ⟨15, 1000, 100, 1, 2, 5004, 96, 7, 90, false, []⟩
/-- Flow 15 on uplink port 15 with the same picture, and its slot. -/
def flowRun : State :=
  field (UPLINK_STATUS_STATE 15) 2 (field (FLOW_LINK_UPLINK 15) 3 (field (UPLINK_CTRL_SPLIT 3) 1 (field (FLOW_LINK_SUBPORT 15) 3 (field (FLOW_DST_HI_ADDR 15) 1 (field (FLOW_DST_LO_ADDR 15) 2
    (field (FLOW_LINK_UDP_PORT 15) 5004 (field (FLOW_LINK_PT 15) 96 (field (SRC_CTRL_ENABLE 23) 1 (field (SRC_RING_SLOTS 23) 1 (field (SRC_RING_RING_ADDR 23) (base + 500)
      (field (SRC_FORMAT_DEPTH 23) 8 (field (SRC_FORMAT_CHROMA 23) 1 (field (SRC_FORMAT_HEIGHT 23) 64 (field (SRC_FORMAT_WIDTH 23) 64 camera))))))))))))))

/-- The last port on and off, its record good and not; between frames with a free slot, with none and with a frame passed over; in a
frame before its last row and past it, with its line numbers; a frame kept and one not; the last flow; slots held and not. -/
theorem wit_CaptureCommands_ports : 7 < 24 ∧ 23 < 24 ∧
    (camera.m.mayWrite 0 (SRC_CTRL_addr 7) = true ∧ camRun.m.on (SRC_CTRL_ENABLE 7) = true ∧ bits camOn 71 71 = 1 ∧ bits (0#72) 71 71 = 0 ∧
      camera.m.on (SRC_CTRL_ENABLE 7) = false ∧ (camera.onM (fun m => (m.commit (SRC_CTRL_addr 7) camOn).p (SRC_CTRL_ENABLE 7) 0)).srcCheck 7 = 0 ∧
      (up.onM (fun m => (m.commit (SRC_CTRL_addr 7) camOn).p (SRC_CTRL_ENABLE 7) 0)).srcCheck 7 = 1) ∧
    (camRun.m.portTakes 7 0 = true ∧ (camRun.m.source 7).frame = none ∧ camRun.m.freeSlot 7 = some 0 ∧ (camRun.m.source 7).skip = none ∧
      (field (SRC_RING_SLOTS 7) 0 camRun).m.freeSlot 7 = none ∧ 6 ≠ camRun.m.g (CAP_LINK_DT 7) ∧
      ((camRun.onM (fun m => m.setSource 7 { skip := some 0 })).m.source 7).skip.isSome = true) ∧
    ((inFrame frame0).m.portTakes 7 0 = true ∧ ((inFrame frame0).m.source 7).frame = some frame0 ∧ ((inFrame frame0).srcPic 7 frame0.slot).h = 64 ∧
      frame0.next < 64 ∧ [5, 6] ≠ ([] : List Nat) ∧ 64 ≤ { frame0 with next := 64 }.next ∧ camRun.m.on (CAP_LINK_LINE_NUMBERS 7) = true ∧
      1 - 1 ≤ frame0.next ∧ frame0.next < 2 - 1 ∧ 2 * { frame0 with last := 31 }.last < 64 ∧ 64 ≤ 2 * { frame0 with last := 32 }.last ∧
      2 * { frame0 with lost := 32 }.lost ≤ 64 ∧ 64 < 2 * { frame0 with lost := 33 }.lost) := by decide +kernel

theorem wit_CaptureCommands_flows :
    (15 < 16 ∧ flow0.q < 16 ∧ flowRun.m.uplinkUp flow0.q = true ∧ (flowRun.m.police flow0.q flow0.dstPort flow0.ipLen).2 = true ∧
      flowRun.m.flowTakes 15 flow0 = true ∧ (flowRun.m.source (8 + 15)).skip ≠ some flow0.rts ∧ (flowRun.m.source (8 + 15)).frame = none ∧
      flow0.marker = false ∧ flow0.rows = [] ∧ flowRun.m.freeSlot (8 + 15) = some 0 ∧
      ((flowRun.onM (fun m => m.setSource 23 { skip := some 90 })).m.source (8 + 15)).skip = some flow0.rts) ∧
    (7 < 8 ∧ camera.m.on (SRC_CTRL_ENABLE 7) = false ∧ (field (SRC_STATUS_STATE 7) 1 (field CLK_STATUS_CAP 1 up)).m.g (SRC_STATUS_STATE 7) = 1 ∧
      (field (SRC_STATUS_STATE 7) 1 (field CLK_STATUS_CAP 1 up)).m.g CLK_STATUS_CAP = 1) ∧
    (let s := camRun.onM (fun m => (m.setSource 7 { slots := [(0, 2)], newest := some 0 }).setFifo 62 { items := [(0, [Word.of (at_ 67 63 7)])] })
     s.m.on (SRC_CTRL_ENABLE 7) = true ∧ (s.m.fifoPop (s.m.g (SRC_CTRL_RETURN_FIFO 7))).2 = some (Word.of (at_ 67 63 7)) ∧
       bits (Word.of (at_ 67 63 7)) 67 63 = 7 ∧ (s.m.source 7).slot (bits (Word.of (at_ 67 63 7)) 62 59) = 2 ∧
       bits (Word.of (at_ 67 63 6)) 67 63 ≠ 7) := by decide +kernel

/-- A SCALE block of 16 × 4 samples, from a descriptor at 3000 to one at 3100 of the buffer. -/
def scaleBlock : List Word := [Word.of (at_ 48 45 8), Word.of (at_ 71 36 (base + 3000) + at_ 35 0 (base + 3100)), Word.of (at_ 39 24 16 + at_ 23 8 4),
  Word.of (at_ 71 36 (base + 3200) + at_ 35 24 8), Word.of (at_ 71 56 16 + at_ 55 40 4)]
/-- Members 10 and 20 beside each other, margins of eight; this device is 10. -/
def region0 : Region := { group := 5, colB := [32], rowB := [], members := [10, 20], myCol := 0, myRow := 0, marginH := 8, marginV := 8, fetchOn := true, inboxA := base + 4096, inboxN := 4096, fetchA := base + 8192, fetchN := 8192 }
def rpic : DecPic := { pic0 with info := { info0 with key := 77, hint := 3 } }
def regDec (p : DecPic) (g : Region) : DecCtx := { decP p with region := some g, seq := some seq0 }
def regional (c : DecCtx) : State := field FAB_IDENT_IDENT 10 (picked c)
/-- A seam message from member 20 for picture 77, of a column of the band and of one outside it. -/
def msg (kind key x : Nat) : List Word := seamMsg kind 5 20 10 0 0 key 3 1 true false x 0 1 1 [0]
def fetch0 : Fetch := ⟨1, 20, 0, (32, 0, 33, 1), 0, 5, 0, 0⟩

/-- The last scaler-rotator idle, on work that is gone and on a band; a SCALE with rows left and at its end. -/
theorem wit_ScalerAndSeamEvents_scaler :
    (up.m.coreUp = true ∧ 3 < 4 ∧ up.m.seg (256 + 3) = 0) ∧
    (let s := up.onM (fun m => m.setSeg 259 5); s.m.seg (256 + 3) ≠ 0 ∧ s.m.run (workKey (s.m.seg (256 + 3) - 1)) = none) ∧
    (let r := run0 0x20 scaleBlock 0
     let s := (working (workKey 4) r none none).onM (fun m => m.setSeg 259 5)
     s.m.run (workKey (s.m.seg (256 + 3) - 1)) = some r ∧ r.abandon = false) ∧
    (let r := run0 0x20 scaleBlock 4
     let s := working (workKey 4) r none none
     s.m.run (workKey 4) = some r ∧ r.queue = 0x20 ∧ r.e.t = 511 ∧ s.m.segsOf 4 = 0 ∧ (s.scaleJob 511 r.e.block).out.h ≤ r.rows ∧
       (run0 0x20 scaleBlock 3).rows < (s.scaleJob 511 r.e.block).out.h ∧
       ∀ i, i < 7 → s.m.progLocked .device (base + 3100 + i) = false ∧ s.m.recordLocked .device (base + 3100 + i) = false ∧
         s.m.metaPool (base + 3100 + i) = none) := by decide +kernel

/-- Each kind of message, with its kind and not, to a group of this device and to none, from a member and from none; for a picture that
has begun and one that has not; in the band and outside it, settled before and not; a fetch that is open and none; the waits; a
member that has departed and one that has not; a SEAM that is over and one that is not. -/
theorem wit_ScalerAndSeamEvents_seams :
    (let c := regDec rpic region0
     let s := regional c
     let w0 := nthWord (msg 1 77 32) 0
     let w1 := nthWord (msg 1 77 32) 1
     1 ≤ 1 ∧ 7 ≤ 7 ∧ (∀ k, k < 8 → bits (nthWord (msg k 77 32) 0) 71 68 = k) ∧ s.m.groupChan (bits w0 67 52) = some 511 ∧ up.m.groupChan 5 = none ∧
       s.m.dec 511 = some c ∧ c.region = some region0 ∧ bits w0 33 16 = s.m.ident ∧ region0.placeOf (bits w0 51 34) = some 1 ∧
       region0.placeOf 30 = none ∧ c.keyed (bits w1 71 40) (bits w1 39 24) = some rpic ∧ c.keyed 78 3 = none ∧ region0.inbox = [] ∧
       (msg 1 77 32).length ≤ region0.inboxN ∧
       (smem (c.seamCodes rpic) 0 && rectHas (c.seamBand region0 rpic 1 region0.me 0) (msgRect (msg 1 77 32)) && rectSome (msgRect (msg 1 77 32))) = true ∧
       (smem (c.seamCodes rpic) 0 && rectHas (c.seamBand region0 rpic 1 region0.me 0) (msgRect (msg 1 77 41)) && rectSome (msgRect (msg 1 77 41))) = false ∧
       rpic.touched 1 0 (msgRect (msg 1 77 32)) = false ∧ { rpic with settled := [(1, 0, 32, 0, 33, 1)] }.touched 1 0 (msgRect (msg 1 77 32)) = true ∧
       region0.fetches.find? (fun f => f.id == bits w1 15 0 && f.owner == 20) = none ∧
       { region0 with fetches := [fetch0] }.fetches.find? (fun f => f.id == bits w1 15 0 && f.owner == 20) = some fetch0 ∧ bits w1 23 23 = 1) ∧
    (511 < 512 ∧ rpic.closed = false ∧ { rpic with closed := true }.closed = true ∧
      { region0 with fetches := [fetch0] }.fetches.find? (fun f => f.id == 1) = some fetch0) ∧
    (smem up.m.fab.departed 20 = false ∧ 20 ≠ (regional dec0).m.ident) ∧
    (let r := run0 0x30 [Word.of (at_ 59 28 7)] 0
     let s := working (workKey 4) r (some (regDec rpic region0)) none
     s.m.findRun 0x30 511 (tagIs 59 28 7) = some (workKey 4, r) ∧ s.m.seamOver 511 7 r = false ∧ (working (workKey 4) r none none).m.seamOver 511 7 r = true ∧
       s.m.findRun 8 511 (tagIs 51 20 7) = none) := by decide +kernel

/-! ### Witnesses: composition, the lamp ports, drives, gates, uplinks, links and epochs -/

/-- Bank 1 of the compositor: map 1 with one panel of 4 × 4 lamps; 32 lamps, their records at 8192. -/
def mapped : State :=
  let s := field (VAULT_OWNER_OWNER 1) 0x600 (field (LAMP_MAP_FIRST_BANK 1) 1 (field (LAMP_MAP_BANKS 1) 1 (field (LAMP_MAP_PANELS 1) 1
    (field LAMP_RECORDS_LAMPS 32 (field LAMP_RECORDS_LAMP_BASE 8192 (up.onM (fun m => { m with mapCheck := some 1 })))))))
  { s with mem := (s.mem.putVault 32768 (Word.of (at_ 39 30 4 + at_ 29 20 4 + at_ 15 10 63 + at_ 9 0 5)) false).putVault 32769 (Word.of (at_ 71 47 16)) false }
/-- A calibration list of one SET of the USER word of the last lamp, at 16384. -/
def calibrating : State :=
  dramWord (8192 + 124) (Word.of 0x1234) (dramWord 16384 (Word.of (at_ 71 47 31)) (dramWord 16385 (Word.of 0x4321) (mapped.onM (fun m => { m with calRun := some (16384, 1) }))))
/-- A command of one entry at 16384. -/
def calVal : Word := Word.of (at_ 71 36 16384 + at_ 35 12 1)

/-- A write held, released, and of a map that is active and one that is not; a register that is none; HOLD released over one record;
a map that passes and one that fails; a command of no entries, one taken and one dropped; a list that ends, one with a bad entry and one of
a single record; no core and a core. -/
theorem wit_CompositionCommands :
    (configReg (LAYER_CTRL_addr 255) = true ∧ assigned (LAYER_CTRL_addr 255) = true ∧ up.m.mayWrite 0 (LAYER_CTRL_addr 255) = true ∧
      configReg COMP_CTRL_addr = true ∧ assigned COMP_CTRL_addr = true ∧ up.m.mayWrite 0 COMP_CTRL_addr = true ∧
      ((field COMP_CTRL_HOLD_CONFIG 1 up).m.commit (LAYER_CTRL_addr 255) 0).on COMP_CTRL_HOLD_CONFIG = true ∧
      (up.m.commit (LAYER_CTRL_addr 255) 0).on COMP_CTRL_HOLD_CONFIG = false ∧ LAYER_CTRL_addr 255 ≠ COMP_CTRL_addr ∧
      (let next := up.m.commit COMP_CTRL_addr (Word.of (2 ^ 69))
       next.on COMP_CTRL_HOLD_CONFIG = false ∧ bits (next.rd COMP_CTRL_addr) 69 69 = 1 ∧ bits (up.m.rd COMP_CTRL_addr) 69 69 = 0 ∧
         1 ≠ up.m.g COMP_STATUS_ACTIVE_MAP ∧ 1 = (field COMP_STATUS_ACTIVE_MAP 1 up).m.g COMP_STATUS_ACTIVE_MAP) ∧
      configReg COMP_STATUS_addr = false ∧ assigned 0x062000 = false ∧
      (up.onM (fun m => { m with cfgRec := [(COLOUR_CTRL_addr, 5)] })).m.cfgRec = [(COLOUR_CTRL_addr, 5)] ∧ COLOUR_CTRL_addr ≠ COMP_CTRL_addr) ∧
    (up.m.mapCheck = none ∧ mapped.m.mapCheck = some 1 ∧ mapped.mapFail 1 = none ∧ (field LAMP_RECORDS_LAMPS 31 mapped).mapFail 1 = some 0 ∧
      (field (LAMP_MAP_PANELS 1) 16385 mapped).mapFail 1 = some 0xFFFF) ∧
    (up.m.mayWrite 0 CAL_CMD_addr = true ∧ bits (0#72) 35 12 = 0 ∧ bits calVal 35 12 ≠ 0 ∧ (field CAL_STATUS_BUSY 1 up).m.on CAL_STATUS_BUSY = true ∧
      up.m.on CAL_STATUS_BUSY = false ∧ up.m.calRun = none) ∧
    (calibrating.m.calRun = some (16384, 1) ∧ 0 < 1 ∧ calibrating.calEntryOk 16384 = true ∧ bits (calibrating.dram 16384) 46 22 = 0 ∧
      bits (calibrating.dram 16384) 21 20 = 0 ∧ (field LAMP_RECORDS_LAMPS 31 calibrating).calEntryOk 16384 = false ∧
      ∀ j, j < 3 → Unguarded calibrating .updater (8192 + 124 + j)) ∧
    (({} : Dev).coreUp = false ∧ up.m.coreUp = true) := by
  refine ⟨by decide +kernel, by decide +kernel, by decide +kernel, ⟨?_, ?_, ?_, ?_, ?_, ?_, fun j h => ⟨?_, ?_, ?_⟩⟩, by decide +kernel⟩
  all_goals first
    | decide +kernel
    | (revert j; decide +kernel)

/-- Port 63 up, at rate 0, with card 5 of 20 × 20 lamps READY at version 2, its panel of the same size, and frames that wait. -/
def lamps (x : LPort) : State :=
  (field COMP_STATUS_ACTIVE_MAP 1 (field (PORT_CTRL_ENABLE 63) 1 (field (PORT_STATUS_STATE 63) 2 (mapped.setCard 63 5
    { st := 1, ver := 2, w := 4, h := 4, factory := true, serial := 77, crc := 9, seen := true, missed := 3 })))).onM (fun m => m.setLport 63 x)
/-- A frame of card 5. -/
def cardFrame (version first count : Nat) (body : List Nat) : CardFrame := ⟨true, true, version, 5, first, count, body⟩
/-- A HELLO's body: both versions, 4 × 4 lamps. -/
def helloBody : List Nat := [3, 0, 0, 4, 0, 4, 0, 1, 0, 0, 0, 9, 1, 0, 0, 0, 0, 0, 0, 0, 77]
def aLive : LRef := ⟨5, 0, 0, 16, 1⟩
def aLow : LFrame := allFrame 0x00 0 0 []
/-- An upload from card 5 in progress, the card of 20 × 20 lamps. -/
def uploading (u : Upload) : State :=
  ((lamps {}).setCard 63 5 { st := 1, ver := 2, w := 20, h := 20, factory := true }).onM (fun m => { m with upload := some u })

/-- The last port: enabled, disabled and blanked; coming up at its rate, at AUTO and at another; down; each queue at the front and all
empty, halted and not; no upload, and one of another port. -/
theorem wit_LampPortCommands_port :
    63 < 64 ∧
    (up.m.mayWrite 0 (PORT_CTRL_addr 63) = true ∧ up.m.on (PORT_CTRL_ENABLE 63) = false ∧ bits (Word.of (2 ^ 71)) 71 71 = 1 ∧
      (lamps {}).m.on (PORT_CTRL_ENABLE 63) = true ∧ bits (0#72) 71 71 = 0 ∧ (lamps {}).m.portUp 63 = true ∧
      (lamps {}).m.mayWrite 0 (PORT_CTRL_addr 63) = true) ∧
    (let s := field (PORT_STATUS_STATE 63) 1 up
     s.m.g (PORT_STATUS_STATE 63) = 1 ∧ s.m.g (PORT_CTRL_RATE 63) = 0 ∧ 2 ≤ 2 ∧ (field (PORT_CTRL_RATE 63) 3 s).m.g (PORT_CTRL_RATE 63) = 3 ∧
      s.m.g (PORT_CTRL_RATE 63) ≠ 1) ∧
    (up.m.portUp 63 = false ∧ up.m.g (PORT_STATUS_STATE 63) ≠ 1) ∧
    ((lamps {}).m.upload = none ∧ (lamps { urgent := [aLow] }).m.lport 63 = { urgent := [aLow] } ∧
      (lamps { live := [aLive] }).m.lport 63 = { live := [aLive] } ∧ (lamps { data := [aLive] }).m.lport 63 = { data := [aLive] } ∧
      (lamps { low := [aLow] }).m.lport 63 = { low := [aLow] } ∧ (lamps {}).m.halted = false ∧
      (field FAULT_STATUS_STATE 1 (lamps {})).m.halted = true ∧ (lamps {}).m.portUp 63 = true ∧
      ((lamps {}).m.card 63 5).st ≠ 0 ∧ 3 ≤ ((lamps {}).m.card 63 5).missed) := by decide +kernel

/-- A frame with a bad FCS, an unsound one and a good one of each kind; an upload of this card, of another card, of a place that is not asked
and of one that is; a card that may be uploaded and one that may not; the third failure and an earlier one; the queue full and not. -/
theorem wit_LampPortCommands_cards :
    (let s := lamps {}
     s.m.portUp 63 = true ∧ helloOk (cardFrame 1 0 0 helloBody) = true ∧ helloOk (cardFrame 2 0 0 helloBody) = false ∧ s.panelOf 63 5 ≠ none ∧
       s.panelOf 63 6 = none ∧ (s.m.card 63 5).ver = 2 ∧ [0, 40, 0, 0, 3].length = 5 ∧ [0, 0, 0, 0].length ≠ 5 ∧ 3 ≠ max 1 2 ∧ 2 = max 1 2 ∧
       (List.replicate 9 0).length = 9 * 1 ∧ s.m.upload = none) ∧
    (let s := uploading ⟨63, 5, 160, 2, 9, 77⟩
     s.m.upload = some ⟨63, 5, 160, 2, 9, 77⟩ ∧ s.m.portUp 63 = true ∧ 159 ≠ 160 ∧ 160 = min 160 (20 * 20 - 160) ∧ 160 + 160 < 20 * 20 ∧
       (List.replicate (9 * 160) 0).length = 9 * 160 ∧ (s.m.card 63 5).ver = 2 ∧ (s.m.card 63 5).w * (s.m.card 63 5).h = 400 ∧
       (uploading ⟨62, 5, 0, 1, 9, 77⟩).m.upload = some ⟨62, 5, 0, 1, 9, 77⟩ ∧ s.m.upQ = [] ∧ 2 < 3 ∧
       (uploading ⟨63, 5, 160, 3, 9, 77⟩).m.upload = some ⟨63, 5, 160, 3, 9, 77⟩ ∧ s.m.upload.isSome = true ∧ s.m.upQ.length < 1024 ∧
       (s.onM (fun m => { m with upQ := List.replicate 1024 (0, 0) })).m.upQ.length = 1024) ∧
    (let v := Word.of (at_ 71 66 63 + at_ 65 56 5)
     (lamps {}).m.mayWrite 0 UPLOAD_CMD_addr = true ∧ bits v 55 55 = 0 ∧ bits v 71 66 = 63 ∧ bits v 65 56 = 5 ∧ (lamps {}).m.upQ = [] ∧
       (lamps {}).uploadCheck 63 5 = 0 ∧ (lamps {}).uploadCheck 63 6 = 1 ∧ (uploading ⟨63, 5, 0, 1, 9, 77⟩).m.mayWrite 0 UPLOAD_CMD_addr = true) := by
  decide +kernel

/-- Drive 3 in a state, enabled. -/
def drive (st : Nat) (s : State) : State := field (CS_DRIVE_STATE 3) st (field CS_CTRL_ENABLE 8 s)
/-- A CONTENT block of drive 3 of 200 blocks, with its buffer. -/
def content (op : Nat) : List Word := [Word.of (at_ 71 64 1 + at_ 63 60 op + at_ 59 58 3 + at_ 57 42 (if op = 3 then 0 else 200)), 0, Word.of (at_ 71 36 base), 0]
/-- It runs in the last slot, 199 blocks done and one issued. -/
def contentRun (op : Nat) : State := drive 3 (working (384 + 256 * 3 + 255) { run0 0x38 (content op) 199 with n1 := 1 } none none)

/-- The last drive in each state, and out of it; idle; at the capacity limit and above it; with no reset before and two; its last slot empty,
and with each operation, its data whole and not; an access that ends at the capacity and one past it. -/
theorem wit_DriveCommands :
    (3 < 4 ∧ up.m.mayWrite 0 CS_CTRL_addr = true ∧ Nat.testBit ((drive 3 up).m.g CS_CTRL_ENABLE) 3 = true ∧
      Nat.testBit (up.m.g CS_CTRL_ENABLE) 3 = false ∧ (drive 3 up).m.driveRuns 3 = [] ∧ (∀ e ∈ (drive 3 up).m.queue 0x38, (contentOf e.block).d ≠ 3) ∧
      (drive 1 up).m.driveIn 3 [1] = true ∧ up.m.driveIn 3 [1] = false ∧ (drive 2 up).m.driveIn 3 [2] = true ∧ up.m.driveIn 3 [2] = false ∧ 15 < 16 ∧
      (drive 2 up).m.capacityInUse 3 + 2 ^ 37 * 512 = 64 * 2 ^ 40 ∧ 64 * 2 ^ 40 < (drive 2 up).m.capacityInUse 3 + (2 ^ 34 + 1) * 4096) ∧
    (up.m.driveIn 3 [3] = false ∧ (contentRun 1).m.driveIn 3 [3] = true ∧ (contentRun 1).m.driveRuns 3 ≠ [] ∧
      (((contentRun 1).onM (fun m => { m with driveResets := [(3, [0, 0])] })).m.driveResets = [(3, [0, 0])])) ∧
    (255 < 256 ∧ 7 < 8 ∧ (drive 3 up).m.run (384 + 256 * 3 + 255) = none ∧
      (contentRun 1).m.run (384 + 256 * 3 + 255) = some { run0 0x38 (content 1) 199 with n1 := 1 } ∧ Steady (contentRun 1) 511 ∧
      (contentOf (content 1)).op = 1 ∧ (contentOf (content 2)).op = 2 ∧ (contentOf (content 3)).op = 3 ∧ (contentOf (content 1)).blocks ≤ 199 + 1 ∧
      1 * (contentRun 1).m.blockSize 3 = 512 ∧ (List.replicate 512 (0 : BitVec 8)).length = 512) ∧
    ((drive 2 up).m.driveIn 3 [2, 3] = true ∧ (drive 3 up).m.driveIn 3 [2, 3] = true ∧ up.m.driveIn 3 [2, 3] = false ∧
      (9 * 2 ^ 24 - 2) + [(1 : BitVec 8), 2].length ≤ 9 * up.m.capacity ∧ 9 * up.m.capacity < (9 * 2 ^ 24 - 1) + [(1 : BitVec 8), 2].length) := by
  refine ⟨by decide +kernel, by decide +kernel, ?_, by decide +kernel⟩
  refine ⟨by decide, by decide, by decide +kernel, by decide +kernel, fun _ => by decide +kernel, ?_⟩
  decide +kernel

/-- The last port, uplink port 15, up; its list 1 (entries 0 and 1 at F6F00h) opens class 7 for 500 ns and class 6 for 500 ns; class 2 has a shaper. -/
def gated (t : Nat) (cls : Nat) (f : EFrame) : State :=
  (field (GATE_STATUS_ACTIVE_LIST 23) 1 (field (GATE_STATUS_ACTIVE_LEN 23) 2 (field (GATE_STATUS_ACTIVE_CYCLE_NS 23) 1000 (field (GATE_CTRL_GATES_ON 23) 1
    (field (UPLINK_STATUS_STATE 15) 2 (field (UPLINK_STATUS_STATE 12) 2
      (reg 0xF6F00 (Word.of (at_ 71 64 0x80 + at_ 63 32 500)) (reg 0xF6F01 (Word.of (at_ 71 64 0x40 + at_ 63 32 500)) up)))))))).onM
        (fun m => { m.setEq 23 cls [f] with now := t })
/-- A frame of a datagram of 64 bytes, 84 with its overhead: 7 ns at 100 bit/ns. -/
def gramFrame : EFrame := { gram := some ⟨none, 0, 0, false, none, 5004, 0, []⟩ }
/-- A chain frame of class 5. -/
def linkFrame : EFrame := { words := [Word.of (at_ 67 65 5)] }
/-- Link 7 up with the frame in class 5. -/
def linked : State := (field (FAB_LINK_STATUS_STATE 7) 4 up).onM (fun m => m.setEq 7 5 [linkFrame])
/-- Uplink port 15 up, with PFC. -/
def paused : State := (field (UPLINK_STATUS_STATE 15) 2 up).onM (fun m => { m with regs := tins m.regs (UPLINK_SRC_addr 15) (Word.of (2 ^ 23)) })
/-- A swap of the whole of list 1. -/
def swap1 : GateSwap := ⟨1, 256, 2 ^ 32 - 1, 5000, 6000⟩
def swapping (x : GateSwap) : State := up.onM (fun m => m.setGateSwap 23 (some x))
/-- SWAP_REQ of list 1, two entries, a cycle of 1,000 ns. -/
def swapReq : Word := Word.of (at_ 69 69 1 + at_ 67 67 1 + at_ 66 58 2 + at_ 57 26 1000)
/-- Class 2 of the last port with a shaper of a RATE and a credit of one bit below zero. -/
def shaperAt (rate : Nat) (c : Int) : State :=
  (field (SHAPER_ENABLE 23 2) 1 (field (SHAPER_RATE 23 2) rate (field (SHAPER_BURST 23 2) 1500 up))).onM (fun m => m.setCredit 23 2 c)
/-- The last stream with a packet in FIFO 63 of a length and a payload. -/
def stream (len : Nat) (body : List Word) : State :=
  (field (TX_CTRL_ENABLE 63) 1 (field (TX_CTRL_UPLINK 63) 3 (field (TX_CTRL_TCLASS 63) 6 (field (TX_CTRL_DST_PORT 63) 5004 (field (FIFO_CTRL_ENABLE 63) 1 (field (FIFO_CTRL_PACKET 63) 1
    (field (FIFO_CTRL_READER_KIND 63) 3 (field (FIFO_CTRL_READER 63) 63 (gated 0 0 gramFrame))))))))).onM
      (fun m => m.setFifo 63 { items := [(0, Word.of (body.length + 1) :: Word.of len :: body)] })

/-- A request of a good list and of an empty one, over none and over a pending one; a cancel; a swap's largest fields; a list that acts
and none. -/
theorem wit_GateAndPortCommands_gates :
    23 < 24 ∧
    ((gated 5 0 gramFrame).m.mayWrite 0 (GATE_CTRL_addr 23) = true ∧ bits swapReq 69 69 = 1 ∧ bits swapReq 68 68 = 0 ∧
      (gated 5 0 gramFrame).m.gateSwapOf 23 = none ∧ (swapping swap1).m.gateSwapOf 23 = some swap1 ∧
      ((gated 5 0 gramFrame).m.commit (GATE_CTRL_addr 23) swapReq).swapCheck 23 1 2 1000 0 = 0 ∧
      (up.m.commit (GATE_CTRL_addr 23) swapReq).swapCheck 23 1 2 1000 0 = 7 ∧ bits (Word.of (2 ^ 68)) 68 68 = 1 ∧ bits (Word.of (2 ^ 68)) 69 69 = 0) ∧
    (swap1.list < 2 ∧ swap1.len ≤ 256 ∧ swap1.cycle < 2 ^ 32 ∧ up.m.gatesAct 23 = false ∧ (gated 5 0 gramFrame).m.gatesAct 23 = true ∧
      (gated 5 0 gramFrame).m.slotsNow 23 = [(0x80, 495), (0x40, 500), (0x80, 5)] ∧ up.m.egressUp 23 = false) := by decide +kernel

/-- A frame that fits and one that does not, with FIT_HOLD and without, of the last class and another; a link's frame; a PFC frame to a
port with PFC and without; a pause; each shaper; the last stream with a packet that fits, one that is empty, and none. -/
theorem wit_GateAndPortCommands_frames :
    (let s := gated 493 7 gramFrame
     let t := field (GATE_CTRL_FIT_HOLD 23) 1 (gated 494 7 gramFrame)
     s.m.egressUp 23 = true ∧ s.m.eq 23 7 = [gramFrame] ∧ tget (fun _ => 0) s.m.tr.txEnd 23 = 0 ∧ s.m.mayStart 23 7 = true ∧ s.m.fitsWindow 23 7 gramFrame = true ∧
       s.m.on (GATE_CTRL_FIT_HOLD 23) = false ∧ t.m.on (GATE_CTRL_FIT_HOLD 23) = true ∧ t.m.fitsWindow 23 7 gramFrame = false ∧ t.m.mayStart 23 7 = true ∧
       (∀ k, k < 7 → t.m.eq 23 k = []) ∧ t.m.eq 23 7 = [gramFrame] ∧ gramFrame.held = false) ∧
    (linked.m.egressUp 7 = true ∧ linked.m.eq 7 5 = [linkFrame] ∧ linked.m.eq 7 6 = [] ∧ linked.m.eq 7 7 = [] ∧ linked.m.mayStart 7 5 = true ∧
      linked.m.fitsWindow 7 5 linkFrame = true) ∧
    (15 < 16 ∧ paused.m.uplinkUp 15 = true ∧ paused.m.on (UPLINK_SRC_PFC_EN 15) = true ∧ up.m.uplinkUp 15 = false ∧
      (let s := up.onM (fun m => { m with tr.pfcUntil := [(23 * 8 + 6, 900)] })
       tget (fun _ => 0) s.m.tr.pfcUntil (23 * 8 + 6) = 900 ∧ 6 ≠ 7 ∧ tget (fun _ => 0) up.m.tr.pfcUntil (23 * 8 + 6) = 0)) ∧
    ((shaperAt 1000 (-1)).m.shaped 23 2 = true ∧ (shaperAt 1000 (-1)).m.creditNow 23 2 = -1 ∧ (shaperAt 1000 (-1)).m.g (SHAPER_RATE 23 2) = 1000 ∧
      (shaperAt 1000 (-1)).m.gatesAct 23 = false ∧ (shaperAt 1000 0).m.creditNow 23 2 = 0 ∧ (shaperAt 0 (-1)).m.g (SHAPER_RATE 23 2) = 0 ∧
      up.m.shaped 23 2 = false) ∧
    (63 < 64 ∧ (stream 9 [5]).m.coreUp = true ∧ (stream 9 [5]).m.streamFifo 63 = some 63 ∧ ((stream 9 [5]).m.fifoPop 63).2 = some (Word.of 2) ∧
      (((stream 9 [5]).m.fifoPop 63).1.popWords 63 2).2 = [Word.of 9, 5] ∧ (stream 9 [5]).m.uplinkUp ((stream 9 [5]).m.uplinkPort 3 0) = true ∧
      (((stream 10 [5]).m.fifoPop 63).1.popWords 63 2).2 = [Word.of 10, 5] ∧ ¬ 10 ≤ 9 * (2 - 1) ∧ up.m.streamFifo 63 = none ∧
      (stream 9 [5]).m.on (TX_CTRL_ENABLE 63) = true) := by decide +kernel

/-- Receiver 255 of channel 511 with pool 0 and FIFO 63, on uplink port 12, which is up; enabled or not. -/
def receiving (on_ : Nat) : State :=
  field (UPLINK_STATUS_STATE 12) 2 (field (FIFO_CTRL_ENABLE 63) 1 (field (FIFO_CTRL_READER_KIND 63) 0 (field (FIFO_CTRL_READER 63) 511 (field (INGEST_CTRL_ENABLE 255) on_
    (field (INGEST_CTRL_CHANNEL 255) 511 (field (INGEST_CTRL_UPLINK 255) 3 (field (INGEST_CTRL_UDP_PORT 255) 5004 (field (INGEST_CTRL_EVENT_FIFO 255) 63 (rich 511 [])))))))))
/-- The value of INGEST_CTRL that enables it. -/
def ingestOn : Word := Word.of (2 ^ 71 + at_ 70 62 511 + at_ 57 56 3 + at_ 53 38 5004 + at_ 32 27 63)
/-- A UDP datagram to the group it has joined. -/
def packet0 : UPacket := { fcsOk := true, size := 1522, mac := none, dstHi := 0, dstLo := 0, ptp := false, udp := true, ipLen := 100, dstPort := 5004, at_ns := 9, rtpVer := 2, pt := 0, ssrc := 0, seqGap := false, late := false, badType := false, overLimit := false, pieces := [] }
/-- Meter 7 takes every port and has no room; its red packets are dropped. -/
def metered : State :=
  (field (METER_MATCH_VALID 7) 1 (field (METER_MATCH_UPLINK_MASK 7) 15 (field (METER_MATCH_PORT_LAST 7) 65535 (field (METER_MATCH_RED_DROP 7) 1 (receiving 1))))).onM
    (fun m => { m with tr.meters := [(7, some ⟨0, 0, 9⟩)] })

/-- The last uplink enabled and not, split and not; the last port off, coming up and up; with a shaper and a flow without signal. -/
theorem wit_UplinkAndIngestCommands_ports :
    (3 < 4 ∧ up.m.mayWrite 0 (UPLINK_CTRL_addr 3) = true ∧ (field (UPLINK_CTRL_ENABLE 3) 1 up).m.on (UPLINK_CTRL_ENABLE 3) = true ∧
      up.m.on (UPLINK_CTRL_ENABLE 3) = false ∧ bits (Word.of (2 ^ 71)) 71 71 = 1 ∧ bits (0#72) 71 71 = 0 ∧ up.m.portsOf 3 = [12] ∧
      (field (UPLINK_CTRL_SPLIT 3) 1 up).m.portsOf 3 = [12, 13, 14, 15]) ∧
    (let s := field (UPLINK_STATUS_STATE 15) 1 (field (UPLINK_CTRL_ENABLE 3) 1 (field (UPLINK_CTRL_SPLIT 3) 1 up))
     15 < 16 ∧ s.m.g (UPLINK_STATUS_STATE 15) = 1 ∧ s.m.on (UPLINK_CTRL_ENABLE (15 / 4)) = true ∧ ¬ up.m.g (UPLINK_STATUS_STATE 15) = 1 ∧
       up.m.uplinkUp 15 = false ∧ (field (UPLINK_STATUS_STATE 15) 2 s).m.uplinkUp 15 = true ∧
       (field (SHAPER_ENABLE 23 6) 1 s).m.shaped (8 + 15) 6 = true ∧
       (field (SRC_CTRL_ENABLE 23) 1 (field (FLOW_LINK_UPLINK 15) 3 (field (FLOW_LINK_SUBPORT 15) 3 s))).m.flowsOn 15 = [23] ∧
       (field (SRC_STATUS_STATE 23) 1 s).m.g (SRC_STATUS_STATE 23) = 1) ∧
    (up.m.coreUp = true ∧ ({} : Dev).coreUp = false ∧
      (let s := field FAB_CTRL_ENABLE 1 (field FAB_TIME_STATUS_STATE 1 (field FAB_TIME_STATUS_PARENT 11 (up.onM (fun m => { m with fab.root := some 0 }))))
       s.m.on FAB_CTRL_ENABLE = true ∧ s.m.fab.times = [] ∧ s.m.fab.root = some s.m.ident ∧ s.m.g FAB_TIME_STATUS_STATE = 1 ∧
         8 ≤ s.m.g FAB_TIME_STATUS_PARENT ∧ s.m.g FAB_TIME_STATUS_PARENT < 12)) := by decide +kernel

/-- A frame of each kind: a bad FCS, the largest size and one more, not addressed, past a meter's room, for no receiver, for the last receiver,
taken and dropped. -/
theorem wit_UplinkAndIngestCommands_frames :
    (let s := receiving 1
     12 < 16 ∧ s.m.uplinkUp 12 = true ∧ s.m.coreUp = true ∧ up.m.uplinkUp 12 = false ∧ { packet0 with fcsOk := false }.fcsOk = false ∧
       packet0.size ≤ 1522 ∧ 1522 < { packet0 with size := 1523 }.size ∧ s.m.addressed 12 packet0 = true ∧
       s.m.addressed 12 { packet0 with dstHi := 1 } = false ∧ packet0.udp = true ∧ packet0.ptp = false ∧ s.m.flowMatch 12 packet0 = false ∧
       ((s.m.reach packet0.at_ns).police 12 packet0.dstPort packet0.ipLen).2 = true ∧ packet0.seqGap = false ∧
       s.m.ingestTakes 12 255 packet0 = true ∧ (List.range 256).find? (fun r => s.m.ingestTakes 12 r packet0) = some 255 ∧
       (List.range 256).find? (fun r => s.m.ingestTakes 12 r { packet0 with dstPort := 5005 }) = none ∧ packet0.late = false ∧ { packet0 with late := true }.late = true ∧
       s.m.on (CHAN_STATUS_SHED (s.m.g (INGEST_CTRL_CHANNEL 255))) = false) ∧
    ((metered.m.reach packet0.at_ns).police 12 packet0.dstPort packet0.ipLen).2 = false := by decide +kernel

/-- The last receiver enabled with a good configuration and with a bad one, disabled, with an open buffer and none. -/
theorem wit_UplinkAndIngestCommands_ingest :
    (255 < 256 ∧ (receiving 0).m.mayWrite 0 (INGEST_CTRL_addr 255) = true ∧ (receiving 1).m.on (INGEST_CTRL_ENABLE 255) = true ∧
      (receiving 0).m.on (INGEST_CTRL_ENABLE 255) = false ∧ bits ingestOn 71 71 = 1 ∧ bits (0#72) 71 71 = 0 ∧
      (((receiving 0).m.commit (INGEST_CTRL_addr 255) ingestOn).p (INGEST_CTRL_ENABLE 255) 0).ingestCheck 255 = 0 ∧
      ((up.m.commit (INGEST_CTRL_addr 255) ingestOn).p (INGEST_CTRL_ENABLE 255) 0).ingestCheck 255 = 1) ∧
    (((receiving 1).m.ingest 255).buf = none ∧
      (((receiving 1).onM (fun m => m.setIngest 255 { buf := some (Word.of (at_ 71 36 base)) })).m.ingest 255).buf = some (Word.of (at_ 71 36 base))) := by
  decide +kernel

/-- Device 65, at row 1 and column 1 of pane 0, with the fabric enabled, device 2 in its map, and link 7 toward it in a state. -/
def onFab (st : Nat) : State :=
  (field FAB_CTRL_ENABLE 1 (field FAB_IDENT_LOCK 1 (field FAB_IDENT_IDENT 65 (field (FAB_LINK_CTRL_ENABLE 7) 1 (field (FAB_LINK_STATUS_STATE 7) st up))))).onM
    (fun m => { m with fab.map := [⟨2, 8, 5, 0⟩], fab.root := some 65 })
/-- A frame of a kind and class for a device, with a TTL, one payload word and the right CRC. -/
def chainFrame0 (kind cls dest ttl : Nat) : List Word :=
  let h := [frameHeader kind cls dest 9 0 ttl 1, 7]
  h ++ [Word.of (at_ 71 40 (crcWords h))]
def time0 : TimeMsg := ⟨0, 2, false, 1, -5, 1000⟩
/-- The value that enables link 7, with a STOP_MASK. -/
def linkVal (mask : Nat) : Word := Word.of (2 ^ 71 + at_ 70 63 mask)

/-- No fabric and one that runs; FAB_CTRL from off and on, with LOCK and without; the last link off, in training, down, in HELLO, up and
refused; a neighbour inside the pane. -/
theorem wit_ChainLinkCommands_links :
    (up.m.fabricOn = false ∧ (onFab 4).m.fabricOn = true ∧ up.m.mayWrite 0 FAB_CTRL_addr = true ∧ up.m.on FAB_CTRL_ENABLE = false ∧
      bits (0#72) 71 71 = 0 ∧ bits (linkVal 0) 71 71 = 1 ∧ up.m.on FAB_IDENT_LOCK = false ∧ (onFab 4).m.on FAB_IDENT_LOCK = true ∧
      (field FAB_CTRL_ENABLE 0 (onFab 0)).m.on FAB_CTRL_ENABLE = false ∧ (field FAB_CTRL_ENABLE 0 (onFab 0)).m.on FAB_IDENT_LOCK = true ∧
      (onFab 0).m.g (FAB_LINK_STATUS_STATE 7) = 0 ∧ (onFab 0).m.on (FAB_LINK_CTRL_ENABLE 7) = true ∧ (neighbour (onFab 0).m.ident 7).isSome = true ∧
      (onFab 0).m.halted = false ∧ (onFab 0).m.on FAB_CTRL_ENABLE = true) ∧
    (7 < 8 ∧ (onFab 4).m.mayWrite 0 (FAB_LINK_CTRL_addr 7) = true ∧ (∀ st, st < 6 → (onFab st).m.g (FAB_LINK_STATUS_STATE 7) = st) ∧
      Nat.testBit (bits (linkVal 0x41) 70 63) 6 = true ∧ Nat.testBit ((onFab 4).m.g (FAB_LINK_CTRL_STOP_MASK 7)) 6 = false ∧
      (let s := field (FAB_LINK_CTRL_STOP_MASK 7) 0x41 (onFab 4)
       Nat.testBit (bits (linkVal 0) 70 63) 6 = false ∧ Nat.testBit (s.m.g (FAB_LINK_CTRL_STOP_MASK 7)) 6 = true ∧ Nat.testBit (s.m.stopped (1 + 7)) 6 = false) ∧
      (onFab 1).m.linkMay 7 = true ∧ (field (FAB_LINK_CTRL_ENABLE 7) 0 (onFab 1)).m.linkMay 7 = false ∧ (onFab 3).m.helloBad 7 2 = 0 ∧
      (onFab 3).m.helloBad 7 (2 ^ 18 - 1) = 1 ∧ (onFab 3).m.helloBad 7 65 = 3 ∧ (onFab 3).m.helloBad 7 3 = 2 ∧ 2 < 2 ^ 18 ∧ 2 ^ 18 - 1 < 2 ^ 18 ∧ 65535 < 65536 ∧
      (onFab 4).m.linkUp 7 = true ∧ (onFab 3).m.linkUp 7 = false ∧ 2 ≠ (onFab 4).m.ident) := by decide +kernel

/-- A device new to the map and one in it; a frame with a bad CRC, an unsound one, one with no hop left, one with a route and one with none;
a gateway's datagram, sound and not. -/
theorem wit_ChainLinkCommands_frames :
    (3 < 2 ^ 18 ∧ 3 ≠ (onFab 4).m.ident ∧ paneOf 3 = paneOf (onFab 4).m.ident ∧ (onFab 4).m.fab.map.find? (fun e => e.dev == 3) = none ∧
      (onFab 4).m.fab.map.find? (fun e => e.dev == 2) = some ⟨2, 8, 5, 0⟩ ∧ 5 < 2 ^ 32 ∧ (onFab 4).m.now ≤ 0 + 2000000000) ∧
    (let s := onFab 4
     let ws := chainFrame0 2 5 2 1
     let h := nthWord ws 0
     s.m.g (FAB_LINK_STATUS_STATE 7) = 4 ∧ crcOk ws = true ∧ crcOk (ws.set 1 8) = false ∧ frameSound (s.m.g (FAB_LINK_STATUS_VERSION 7)) ws = true ∧
       s.m.classWords (1 + 7) 5 + ws.length ≤ 20480 ∧ bits h 67 65 = 5 ∧ bits h 28 27 = 0 ∧ bits h 64 47 ≠ s.m.ident ∧ bits h 26 19 ≠ 0 ∧
       bits (nthWord (chainFrame0 2 5 2 0) 0) 26 19 = 0 ∧ paneOf (bits h 64 47) = paneOf s.m.ident ∧ s.m.nextHop (bits h 64 47) = some 7 ∧
       s.m.nextHop (bits (nthWord (chainFrame0 2 5 3 1) 0) 64 47) = none ∧ crcOk (chainFrame0 5 5 2 1) = true ∧ frameSound 1 (chainFrame0 5 5 2 1) = false) ∧
    (let s := field (UPLINK_STATUS_STATE 15) 2 (onFab 4)
     let ws := chainFrame0 2 7 2 1
     let h := nthWord ws 0
     15 < 16 ∧ s.m.coreUp = true ∧ s.m.uplinkUp 15 = true ∧ up.m.uplinkUp 15 = false ∧ (s.m.police 15 5004 100).2 = true ∧ up.m.on FAB_CTRL_ENABLE = false ∧
       s.m.on FAB_CTRL_ENABLE = true ∧ crcOk ws = true ∧ frameSound 1 ws = true ∧ bits h 28 27 = 0 ∧ paneOf (bits h 64 47) = paneOf s.m.ident ∧
       bits h 67 65 = 7 ∧ floodedOp ws = false ∧ bits h 64 47 ≠ s.m.ident ∧ bits h 26 19 ≠ 0 ∧ s.m.nextHop (bits h 64 47) = some 7 ∧ 2 ≠ 1) := by
  decide +kernel

/-- Device 65 of domain 3 in a role, eligible and with device time, its house and standby, and an admitted part in the protocol. -/
def inDomain (role house standby : Nat) (f : Fab → Fab) : State :=
  (field FAB_IDENT_DOMAIN_ID 3 (field FAB_IDENT_ELIGIBLE 1 (field FAB_TIME_STATUS_STATE 1 (field FAB_STATUS_ROLE role (field FAB_STATUS_HOUSE house
    (field FAB_STATUS_STANDBY standby (field FAB_EPOCH_TERM 5 (onFab 4)))))))).onM (fun m => { m with fab := f { m.fab with admitted := true } })
/-- This device is the house, device 2 its standby and present. -/
def house (f : Fab → Fab) : State := inDomain 2 65 2 (fun x => f { x with present := [2, 65] })
/-- An epoch message of domain 3 for epoch 9, with TERM, house 2 and a standby in word 2, and two more words. -/
def epochMsg (op term standby : Nat) (w1 w3 : Word) : List Word :=
  [Word.of (at_ 71 68 op + at_ 67 52 3 + at_ 51 12 9), w1, Word.of (at_ 71 56 term + at_ 55 38 2 + at_ 37 20 standby), w3]
def tally0 (got : List Nat) : Tally := { epoch := 9, close := 1000, got := got }
def gather0 : Gather := ⟨1, [65], 0, 0, 9⟩

/-- No fabric and one that runs; a message seen and not, obeyed and not; a logged commit; another domain. -/
theorem wit_EpochCommands_messages :
    (up.m.fabricOn = false ∧ (house id).m.fabricOn = true ∧ (house id).m.isHouse = true ∧ (inDomain 1 2 2 id).m.isHouse = false) ∧
    (let s := inDomain 1 2 65 id
     let ws := epochMsg 3 6 65 0 0
     let w0 := nthWord ws 0
     let w2 := nthWord ws 2
     s.m.fab.seen.any (fun x => x == floodKey ws) = false ∧ (s.onM (fun m => { m with fab.seen := [floodKey ws] })).m.fab.seen.any (fun x => x == floodKey ws) = true ∧
       bits w0 67 52 = s.m.domain ∧ s.m.obeys w2 = true ∧ bits w2 55 38 ≠ s.m.ident ∧ s.m.obeys (nthWord (epochMsg 3 4 65 0 0) 2) = false ∧
       s.m.obeys (nthWord (epochMsg 3 5 65 0 0) 2) = true ∧ s.m.g FAB_COMMITTED_LAST_COMMITTED < bits w0 51 12 ∧ s.m.fab.commits = [] ∧ bits w2 55 38 = 2 ∧
       2 ≠ s.m.ident ∧ (up.m.domain = 0) ∧ bits w0 67 52 ≠ up.m.domain ∧ s.m.nextHop 2 = some 7) ∧
    (let s := inDomain 1 2 2 id
     s.m.ident ≠ 0 ∧ 3 < 4 ∧ bits (nthWord (epochMsg 9 0 0 (Word.of (at_ 71 54 65)) 0) 1) (18 * 3 + 17) (18 * 3) = s.m.ident) := by decide +kernel

/-- Reports, acknowledgements, heartbeats, states and joins at the devices they are for and at others. -/
theorem wit_EpochCommands_answers :
    (let s := house (fun x => { x with tally := some (tally0 []) })
     let ws := epochMsg 2 0 0 (Word.of (at_ 71 53 4)) 0
     s.m.isHouse = true ∧ bits (nthWord ws 0) 67 52 = s.m.domain ∧ s.m.fab.tally = some (tally0 []) ∧ bits (nthWord ws 0) 51 12 = (tally0 []).epoch ∧
       (2, ws) ∉ (tally0 []).frames ∧ (tally0 []).sent = false ∧ bits (nthWord ws 1) 15 15 = 0 ∧ (2, ws) ∈ { tally0 [] with frames := [(2, ws)] }.frames ∧
       8 ≠ (tally0 []).epoch) ∧
    (let ws := epochMsg 4 0 0 0 0
     let s := house (fun x => { x with awaitAck := some ws })
     2 = s.m.g FAB_STATUS_STANDBY ∧ s.m.fab.awaitAck = some ws ∧ bits (nthWord ws 0) 51 12 = 9 ∧ (house id).m.fab.awaitAck = none ∧ 3 ≠ s.m.g FAB_STATUS_STANDBY) ∧
    ((inDomain 3 2 65 id).m.g FAB_STATUS_ROLE = 3 ∧ 2 = (inDomain 3 2 65 id).m.g FAB_STATUS_HOUSE ∧ (inDomain 1 2 65 id).m.g FAB_STATUS_ROLE = 1) ∧
    (let s := inDomain 3 65 65 (fun x => { x with gather := some gather0 })
     s.m.fab.gather = some gather0 ∧ 2 ∉ gather0.got ∧ 65 ∈ gather0.got ∧ bits (nthWord (epochMsg 7 5 0 0 0) 0) 67 52 = s.m.domain) ∧
    (bits (nthWord (epochMsg 8 0 0 (Word.of (at_ 71 54 3)) 0) 1) 71 54 = 3 ∧ 3 ≠ (house id).m.ident) := by decide +kernel

/-- No tally and one with quorum and without; a standby and none; a commit that waits; a heartbeat sent; the house silent at the standby, at
the lowest member and at a device with no house; a gathering with quorum and without; cut off and not. -/
theorem wit_EpochCommands_timers :
    ((house id).m.fab.tally = none ∧ (inDomain 1 2 2 (fun x => { x with tally := some (tally0 []) })).m.fab.tally = some (tally0 [])) ∧
    (let s := house (fun x => { x with tally := some (tally0 [2]), last := [2, 65] })
     let t := s.m.tallySelf (tally0 [2])
     s.m.fab.tally = some (tally0 [2]) ∧ s.m.quorum (sinsert t.got s.m.ident).length (sinsert t.got s.m.ident) = true ∧ s.m.g FAB_STATUS_STANDBY ≠ s.m.ident ∧
       (field FAB_STATUS_STANDBY 65 s).m.g FAB_STATUS_STANDBY = s.m.ident) ∧
    (let s := house (fun x => { x with tally := some (tally0 []), last := [2, 3, 65] })
     let t := s.m.tallySelf (tally0 [])
     s.m.quorum (sinsert t.got s.m.ident).length (sinsert t.got s.m.ident) = false) ∧
    ((house (fun x => { x with awaitAck := some [1, 2, 3] })).m.fab.awaitAck = some [1, 2, 3] ∧ (house (fun x => { x with hbSent := some 7 })).m.fab.hbSent = some 7 ∧
      (house id).m.fab.hbSent = none) ∧
    ((inDomain 3 2 65 id).m.fit = true ∧ up.m.fit = false ∧ (inDomain 3 2 65 id).m.fab.gather = none ∧ (inDomain 3 2 65 id).m.fab.admitted = true ∧
      (let s := inDomain 1 3 3 (fun x => { x with departed := [2] })
       lowest (s.m.known.filter (fun d => !smem ([s.m.g FAB_STATUS_HOUSE, s.m.g FAB_STATUS_STANDBY] ++ s.m.fab.departed) d && (s.m.hopsTo d).isSome)) = some s.m.ident) ∧
      (let s := inDomain 0 0 0 (fun x => { x with map := [] }); s.m.g FAB_STATUS_ROLE = 0 ∧ lowest s.m.known = some s.m.ident)) ∧
    ((inDomain 3 65 65 (fun x => { x with gather := some gather0, last := [65] })).m.quorum 1 [65] = true ∧
      (inDomain 3 65 65 (fun x => { x with gather := some gather0, last := [2, 3, 65] })).m.quorum 1 [65] = false) ∧
    ((inDomain 1 2 2 id).m.on FAB_STATUS_CUT_OFF = false ∧ (field FAB_STATUS_CUT_OFF 1 (inDomain 1 2 2 id)).m.on FAB_STATUS_CUT_OFF = true) := by decide +kernel

end Sys2Proof.Tests
end

section
/-!
PROOFS. Control transfers (R86, R97–R99, R104, R127, R135): what a link word and a restored status field hold, what an instruction
that jumps or traps answers, and the statement about jumps, gate calls and the two returns.
-/

namespace Sys2Proof.Laws
open Sys2Proof Sys2Proof.Machine

/-! ### Fields of a word, bit by bit -/

/-- A bit of a field is the word's bit at its place. -/
theorem testBit_bits (w : Word) (hi lo j : Nat) :
    (bits w hi lo).testBit j = (decide (j < hi + 1 - lo) && w.getLsbD (lo + j)) := by
  rw [bits, Nat.testBit_mod_two_pow, Nat.testBit_div_two_pow, Nat.add_comm j lo]; rfl

/-- A status bit is the bit of TSW at its place. -/
theorem bit_eq_getLsbD (x : Thread) (i : Nat) : x.bit i = x.tsw.getLsbD i := by
  rw [Thread.bit, bits, BitVec.getLsbD, Nat.testBit_eq_decide_div_mod_eq, Nat.add_sub_cancel_left, Nat.pow_one]
  exact beq_eq_decide _ _

/-- A field is below the power of its width. -/
theorem bits_lt (w : Word) (hi lo : Nat) : bits w hi lo < 2 ^ (hi + 1 - lo) := Nat.mod_lt _ (by positivity)

/-- A field of TSW loaded from the same bits of a word: those bits are the word's, the others as before. -/
theorem bit_setField_bits (x : Thread) (w : Word) (hi lo i : Nat) (h1 : lo ≤ hi) (h2 : hi < 72) :
    (x.setField hi lo (bits w hi lo)).bit i = if lo ≤ i ∧ i ≤ hi then w.getLsbD i else x.bit i := by
  by_cases h : lo ≤ i ∧ i ≤ hi
  · have hf : bits (putBits x.tsw hi lo (bits w hi lo)) hi lo = bits w hi lo := by
      rw [bits_put_same _ _ _ _ h1 h2]; exact Nat.mod_mod _ _
    have hb := congrArg (Nat.testBit · (i - lo)) hf
    simp only [testBit_bits, show i - lo < hi + 1 - lo by omega, show lo + (i - lo) = i by omega, decide_true,
      Bool.true_and] at hb
    rw [if_pos h, bit_eq_getLsbD]
    exact hb
  · rw [if_neg h, Thread.bit, Thread.bit, Thread.setField]
    rcases (show i < lo ∨ hi < i by omega) with h' | h'
    · rw [bits_put_below _ _ _ _ _ _ h1 h2 h']
    · rw [bits_put_above _ _ _ _ _ _ h1 h2 h']

/-- A link word's return point (R81). -/
theorem linkWord_pc (pc : Nat) (tsw : Word) : bits (linkWord pc tsw) 71 48 = pc % 2 ^ 24 := by
  simp only [linkWord, bits, at_, Word.of, BitVec.toNat_ofNat]; omega

/-- A link word's copy of TSW[47:0] (R81). -/
theorem linkWord_tsw (pc : Nat) (tsw : Word) : bits (linkWord pc tsw) 47 0 = bits tsw 47 0 := by
  simp only [linkWord, bits, at_, Word.of, BitVec.toNat_ofNat]; omega

/-! ### What the returns and the gate call do to their thread -/

/-- A status bit looked up in a list that begins with a pair. -/
theorem lookup_cons_ite (k i : Nat) (b : Bool) (l : List (Nat × Bool)) :
    List.lookup i ((k, b) :: l) = if i = k then some b else l.lookup i := by
  by_cases h : i = k
  · simp [h]
  · simp [List.lookup_cons, beq_eq_false_iff_ne.mpr h, h]

/-- The status bits that a word holds at the places of a list. -/
def savedBits (w : Word) (l : List Nat) : List (Nat × Bool) := l.map (fun i => (i, w.getLsbD i))

/-- A bit looked up among saved bits, and among what follows them. -/
theorem lookup_savedBits (w : Word) (l : List Nat) (r : List (Nat × Bool)) (i : Nat) :
    (savedBits w l ++ r).lookup i = if i ∈ l then some (w.getLsbD i) else r.lookup i := by
  induction l with
  | nil => rfl
  | cons k l ih =>
    change List.lookup i ((k, w.getLsbD k) :: (savedBits w l ++ r)) = _
    rw [lookup_cons_ite, ih]
    by_cases h : i = k <;> simp [h]

/-- The status bits that GRET writes (R98). -/
def gretBits (x : Thread) : List (Nat × Bool) :=
  savedBits x.glink [33, 34, 35, 36, 37, 38, 39, 40, 41] ++ [(47, false), (44, false)]

/-- The status bits that TRET writes (R104). -/
def tretBits (x : Thread) : List (Nat × Bool) :=
  savedBits x.xlink [32, 33, 34, 35, 36, 37, 38, 39, 40, 41, 42, 44, 47] ++ [(43, false)]

theorem bit_gret (x : Thread) (i : Nat) : x.gret.bit i = ((gretBits x).lookup i).getD (x.bit i) := by
  have hm : i ∈ [33, 34, 35, 36, 37, 38, 39, 40, 41] ↔ 33 ≤ i ∧ i ≤ 41 := by simp; omega
  simp only [gretBits, lookup_savedBits, hm, lookup_cons_ite]
  simp only [Thread.gret, bit_setBit _ 44 _ _ (by omega), bit_setBit _ 47 _ _ (by omega),
    bit_setField_bits _ _ 41 33 _ (by omega) (by omega)]
  by_cases h44 : i = 44
  · simp [h44]
  by_cases h47 : i = 47
  · simp [h47]
  by_cases hr : 33 ≤ i ∧ i ≤ 41 <;> simp [h44, h47, hr]

theorem bit_tret (x : Thread) (i : Nat) : x.tret.bit i = ((tretBits x).lookup i).getD (x.bit i) := by
  have hm : i ∈ [32, 33, 34, 35, 36, 37, 38, 39, 40, 41, 42, 44, 47] ↔
      (42 ≤ i ∧ i ≤ 42) ∨ (44 ≤ i ∧ i ≤ 44) ∨ (47 ≤ i ∧ i ≤ 47) ∨ (32 ≤ i ∧ i ≤ 41) := by simp; omega
  simp only [tretBits, lookup_savedBits, hm, lookup_cons_ite]
  simp only [Thread.tret, bit_setBit _ 43 _ _ (by omega), bit_setField_bits _ _ 41 32 _ (by omega) (by omega),
    bit_setField_bits _ _ 42 42 _ (by omega) (by omega), bit_setField_bits _ _ 44 44 _ (by omega) (by omega),
    bit_setField_bits _ _ 47 47 _ (by omega) (by omega)]
  by_cases h43 : i = 43
  · simp [h43]
  by_cases h42 : 42 ≤ i ∧ i ≤ 42
  · simp [h43, h42]
  by_cases h44 : 44 ≤ i ∧ i ≤ 44
  · simp [h43, h42, h44]
  by_cases h47 : 47 ≤ i ∧ i ≤ 47
  · simp [h43, h42, h44, h47]
  by_cases h41 : 32 ≤ i ∧ i ≤ 41 <;> simp [h43, h42, h44, h47, h41]

/-- The status bits that a gate call writes (R98). -/
theorem bit_gate (x : Thread) (i : Nat) :
    x.gate.bit i = (([(47, true), (44, true)] : List (Nat × Bool)).lookup i).getD (x.bit i) := by
  simp only [Thread.gate, bit_setBit _ 44 _ _ (by omega), bit_setBit _ 47 _ _ (by omega), lookup_cons_ite]
  by_cases h44 : i = 44
  · simp [h44]
  by_cases h47 : i = 47 <;> simp [h44, h47, Thread.bit]

/-- Neither GRET nor a gate call changes STEP. -/
theorem step_gret (x : Thread) : x.gret.step = x.step := by
  simp [Thread.step, bit_gret, gretBits, lookup_savedBits, lookup_cons_ite]

theorem step_gate (x : Thread) : x.gate.step = x.step := by
  simp [Thread.step, bit_gate, lookup_cons_ite]

/-- Neither does the link of a jump. -/
theorem step_link (x : Thread) (d : BitVec 5) : (x.link d).step = x.step := bit_setW x d _ 32

/-- From x to y nothing changed but the status word. -/
def TswOnly (x y : Thread) : Prop := { y with tsw := x.tsw } = x

theorem TswOnly.refl (x : Thread) : TswOnly x x := rfl
theorem TswOnly.setField {x y : Thread} (h : TswOnly x y) (hi lo v : Nat) : TswOnly x (y.setField hi lo v) := h
theorem TswOnly.setBit {x y : Thread} (h : TswOnly x y) (i : Nat) (b : Bool) : TswOnly x (y.setBit i b) := h

theorem gret_tswOnly (x : Thread) : TswOnly x x.gret :=
  (((TswOnly.refl x).setField 41 33 _).setBit 47 _).setBit 44 _

theorem tret_tswOnly (x : Thread) : TswOnly x x.tret :=
  (((((TswOnly.refl x).setField 41 32 _).setField 47 47 _).setField 44 44 _).setField 42 42 _).setBit 43 _

/-- The link of a jump changes the general registers alone. -/
theorem link_rest (x : Thread) (d : BitVec 5) : { x.link d with w := x.w } = x := by
  unfold Thread.link Thread.setW; split <;> rfl

/-! ### What an instruction that jumps or traps answers -/

/-- A ready thread whose instruction raises a synchronous trap takes it, with the instruction as the return point (R106). -/
theorem issue_trap {s : State} {op t : Nat} {c : BitVec 4} (h : Ready s t c) (ho : op < 1024) (fw gret : Bool)
    (body : State → Res) (hf : fw = true → (s.m.th t).priv = true) {cause : Nat} (hb : body s = .trap cause) :
    s.issue op t c true fw gret none body = s.trapTo t cause (s.m.th t).pc (s.m.th t).pc := by
  rw [issue_ready h ho _ _ _ _ hf, State.runBody, hb]

/-- A ready thread whose instruction changes the thread and jumps goes on at the target. -/
theorem issue_jump {s : State} {op t : Nat} {c : BitVec 4} (h : Ready s t c) (ho : op < 1024) (fw gret : Bool)
    (body : State → Res) (hf : fw = true → (s.m.th t).priv = true) {y : Thread} {a : Nat}
    (hb : body s = .jump { s with m := s.m.setTh t y } a) (hq : y.step = (s.m.th t).step)
    (ha : a < 2 ^ 24) : s.issue op t c true fw gret none body = { s with m := s.m.setTh t { y with pc := a } } := by
  rw [issue_ready h ho _ _ _ _ hf, State.runBody, hb]
  dsimp only
  rw [show a % 16777216 = a from Nat.mod_eq_of_lt ha, finish_quiet _ _ _ _ _ _ (by simpa [hq] using h.quiet), onM_modTh]
  simp

/-- Storing a thread that differs in its registers, status and program counter alone writes what these hold. -/
theorem wrote_setTh {s : State} {t : Nat} {y : Thread} {d : BitVec 5} {v : Word} {l : List (Nat × Bool)} {pc : Nat}
    (rest : { y with w := (s.m.th t).w, tsw := (s.m.th t).tsw, pc := (s.m.th t).pc } = s.m.th t)
    (result : ∀ r, y.rw r = if r = d ∧ d ≠ 0 then v else (s.m.th t).rw r)
    (status : ∀ i, y.bit i = (l.lookup i).getD ((s.m.th t).bit i)) (hpc : y.pc = pc) :
    Wrote s { s with m := s.m.setTh t y } t d v l pc :=
  ⟨onlyThread_set s t y rest, by simpa [RegWritten] using result, fun i _ => by simpa using status i, by simpa using hpc⟩

/-- The state after a return: status bits, and the address it goes on at. -/
theorem wrote_returned {s : State} {t : Nat} {y : Thread} {l : List (Nat × Bool)}
    (rest : TswOnly (s.m.th t) y) (status : ∀ i, y.bit i = (l.lookup i).getD ((s.m.th t).bit i)) (pc : Nat) :
    Wrote s { s with m := s.m.setTh t { y with pc := pc } } t 0 0 l pc := by
  have hw : Thread.w _ = (s.m.th t).w := congrArg Thread.w rest
  refine wrote_setTh (congrArg (fun z : Thread => { z with w := (s.m.th t).w, pc := (s.m.th t).pc }) rest) (fun r => ?_) status rfl
  simp [Thread.rw, ← hw]

/-! ### Jumps (R86, R127, R135) -/

/-- The state after a jump: the link in W[d], and the target. -/
theorem wrote_jumped (s : State) (t : Nat) (d : BitVec 5) (a : Nat) :
    Wrote s { s with m := s.m.setTh t { (s.m.th t).link d with pc := a } } t d (Word.of (nextPc (s.m.th t).pc)) [] a := by
  refine wrote_setTh ?_ (fun r => ?_) (fun i => ?_) rfl
  · exact congrArg (fun y : Thread => { y with tsw := (s.m.th t).tsw, pc := (s.m.th t).pc }) (link_rest (s.m.th t) d)
  · simp [Thread.link, rw_setW]
  · simp [Thread.link]

theorem jmp_links {s : State} {t : Nat} {c : BitVec 4} (h : Ready s t c) (d : BitVec 5) (target : BitVec 24) :
    Answers (.jmp t c d target) s
      (fun u => Wrote s u t d (Word.of (nextPc (s.m.th t).pc)) [] target.toNat) := by
  have hx : exec (.jmp t c d target) s =
      .next { s with m := s.m.setTh t { (s.m.th t).link d with pc := target.toNat } } :=
    congrArg Host.Outcome.next (issue_jump h (by omega) _ _ _ (by simp) rfl (step_link _ d) target.isLt)
  exact ⟨_, hx, wrote_jumped s t d _⟩

theorem jmpr_links {s : State} {t : Nat} {c : BitVec 4} (h : Ready s t c) (d a : BitVec 5) :
    Answers (.jmpr t c d a) s
      (fun u => Wrote s u t d (Word.of (nextPc (s.m.th t).pc)) [] (bits ((s.m.th t).rw a) 23 0)) := by
  have hx : exec (.jmpr t c d a) s =
      .next { s with m := s.m.setTh t { (s.m.th t).link d with pc := bits ((s.m.th t).rw a) 23 0 } } :=
    congrArg Host.Outcome.next (issue_jump h (by omega) _ _ _ (by simp) rfl (step_link _ d) (bits_lt _ 23 0))
  exact ⟨_, hx, wrote_jumped s t d _⟩

/-! ### Gate calls (R97, R98) -/

/-- A gate's entry word as the check of R97 reads it: zeros where the word is poisoned. -/
def gateEntry (s : State) (g : Nat) : Word :=
  if s.dramPoison (s.m.progAddr g) then 0 else s.dram (s.m.progAddr g)

/-- The checks of a gate call in their order (R97), on the entry word. -/
theorem gateCheck_eq (s : State) (t g : Nat) : s.gateCheck t g =
    (let x := s.m.th t
     let e := gateEntry s g
     if x.priv then .inl 0x06
     else if bits e 71 71 = 0 then .inl 0x04
     else if bits e (70 - x.cls) (70 - x.cls) = 0 then .inl 0x05
     else if !s.gateBit t g then .inl 0x05
     else if bits e 23 0 < 0x440 ∨ 0xFFFFF < bits e 23 0 then .inl 0x04
     else .inr (bits e 23 0)) := rfl

section
variable {s : State} {t g : Nat}

theorem gateCheck_firmware (hp : (s.m.th t).priv = true) : s.gateCheck t g = .inl 0x06 := by
  simp [gateCheck_eq, hp]

variable (hp : (s.m.th t).priv = false)
include hp

theorem gateCheck_invalid (hv : bits (gateEntry s g) 71 71 = 0) : s.gateCheck t g = .inl 0x04 := by
  simp [gateCheck_eq, hp, hv]

variable (hv : bits (gateEntry s g) 71 71 = 1)
include hv

theorem gateCheck_denied
    (hd : bits (gateEntry s g) (70 - (s.m.th t).cls) (70 - (s.m.th t).cls) = 0 ∨ s.gateBit t g = false) :
    s.gateCheck t g = .inl 0x05 := by
  rcases hd with hd | hd <;> simp [gateCheck_eq, hp, hv, hd]

variable (hc : bits (gateEntry s g) (70 - (s.m.th t).cls) (70 - (s.m.th t).cls) = 1) (hb : s.gateBit t g = true)
include hc hb

theorem gateCheck_target (ht : 0x440 ≤ bits (gateEntry s g) 23 0 ∧ bits (gateEntry s g) 23 0 ≤ 0xFFFFF) :
    s.gateCheck t g = .inr (bits (gateEntry s g) 23 0) := by
  simp [gateCheck_eq, hp, hv, hc, hb, ht]

theorem gateCheck_far (ht : ¬ (0x440 ≤ bits (gateEntry s g) 23 0 ∧ bits (gateEntry s g) 23 0 ≤ 0xFFFFF)) :
    s.gateCheck t g = .inl 0x04 := by
  have hf : bits (gateEntry s g) 23 0 < 0x440 ∨ 0xFFFFF < bits (gateEntry s g) 23 0 := by omega
  simp [gateCheck_eq, hp, hv, hc, hb, hf]

end

/-- A gate call that a check refuses raises that check's trap. -/
theorem gate_traps {s : State} {t : Nat} {c : BitVec 4} {imm : BitVec 48} (h : Ready s t c) (hi : imm.toNat < 1024)
    {cause : Nat} (hc : s.gateCheck t imm.toNat = .inl cause) : Traps (.gate t c imm) s t cause (s.m.th t).pc := by
  change execGate t c imm s = _
  rw [execGate, decide_eq_true hi]
  exact congrArg Host.Outcome.next (issue_trap h (by omega) _ _ _ (by simp) (by simp only [hc]))

/-- A gate call that passes goes on at the gate's target at firmware privilege, with its return in GLINK. -/
theorem gate_calls {s : State} {t : Nat} {c : BitVec 4} {imm : BitVec 48} (h : Ready s t c) (hi : imm.toNat < 1024)
    {target : Nat} (hc : s.gateCheck t imm.toNat = .inr target) (ht : target < 2 ^ 24) :
    Answers (.gate t c imm) s (fun u => ElseSame s u t ∧ (u.m.th t).pc = target
      ∧ StatusWritten s u t [(47, true), (44, true)]
      ∧ bits (u.m.th t).glink 71 48 = ((s.m.th t).pc + 1) % 2 ^ 24
      ∧ bits (u.m.th t).glink 47 0 = bits (s.m.th t).tsw 47 0
      ∧ { u.m.th t with glink := (s.m.th t).glink, tsw := (s.m.th t).tsw, pc := (s.m.th t).pc } = s.m.th t) := by
  have hx : exec (.gate t c imm) s = .next { s with m := s.m.setTh t { (s.m.th t).gate with pc := target } } := by
    change execGate t c imm s = _
    rw [execGate, decide_eq_true hi]
    exact congrArg Host.Outcome.next (issue_jump h (by omega) _ _ _ (by simp) (by simp only [hc]; rfl) (step_gate _) ht)
  refine ⟨_, hx, ⟨rfl, fun k hk => th_setTh_other _ _ _ _ hk⟩, ?_, fun i _ => ?_, ?_, ?_, ?_⟩
  · simp
  · simpa using bit_gate (s.m.th t) i
  · have hl := linkWord_pc (nextPc (s.m.th t).pc) (s.m.th t).tsw
    simpa [Thread.gate, Thread.setBit, nextPc] using hl
  · simpa [Thread.gate, Thread.setBit] using linkWord_tsw (nextPc (s.m.th t).pc) (s.m.th t).tsw
  · simp [Thread.gate, Thread.setBit]

/-! ### Returns (R98, R99, R104) -/

theorem gret_returns {s : State} {t : Nat} {c : BitVec 4} (h : Ready s t c) (hp : (s.m.th t).priv = true)
    (hg : (s.m.th t).inGate = true) (ht : (s.m.th t).inTrap = false) : Answers (.gret t c) s
      (fun u => Wrote s u t 0 0 (gretBits (s.m.th t)) (bits (s.m.th t).glink 71 48)) := by
  have hx : exec (.gret t c) s =
      .next { s with m := s.m.setTh t { (s.m.th t).gret with pc := bits (s.m.th t).glink 71 48 } } :=
    congrArg Host.Outcome.next (issue_jump h (by omega) _ _ _ (fun _ => hp) (by simp only [hg, ht]; rfl) (step_gret _)
      (bits_lt _ 71 48))
  exact ⟨_, hx, wrote_returned (gret_tswOnly _) (bit_gret _) _⟩

theorem gret_out_of_order {s : State} {t : Nat} {c : BitVec 4} (h : Ready s t c) (hp : (s.m.th t).priv = true)
    (ho : (s.m.th t).inGate = false ∨ (s.m.th t).inTrap = true) : Traps (.gret t c) s t 0x0D (s.m.th t).pc := by
  refine congrArg Host.Outcome.next (issue_trap h (by omega) _ _ _ (fun _ => hp) ?_)
  rcases ho with e | e <;> simp [e]

theorem tret_returns {s : State} {t : Nat} {c : BitVec 4} (h : Ready s t c) (hp : (s.m.th t).priv = true)
    (ht : (s.m.th t).inTrap = true) : Answers (.tret t c) s
      (fun u => Wrote s u t 0 0 (tretBits (s.m.th t)) (bits (s.m.th t).xlink 71 48)) := by
  have hx : exec (.tret t c) s =
      .next { s with m := s.m.setTh t { (s.m.th t).tret with pc := bits (s.m.th t).xlink 71 48 } } := by
    change execTret t c s = _
    rw [execTret, issue_ready h (by omega) _ _ _ _ (fun _ => hp), State.runBody]
    simp [ht, State.onM]
  exact ⟨_, hx, wrote_returned (tret_tswOnly _) (bit_tret _) _⟩

theorem tret_out_of_order {s : State} {t : Nat} {c : BitVec 4} (h : Ready s t c) (hp : (s.m.th t).priv = true)
    (ht : (s.m.th t).inTrap = false) : Traps (.tret t c) s t 0x0D (s.m.th t).pc :=
  congrArg Host.Outcome.next (issue_trap h (by omega) _ _ _ (fun _ => hp) (by simp [ht]))

/-- Settles O18: a jump and a passed gate call store a thread and go on at their target, a refused check and a return out of order
are a trap of the body, and the returns load the status fields of their link word. -/
theorem controlTransfers : Obligations.ControlTransfers := by
  unfold Obligations.ControlTransfers
  refine ⟨fun s t c d a target h => ⟨jmp_links h d target, jmpr_links h d a⟩, fun s t c imm h hi => ?_,
    fun s t c h hp => ⟨gret_returns h hp, gret_out_of_order h hp, tret_returns h hp, tret_out_of_order h hp⟩⟩
  refine ⟨fun hp => gate_traps h hi (gateCheck_firmware hp), fun hp hv => gate_traps h hi (gateCheck_invalid hp hv),
    fun hp hv hd => gate_traps h hi (gateCheck_denied hp hv hd), fun hp hv hc hb => ?_⟩
  by_cases ht : 0x440 ≤ bits (gateEntry s imm.toNat) 23 0 ∧ bits (gateEntry s imm.toNat) 23 0 ≤ 0xFFFFF
  · exact (if_pos ht).mpr (gate_calls h hi (gateCheck_target hp hv hc hb ht) (bits_lt _ 23 0))
  · exact (if_neg ht).mpr (gate_traps h hi (gateCheck_far hp hv hc hb ht))

end Sys2Proof.Laws
end

section
/-!
PROOFS. Word instructions (R119): what an ALU command computes, what the word operations give, and the statement about the
word arithmetic and logic instructions.
-/

namespace Sys2Proof.Laws
open Sys2Proof Sys2Proof.Machine

/-! ### What an ALU command computes -/

section
variable {i : Instr} {s : State} {op t : Nat} {c : BitVec 4} {d : BitVec 5} {f : Thread → Alu} {g : Thread → Word} {P : Word → Prop}
  {v : Word} {l : List (Nat × Bool)}

/-- An instruction that writes a result and flags computed from its thread. -/
theorem computes_alu (h : Ready s t c) (hi : exec i s = .next (s.alu op t c true d f))
    (hv : (f (s.m.th t)).r = v) (hl : flagList (f (s.m.th t)) = l) (ho : op < 1024 := by omega) : Computes i s t d v l :=
  ⟨_, hi, hv ▸ hl ▸ alu_wrote h ho d f⟩

/-- A result without flags, with Z, and with Z and N, of which something is known. -/
theorem computes_noFlags (h : Ready s t c) (hi : exec i s = .next (s.alu op t c true d (fun x => noFlags (g x))))
    (hp : P (g (s.m.th t))) (ho : op < 1024 := by omega) : ∃ r, Computes i s t d r [] ∧ P r :=
  ⟨_, computes_alu h hi rfl rfl ho, hp⟩

theorem computes_zFlags (h : Ready s t c) (hi : exec i s = .next (s.alu op t c true d (fun x => zFlags (g x))))
    (hp : P (g (s.m.th t))) (ho : op < 1024 := by omega) : ∃ r, Computes i s t d r (flagZ r) ∧ P r :=
  ⟨_, computes_alu h hi rfl rfl ho, hp⟩

theorem computes_znFlags (h : Ready s t c) (hi : exec i s = .next (s.alu op t c true d (fun x => znFlags (g x))))
    (hp : P (g (s.m.th t))) (ho : op < 1024 := by omega) : ∃ r, Computes i s t d r (flagsZN r) ∧ P r :=
  ⟨_, computes_alu h hi rfl rfl ho, hp⟩

/-- A write of W0 is discarded, so what is written there is free (R79). -/
theorem wrote_zero {u : State} {pc : Nat} (v' : Word) (h : Wrote s u t 0 v l pc) : Wrote s u t 0 v' l pc :=
  ⟨h.only, fun r => by simpa using h.result r, h.status, h.pc⟩

/-- An instruction that writes flags alone. -/
theorem computes_flags (h : Ready s t c) (hi : exec i s = .next (s.issueT op t c true (fun x => x.putFlags (f x))))
    (hl : flagList (f (s.m.th t)) = l) (ho : op < 1024 := by omega) : Computes i s t 0 0 l :=
  ⟨_, hi, wrote_zero 0 (hl ▸ flags_wrote h ho f)⟩

end

/-! ### Results and flags of the word operations -/

/-- The flags that go with a sum r of a, b and a carry in, and with a difference r of a, b and a borrow in (R89). -/
def sumFlags (r a b : Word) (k : Nat) : List (Nat × Bool) :=
  flagsZN r ++ [(39, decide (2 ^ 72 ≤ a.toNat + b.toNat + k)), (38, decide (r.toInt ≠ a.toInt + b.toInt + k))]

def difFlags (r a b : Word) (k : Nat) : List (Nat × Bool) :=
  flagsZN r ++ [(39, decide (b.toNat + k ≤ a.toNat)), (38, decide (r.toInt ≠ a.toInt - b.toInt - k))]

theorem flagList_aluAdd (a b : Word) (cin : Bool) :
    flagList (aluAdd a b cin) = sumFlags (aluAdd a b cin).r a b (if cin then 1 else 0) := rfl

theorem flagList_aluSub (a b : Word) (bin : Bool) :
    flagList (aluSub a b bin) = difFlags (aluSub a b bin).r a b (if bin then 1 else 0) := rfl

/-- With nothing carried or borrowed in, the result is the plain sum or difference. -/
theorem aluAdd_r (a b : Word) : (aluAdd a b false).r = a + b := by simp [aluAdd]
theorem aluSub_r (a b : Word) : (aluSub a b false).r = a - b := by simp [aluSub]

theorem aluAdd_flags (a b : Word) : flagList (aluAdd a b false) = sumFlags (a + b) a b 0 := by
  rw [flagList_aluAdd, aluAdd_r]; rfl

theorem aluSub_flags (a b : Word) : flagList (aluSub a b false) = difFlags (a - b) a b 0 := by
  rw [flagList_aluSub, aluSub_r]; rfl

/-- The borrow in of SBC is 1 − C. -/
theorem borrow_not (b : Bool) : (if !b then 1 else 0 : Nat) = 1 - if b then 1 else 0 := by cases b <;> rfl

/-- A minimum is one of the two words and below both; a maximum is one of them and above both. -/
theorem sMin_spec (a b : Word) : (sMin a b = a ∨ sMin a b = b) ∧ (sMin a b).toInt ≤ a.toInt ∧ (sMin a b).toInt ≤ b.toInt := by
  unfold sMin; split
  · exact ⟨.inl rfl, le_rfl, ‹_›⟩
  · exact ⟨.inr rfl, by omega, le_rfl⟩

theorem sMax_spec (a b : Word) : (sMax a b = a ∨ sMax a b = b) ∧ a.toInt ≤ (sMax a b).toInt ∧ b.toInt ≤ (sMax a b).toInt := by
  unfold sMax; split
  · exact ⟨.inr rfl, ‹_›, le_rfl⟩
  · exact ⟨.inl rfl, le_rfl, by omega⟩

theorem uMin_spec (a b : Word) : (uMin a b = a ∨ uMin a b = b) ∧
    ((uMin a b).toNat : Int) ≤ a.toNat ∧ ((uMin a b).toNat : Int) ≤ b.toNat := by
  unfold uMin; split
  · exact ⟨.inl rfl, le_rfl, by omega⟩
  · exact ⟨.inr rfl, by omega, le_rfl⟩

theorem uMax_spec (a b : Word) : (uMax a b = a ∨ uMax a b = b) ∧
    (a.toNat : Int) ≤ (uMax a b).toNat ∧ (b.toNat : Int) ≤ (uMax a b).toNat := by
  unfold uMax; split
  · exact ⟨.inr rfl, by omega, le_rfl⟩
  · exact ⟨.inl rfl, le_rfl, by omega⟩

theorem shlW_toNat (a : Word) (n : Nat) : (shlW a n).toNat = a.toNat * 2 ^ n % 2 ^ 72 := by
  rw [shlW, BitVec.toNat_shiftLeft, Nat.shiftLeft_eq]

theorem shrW_toNat (a : Word) (n : Nat) : (shrW a n).toNat = a.toNat / 2 ^ n := by
  rw [shrW, BitVec.toNat_ushiftRight, Nat.shiftRight_eq_div_pow]

theorem sarW_toInt (a : Word) (n : Nat) : (sarW a n).toInt = a.toInt / (2 ^ n : Nat) := by
  rw [sarW, BitVec.toInt_sshiftRight, Int.shiftRight_eq_div_pow]

/-- A rotation moves bit i to bit i + n, modulo 72. -/
theorem rolW_getLsbD (a : Word) (n i : Nat) (hi : i < 72) : (rolW a n).getLsbD ((i + n) % 72) = a.getLsbD i := by
  have hm : (i + n) % 72 < 72 := Nat.mod_lt _ (by omega)
  rw [rolW, BitVec.getLsbD_rotateLeft]
  by_cases hw : (i + n) % 72 < n % 72
  · rw [decide_eq_true hw, cond_true]; congr 1; omega
  · rw [decide_eq_false hw, cond_false, decide_eq_true hm, Bool.true_and]; congr 1; omega

/-- The leading zeros of a word: it lies below the power they leave, and not below the next (R119). -/
theorem clzW_spec (a : Word) : clzW a ≤ 72 ∧ a.toNat < 2 ^ (72 - clzW a) ∧ (clzW a < 72 → 2 ^ (71 - clzW a) ≤ a.toNat) := by
  by_cases h0 : a = 0
  · simp [clzW, h0]
  · have hn : a.toNat ≠ 0 := fun e => h0 (BitVec.eq_of_toNat_eq e)
    have hlog : Nat.log2 a.toNat < 72 := (Nat.log2_lt hn).mpr a.isLt
    have e : clzW a = 71 - Nat.log2 a.toNat := if_neg h0
    rw [e, show 72 - (71 - Nat.log2 a.toNat) = Nat.log2 a.toNat + 1 by omega,
      show 71 - (71 - Nat.log2 a.toNat) = Nat.log2 a.toNat by omega]
    exact ⟨by omega, Nat.lt_log2_self, fun _ => Nat.log2_self_le hn⟩

theorem andn_getLsbD (a b : Word) (k : Nat) (hk : k < 72) : (a &&& ~~~b).getLsbD k = (a.getLsbD k && !b.getLsbD k) := by
  rw [BitVec.getLsbD_and, BitVec.getLsbD_not, decide_eq_true hk, Bool.true_and]

theorem not_getLsbD (a : Word) (k : Nat) (hk : k < 72) : (~~~a).getLsbD k = !a.getLsbD k := by
  rw [BitVec.getLsbD_not, decide_eq_true hk, Bool.true_and]

/-- Settles O6: each instruction of the group is an ALU command or a compare, whose result and flags the lemmas above give. -/
theorem wordArithmeticAndLogicResults : Obligations.WordArithmeticAndLogicResults := by
  unfold Obligations.WordArithmeticAndLogicResults
  refine ⟨fun s t c d a b h => ?sums, fun s t c d a b h => ?logic, fun s t c d a b h => ?shifts⟩
  case sums =>
    refine ⟨computes_alu h rfl (aluAdd_r _ _) (aluAdd_flags _ _), computes_alu h rfl rfl (flagList_aluAdd _ _ _),
      computes_alu h rfl (aluSub_r _ _) (aluSub_flags _ _), ?sbc, computes_flags h rfl (aluSub_flags _ _),
      computes_alu h rfl (aluSub_r _ _) (aluSub_flags _ _)⟩
    dsimp only
    rw [← borrow_not]
    exact computes_alu h rfl rfl (flagList_aluSub _ _ _)
  case logic =>
    exact ⟨computes_znFlags h rfl fun _ _ => BitVec.getLsbD_and, computes_znFlags h rfl fun _ _ => BitVec.getLsbD_or,
      computes_znFlags h rfl fun _ _ => BitVec.getLsbD_xor, computes_znFlags h rfl (andn_getLsbD _ _),
      computes_znFlags h rfl (not_getLsbD _), computes_flags h rfl rfl,
      computes_noFlags h rfl (sMin_spec _ _), computes_noFlags h rfl (sMax_spec _ _),
      computes_noFlags h rfl (uMin_spec _ _), computes_noFlags h rfl (uMax_spec _ _), computes_alu h rfl rfl rfl⟩
  case shifts =>
    exact ⟨computes_znFlags h rfl (shlW_toNat _ _), computes_znFlags h rfl (shrW_toNat _ _),
      computes_znFlags h rfl (sarW_toInt _ _), computes_znFlags h rfl (rolW_getLsbD _ _),
      ⟨_, computes_alu h rfl rfl rfl, clzW_spec _⟩, ⟨_, computes_alu h rfl rfl rfl, rfl⟩⟩

end Sys2Proof.Laws
end

section
/-!
PROOFS. Multiplies and divides (R120, R121): the high halves of a product, the divide with its zero divisor, and the statement
about these instructions.
-/

namespace Sys2Proof.Laws
open Sys2Proof Sys2Proof.Machine

/-! ### Products -/

theorem mulHU_toNat (a b : Word) : (mulHU a b).toNat = a.toNat * b.toNat / 2 ^ 72 := by
  have hlt : a.toNat * b.toNat < 2 ^ 72 * 2 ^ 72 := Nat.mul_lt_mul'' a.isLt b.isLt
  rw [mulHU, Word.of, BitVec.toNat_ofNat, Nat.mod_eq_of_lt (by omega)]

theorem abs_toInt_le (a : Word) : |a.toInt| ≤ 2 ^ 71 := abs_le.mpr ⟨a.le_toInt, a.toInt_lt.le⟩

theorem mulHS_toInt (a b : Word) : (mulHS a b).toInt = a.toInt * b.toInt / (2 ^ 72 : Nat) := by
  have hp : |a.toInt * b.toInt| ≤ 2 ^ 71 * 2 ^ 71 := by
    rw [abs_mul]; exact mul_le_mul (abs_toInt_le a) (abs_toInt_le b) (abs_nonneg _) (by positivity)
  obtain ⟨hlo, hhi⟩ := abs_le.mp hp
  exact BitVec.toInt_ofInt_eq_self (by omega) (by omega) (by omega)

/-! ### Divides -/

section
variable {i : Instr} {s : State} {t : Nat} {c : BitVec 4} {d a b : BitVec 5} {f : Word → Word → Alu}

/-- A divide by another word than zero is an ALU command. -/
theorem exec_divide (h : Ready s t c) (hi : exec i s = .next (s.divide t c d a b f)) (hy : (s.m.th t).rw b ≠ 0) :
    exec i s = .next (s.alu 0x001 t c true d (fun x => f (x.rw a) (x.rw b))) := by
  rw [hi, State.divide, State.alu, State.issueT, issue_ready h (by omega) _ _ _ _ (by simp),
    issue_ready h (by omega) _ _ _ _ (by simp)]
  simp only [State.runBody, if_neg hy]
  rfl

/-- A divide by another word than zero computes the result of its two words. -/
theorem divide_computes {v : Word} {l : List (Nat × Bool)} (h : Ready s t c)
    (hi : exec i s = .next (s.divide t c d a b f)) (hy : (s.m.th t).rw b ≠ 0)
    (hv : (f ((s.m.th t).rw a) ((s.m.th t).rw b)).r = v) (hl : flagList (f ((s.m.th t).rw a) ((s.m.th t).rw b)) = l) :
    Computes i s t d v l :=
  computes_alu h (exec_divide h hi hy) hv hl

/-- A divide by zero raises DIVIDE_ZERO. -/
theorem divide_traps (h : Ready s t c) (hi : exec i s = .next (s.divide t c d a b f)) (hy : (s.m.th t).rw b = 0) :
    Traps i s t 0x0F (s.m.th t).pc :=
  hi.trans (congrArg Host.Outcome.next (issue_trap h (by omega) _ _ _ (by simp) (if_pos hy)))

end

/-- The operands of the one quotient that overflows, as numbers. -/
theorem divs_overflow_iff (a b : Word) : (a = Word.of (2 ^ 71) ∧ b = -1) ↔ a.toInt = -2 ^ 71 ∧ b.toInt = -1 := by
  rw [← BitVec.toInt_inj (x := a), ← BitVec.toInt_inj (x := b)]; exact Iff.rfl

/-- The quotient of DIVS, truncated but for the overflow (R121). -/
theorem divs_toInt (a b : Word) : (a.sdiv b).toInt =
    if decide (a = Word.of (2 ^ 71) ∧ b = -1) then -2 ^ 71 else a.toInt.tdiv b.toInt := by
  by_cases hv : a = Word.of (2 ^ 71) ∧ b = -1
  · obtain ⟨rfl, rfl⟩ := hv; decide
  · rw [if_neg (by simpa using hv)]
    exact BitVec.toInt_sdiv_of_ne_or_ne a b (not_and_or.mp hv)

/-- Settles O7: a multiply, or a divide by another word than zero, is an ALU command; a divide by zero is a trap of the body. -/
theorem multiplyDivideResults : Obligations.MultiplyDivideResults := by
  unfold Obligations.MultiplyDivideResults
  intro s t c d a b h
  refine ⟨computes_znFlags h rfl (BitVec.toNat_mul _ _), computes_noFlags h rfl (mulHU_toNat _ _),
    computes_noFlags h rfl (mulHS_toInt _ _), fun hy => ?nonzero, fun hy => ?zero⟩
  case nonzero =>
    exact ⟨⟨_, divide_computes h rfl hy rfl rfl, BitVec.toNat_udiv⟩,
      ⟨_, _, divide_computes h rfl hy rfl rfl, decide_eq_true_iff.trans (divs_overflow_iff _ _), divs_toInt _ _⟩,
      ⟨_, divide_computes h rfl hy rfl rfl, BitVec.toNat_umod⟩, ⟨_, divide_computes h rfl hy rfl rfl, BitVec.toInt_srem _ _⟩⟩
  case zero =>
    exact ⟨divide_traps h rfl hy, divide_traps h rfl hy, divide_traps h rfl hy, divide_traps h rfl hy⟩

end Sys2Proof.Laws
end

section
/-!
PROOFS. Packed lanes (R123, R124): each lane function stays within its lane, the sum of lanes within a word, and the mask of a
compare has a bit for a lane; the statement about the six-pack and nine-pack instructions.
-/

namespace Sys2Proof.Laws
open Sys2Proof Sys2Proof.Machine

/-! ### Lane functions: what each gives, cut to its lane -/

theorem absDiff_eq (x y : Nat) : absDiff x y = max x y - min x y := by
  unfold absDiff; split <;> omega

theorem lMulq_lt {l x y : Nat} (hl : 0 < l) (hx : x < 2 ^ l) (hy : y < 2 ^ l) : lMulq l x y < 2 ^ l := by
  have hxy : x * y ≤ (2 ^ l - 1) * (2 ^ l - 1) := Nat.mul_le_mul (by omega) (by omega)
  have hh : 2 ^ (l - 1) < 2 ^ l := Nat.pow_lt_pow_right (by omega) (by omega)
  refine Nat.div_lt_of_lt_mul ?_
  obtain ⟨m, hm⟩ : ∃ m, 2 ^ l = m + 1 := ⟨2 ^ l - 1, by omega⟩
  rw [hm, Nat.add_sub_cancel] at hxy
  rw [hm] at hh ⊢
  nlinarith

theorem lShrr_lt {l x : Nat} (n : Nat) (hx : x < 2 ^ l) : lShrr l n x < 2 ^ l := by
  unfold lShrr
  split
  · exact hx
  · split
    · positivity
    · have h1 : 2 ^ (n - 1) ≤ 2 ^ l := Nat.pow_le_pow_right (by omega) (by omega)
      have h2 : 2 * 2 ^ l ≤ 2 ^ n * 2 ^ l := Nat.mul_le_mul_right _ (Nat.le_self_pow (by omega) 2)
      exact Nat.div_lt_of_lt_mul (by omega)

/-- A number saturated to the top of a lane. -/
theorem min_top_mod (l z : Nat) : min (2 ^ l - 1) z % 2 ^ l = min (2 ^ l - 1) z :=
  Nat.mod_eq_of_lt (by have := Nat.two_pow_pos l; omega)

section
variable {l : Nat} {u v : Word} (k : Nat)

theorem subs_lane : (laneOf l k u - laneOf l k v) % 2 ^ l = laneOf l k u - laneOf l k v :=
  Nat.mod_eq_of_lt (by have := laneOf_lt l k u; omega)

theorem lAvg_lane : lAvg (laneOf l k u) (laneOf l k v) % 2 ^ l = (laneOf l k u + laneOf l k v + 1) / 2 :=
  Nat.mod_eq_of_lt (show _ / 2 < _ by have := laneOf_lt l k u; have := laneOf_lt l k v; omega)

theorem min_lane : Nat.min (laneOf l k u) (laneOf l k v) % 2 ^ l = min (laneOf l k u) (laneOf l k v) :=
  Nat.mod_eq_of_lt (min_lt_of_left_lt (laneOf_lt l k u))

theorem max_lane : Nat.max (laneOf l k u) (laneOf l k v) % 2 ^ l = max (laneOf l k u) (laneOf l k v) :=
  Nat.mod_eq_of_lt (max_lt (laneOf_lt l k u) (laneOf_lt l k v))

theorem absDiff_lane : absDiff (laneOf l k u) (laneOf l k v) % 2 ^ l =
    max (laneOf l k u) (laneOf l k v) - min (laneOf l k u) (laneOf l k v) := by
  have := laneOf_lt l k u
  have := laneOf_lt l k v
  rw [absDiff_eq]; exact Nat.mod_eq_of_lt (by omega)

theorem lMulq_lane (hl : 0 < l) : lMulq l (laneOf l k u) (laneOf l k v) % 2 ^ l = lMulq l (laneOf l k u) (laneOf l k v) :=
  Nat.mod_eq_of_lt (lMulq_lt hl (laneOf_lt l k u) (laneOf_lt l k v))

end

/-! ### Lanes of two words, their sums and their masks -/

theorem zipWith_lanes {α : Type} (g : Nat → Nat → α) (n l : Nat) (a b : Word) :
    List.zipWith g (lanes n l a) (lanes n l b) = (List.range n).map (fun k => g (laneOf l k a) (laneOf l k b)) := by
  simp only [lanes, List.zipWith_map, List.zipWith_self]; rfl

/-- A word made by giving every lane lane 0. -/
theorem laneOf_bcast (n l : Nat) (a : Word) (k : Nat) (h : k < n) (hw : l * n ≤ 72) :
    laneOf l k (laneBcast n l a).r = laneOf l 0 a := by
  have h0 : (lanes n l a).headD 0 = laneOf l 0 a := by
    obtain ⟨m, rfl⟩ : ∃ m, n = m + 1 := ⟨n - 1, by omega⟩
    rw [lanes, List.range_succ_eq_map]; rfl
  rw [laneBcast, zFlags, laneOf_pack l _ k (by simpa using h) (by simpa using hw), List.getElem_replicate, h0]
  exact Nat.mod_mod _ _

/-- A word holds the sum of a few numbers of a lane's size. -/
theorem toNat_sum_lanes {n l : Nat} {f : Nat → Nat} (hf : ∀ k, f k < 2 ^ l) (hw : n * 2 ^ l < 2 ^ 72) :
    (Word.of ((List.range n).map f).sum).toNat = ((List.range n).map f).sum := by
  have hs : ((List.range n).map f).sum ≤ n * 2 ^ l := by
    simpa using List.sum_le_card_nsmul ((List.range n).map f) (2 ^ l) (by simpa using fun k _ => (hf k).le)
  rw [Word.of, BitVec.toNat_ofNat, Nat.mod_eq_of_lt (by omega)]

/-- The number whose bits are those of a list, the first lowest. -/
def maskOf (bs : List Bool) : Nat := bs.foldr (fun x acc => acc * 2 + (if x then 1 else 0)) 0

theorem testBit_maskOf (bs : List Bool) (k : Nat) : (maskOf bs).testBit k = bs.getD k false := by
  induction bs generalizing k with
  | nil => simp [maskOf]
  | cons x r ih =>
    have e : maskOf (x :: r) = Nat.bit x (maskOf r) := by
      rw [Nat.bit_val]; cases x <;> simp [maskOf, Nat.mul_comm]
    cases k with
    | zero => rw [e, Nat.testBit_bit_zero]; rfl
    | succ k => rw [e, Nat.testBit_bit_succ, ih]; rfl

/-- Bit k of a mask made from a bit for each of n lanes. -/
theorem getLsbD_maskOf_range (n : Nat) (f : Nat → Bool) (k : Nat) (hk : k < 72) :
    (Word.of (maskOf ((List.range n).map f))).getLsbD k = (decide (k < n) && f k) := by
  rw [Word.of, BitVec.getLsbD_ofNat, decide_eq_true hk, Bool.true_and, testBit_maskOf]
  by_cases hn : k < n <;> simp [List.getD, hn]

/-- A lane compare gives its mask, and whether all and whether some lanes hold. -/
theorem laneCmp_eq (n l : Nat) (rel : Nat → Nat → Bool) (a b : Word) : laneCmp n l rel a b =
    (let f := fun k => rel (laneOf l k a) (laneOf l k b)
     let r := Word.of (maskOf ((List.range n).map f))
     { r, z := isZ r, p0 := some ((List.range n).all f), p1 := some ((List.range n).any f) }) := by
  simp only [laneCmp, zipWith_lanes, List.all_map, List.any_map]; rfl

/-! ### What the packed instructions compute -/

section
variable {i : Instr} {s : State} {op t n l : Nat} {c : BitVec 4} {d a b : BitVec 5} {g : Nat → Nat → Nat} {f : Nat → Nat}
  (h : Ready s t c)
include h

/-- A lane operation on two words. -/
theorem computes_laneOp (hi : exec i s = .next (s.alu op t c true d (fun x => laneOp n l g (x.rw a) (x.rw b))))
    (hf : ∀ k, g (laneOf l k ((s.m.th t).rw a)) (laneOf l k ((s.m.th t).rw b)) % 2 ^ l = f k) (hw : l * n ≤ 72 := by omega)
    (ho : op < 1024 := by omega) : ∃ r, Computes i s t d r (flagZ r) ∧ ∀ k, k < n → laneOf l k r = f k :=
  computes_zFlags h hi (fun k hk => (laneOf_zip n l g _ _ k hk hw).trans (hf k)) ho

/-- The shifts of every lane by W[b][3:0]. -/
theorem computes_laneShrr (hi : exec i s = .next (s.alu op t c true d (fun x => laneShrr n l (x.rw a) (x.rw b))))
    (hw : l * n ≤ 72 := by omega) (ho : op < 1024 := by omega) : ∃ r, Computes i s t d r (flagZ r) ∧
    ∀ k, k < n → laneOf l k r = lShrr l (bits ((s.m.th t).rw b) 3 0) (laneOf l k ((s.m.th t).rw a)) :=
  computes_zFlags h hi
    (fun k hk => (laneOf_map n l _ _ k hk hw).trans (Nat.mod_eq_of_lt (lShrr_lt _ (laneOf_lt l k _)))) ho

theorem computes_laneShl (hi : exec i s = .next (s.alu op t c true d (fun x => laneShl n l (x.rw a) (x.rw b))))
    (hw : l * n ≤ 72 := by omega) (ho : op < 1024 := by omega) : ∃ r, Computes i s t d r (flagZ r) ∧
    ∀ k, k < n → laneOf l k r = min (2 ^ l - 1) (laneOf l k ((s.m.th t).rw a) * 2 ^ bits ((s.m.th t).rw b) 3 0) :=
  computes_zFlags h hi (fun k hk => (laneOf_map n l _ _ k hk hw).trans (min_top_mod l _)) ho

/-- Lane 0 in every lane. -/
theorem computes_laneBcast (hi : exec i s = .next (s.alu op t c true d (fun x => laneBcast n l (x.rw a))))
    (hw : l * n ≤ 72 := by omega) (ho : op < 1024 := by omega) : ∃ r, Computes i s t d r (flagZ r) ∧
    ∀ k, k < n → laneOf l k r = laneOf l 0 ((s.m.th t).rw a) :=
  computes_zFlags h hi (fun k hk => laneOf_bcast n l _ k hk hw) ho

/-- The sum of absolute differences, and the sum of lanes. -/
theorem computes_laneSad (hi : exec i s = .next (s.alu op t c true d (fun x => laneSad n l (x.rw a) (x.rw b))))
    (hw : n * 2 ^ l < 2 ^ 72 := by omega) (ho : op < 1024 := by omega) : ∃ r, Computes i s t d r (flagZ r) ∧
    r.toNat = ((List.range n).map (fun k =>
      max (laneOf l k ((s.m.th t).rw a)) (laneOf l k ((s.m.th t).rw b)) -
        min (laneOf l k ((s.m.th t).rw a)) (laneOf l k ((s.m.th t).rw b)))).sum := by
  refine computes_zFlags h hi ?_ ho
  simp only [zipWith_lanes, absDiff_eq]
  exact toNat_sum_lanes (fun k => by have := laneOf_lt l k ((s.m.th t).rw a); have := laneOf_lt l k ((s.m.th t).rw b); omega) hw

theorem computes_laneSum (hi : exec i s = .next (s.alu op t c true d (fun x => laneSum n l (x.rw a))))
    (hw : n * 2 ^ l < 2 ^ 72 := by omega) (ho : op < 1024 := by omega) : ∃ r, Computes i s t d r (flagZ r) ∧
    r.toNat = ((List.range n).map (fun k => laneOf l k ((s.m.th t).rw a))).sum :=
  computes_zFlags h hi (toNat_sum_lanes (fun k => laneOf_lt l k _) hw) ho

/-- A lane compare: its mask, P0 and P1 (R124). -/
theorem computes_laneCmp {rel : Nat → Nat → Bool} {f : Nat → Bool}
    (hi : exec i s = .next (s.alu op t c true d (fun x => laneCmp n l rel (x.rw a) (x.rw b))))
    (hf : (fun k => rel (laneOf l k ((s.m.th t).rw a)) (laneOf l k ((s.m.th t).rw b))) = f) (ho : op < 1024 := by omega) :
    ∃ r, Computes i s t d r (flagZ r ++ [(34, (List.range n).all f), (35, (List.range n).any f)]) ∧
      ∀ k, k < 72 → r.getLsbD k = (decide (k < n) && f k) := by
  subst hf
  have he := laneCmp_eq n l rel ((s.m.th t).rw a) ((s.m.th t).rw b)
  exact ⟨_, computes_alu h hi (congrArg Alu.r he) (congrArg flagList he) ho, getLsbD_maskOf_range n _⟩

end

/-- Settles O9: an instruction of either packing is the lane operation, sum or compare of its number of lanes and their width. -/
theorem packedLanesSumsAndCompares : Obligations.PackedLanesSumsAndCompares := by
  unfold Obligations.PackedLanesSumsAndCompares
  refine ⟨⟨fun s t c d a b h => ?six, fun s t c d a b h => ?nine⟩, fun s t c d a b h => ?scalars⟩
  case six | nine =>
    exact ⟨computes_laneOp h rfl fun _ => rfl, computes_laneOp h rfl fun _ => min_top_mod _ _,
      computes_laneOp h rfl fun _ => Nat.mod_mod _ _, computes_laneOp h rfl subs_lane, computes_laneOp h rfl lAvg_lane,
      computes_laneOp h rfl min_lane, computes_laneOp h rfl max_lane, computes_laneOp h rfl absDiff_lane,
      computes_laneOp h rfl fun k => lMulq_lane k (by omega), computes_laneShrr h rfl, computes_laneShl h rfl,
      computes_laneBcast h rfl⟩
  case scalars =>
    exact ⟨computes_laneSad h rfl, computes_laneSum h rfl, computes_laneSad h rfl, computes_laneSum h rfl,
      computes_laneCmp h rfl rfl, computes_laneCmp h rfl rfl, computes_laneCmp h rfl rfl, computes_laneCmp h rfl rfl⟩

end Sys2Proof.Laws
end

section
/-!
PROOFS. Times (R12, R127, R129, R130): the fields of a device-time word, what writes of a timer's deadline leave, and the
statement about RDT, WRT, RDTIME and TADD.
-/

namespace Sys2Proof.Laws
open Sys2Proof Sys2Proof.Machine

/-! ### Device-time words -/

theorem timeWord_seconds {n : Nat} (h : n < 2 ^ 42 * 1000000000) : bits (timeWord n) 71 30 = n / 1000000000 := by
  simp only [bits, timeWord, Word.of, BitVec.toNat_ofNat]; omega

theorem timeWord_nanos (n : Nat) : bits (timeWord n) 29 0 = n % 1000000000 := by
  simp only [bits, timeWord, Word.of, BitVec.toNat_ofNat]; omega

theorem timeNs_timeWord {n : Nat} (h : n < 2 ^ 42 * 1000000000) : timeNs (timeWord n) = n := by
  rw [timeNs, timeWord_seconds h, timeWord_nanos]; omega

theorem aluTadd_eq (a b : Word) : aluTadd a b =
    if bits a 29 0 < 1000000000 ∧ timeNs a + b.toNat < 2 ^ 42 * 1000000000 then
      { r := timeWord (timeNs a + b.toNat), v := some false }
    else { r := 0, v := some true } := by
  have hc : (timeOk a = true ∧ (timeNs a + b.toNat) / 1000000000 < 2 ^ 42) ↔
      bits a 29 0 < 1000000000 ∧ timeNs a + b.toNat < 2 ^ 42 * 1000000000 := by
    rw [timeOk, decide_eq_true_iff, Nat.div_lt_iff_lt_mul (by omega)]
  simp only [aluTadd, hc]

/-- TADD writes V alone: 0 with the sum, 1 with the word 0 (R130). -/
theorem aluTadd_spec (a b : Word) : ∃ v, flagList (aluTadd a b) = [(38, v)] ∧
    if bits a 29 0 < 1000000000 ∧ timeNs a + b.toNat < 2 ^ 42 * 1000000000 then
      v = false ∧ timeNs (aluTadd a b).r = timeNs a + b.toNat ∧ bits (aluTadd a b).r 29 0 < 1000000000
    else v = true ∧ (aluTadd a b).r = 0 := by
  rw [aluTadd_eq]
  by_cases hs : bits a 29 0 < 1000000000 ∧ timeNs a + b.toNat < 2 ^ 42 * 1000000000
  · simp only [if_pos hs]
    exact ⟨false, rfl, rfl, timeNs_timeWord hs.2, timeWord_nanos _ ▸ Nat.mod_lt _ (by omega)⟩
  · simp only [if_neg hs]
    exact ⟨true, rfl, rfl, trivial⟩

/-! ### Timers -/

@[simp] theorem timer_setTimer_same (m : Dev) (t k : Nat) (w : Word) : (m.setTimer t k w).timer t k = w := by
  simp [Dev.timer, Dev.setTimer]

/-- A write of a timer leaves the other three of its thread, and those of every other thread. -/
theorem timer_setTimer_other (m : Dev) {t k n j : Nat} (w : Word) (hk : k < 4) (hj : j < 4) (h : ¬(n = t ∧ j = k)) :
    (m.setTimer t k w).timer n j = m.timer n j :=
  tget_tput_other _ _ _ _ _ (by omega)

/-- Storing a deadline does not keep a thread from issuing. -/
theorem ready_setTimer {s : State} {t : Nat} {c : BitVec 4} (h : Ready s t c) (k : Nat) (w : Word) :
    Ready { s with m := s.m.setTimer t k w } t c :=
  ⟨h.issues, h.fetched, h.fresh, h.micro, h.holds, h.quiet⟩

/-- WRT of an invalid word answers 3 and writes no timer (R129). -/
theorem wrt_invalid (s : State) (t : Nat) (d : BitVec 5) {w : Word} (k : Nat) (h0 : w ≠ 0) (hw : 1000000000 ≤ bits w 29 0) :
    s.wrt t d w k = s.onM (fun m => m.modTh t (fun x => x.setW d 3)) :=
  if_pos ⟨h0, decide_eq_false (by omega)⟩

/-- WRT of 0 or of a deadline still to come stores it and answers 0 (R129). -/
theorem wrt_pending {s : State} (t : Nat) (d : BitVec 5) {w : Word} (k : Nat)
    (hw : w = 0 ∨ (bits w 29 0 < 1000000000 ∧ s.m.now < timeNs w)) :
    s.wrt t d w k = State.onM { s with m := s.m.setTimer t k w } (fun m => m.modTh t (fun x => x.setW d 0)) := by
  have hok : ¬(w ≠ 0 ∧ timeOk w = false) := fun ⟨h0, hb⟩ =>
    hw.elim h0 fun ⟨hv, _⟩ => of_decide_eq_false hb hv
  have hdue : ¬(w ≠ 0 ∧ timeNs w ≤ s.m.now) := fun ⟨h0, hn⟩ =>
    hw.elim h0 fun ⟨_, hf⟩ => absurd hn (by omega)
  rw [State.wrt, if_neg hok, State.timerDue]
  have ht : ((s.onM (fun m => (m.setTimer t k w).modTh t (fun x => x.setW d 0))).m.timer t k) = w :=
    timer_setTimer_same s.m t k w
  simp only [ht]
  exact if_neg hdue

/-! ### What an instruction that writes a register answers -/

/-- A body that writes v to W[d], of the state or of one that differs from it elsewhere, is an ALU command without flags. -/
theorem issue_setW {s u : State} {op t : Nat} {c : BitVec 4} (h : Ready s t c) (hu : Ready u t c) (hx : u.m.th t = s.m.th t)
    {body : State → Res} {d : BitVec 5} {v : Word} (hb : body s = .ok { u with m := u.m.setTh t ((u.m.th t).setW d v) })
    (ho : op < 1024) : s.issue op t c true false false none body = u.alu op t c true d (fun _ => noFlags v) := by
  rw [State.alu, State.issueT, issue_ready h ho _ _ _ _ (by simp), issue_ready hu ho _ _ _ _ (by simp), State.runBody,
    State.runBody, hb, onM_modTh, hx]
  rfl

/-- An instruction with such a body answers the state u with v in W[d]. -/
theorem answers_setW {i : Instr} {s u : State} {op t : Nat} {c : BitVec 4} {legal : Bool} {body : State → Res} {d : BitVec 5}
    {v : Word} (h : Ready s t c) (hu : Ready u t c) (hx : u.m.th t = s.m.th t)
    (hi : exec i s = .next (s.issue op t c legal false false none body)) (hl : legal = true)
    (hb : body s = .ok { u with m := u.m.setTh t ((u.m.th t).setW d v) }) (ho : op < 1024 := by omega) :
    Answers i s (fun w => Wrote u w t d v [] (nextPc (s.m.th t).pc)) := by
  subst hl
  rw [issue_setW h hu hx hb ho] at hi
  exact ⟨_, hi, hx ▸ alu_wrote hu ho d (fun _ => noFlags v)⟩

/-- An instruction whose operand fields are illegal raises ILLEGAL_OPCODE (R85). -/
theorem traps_illegal {i : Instr} {s : State} {op t : Nat} {c : BitVec 4} {legal fw gret : Bool} {kind : Option LongKind}
    {body : State → Res} (h : Ready s t c) (hi : exec i s = .next (s.issue op t c legal fw gret kind body))
    (hl : legal = false) (ho : op < 1024 := by omega) : Traps i s t 0x01 (s.m.th t).pc := by
  subst hl
  exact hi.trans (congrArg Host.Outcome.next (issue_illegal h ho fw gret kind body))

/-- WRT of 0 or of a deadline still to come: the timer, and 0 in W[d]. -/
theorem wrt_stores {s : State} {t : Nat} {c : BitVec 4} {d a b : BitVec 5} (h : Ready s t c) (hk : b.toNat < 4)
    (hw : (s.m.th t).rw a = 0 ∨
      (bits ((s.m.th t).rw a) 29 0 < 1000000000 ∧ s.m.now < timeNs ((s.m.th t).rw a))) :
    Answers (.wrt t c d a b) s (fun u => u.m.timer t b.toNat = (s.m.th t).rw a
      ∧ (∀ n j, j < 4 → ¬(n = t ∧ j = b.toNat) → u.m.timer n j = s.m.timer n j)
      ∧ Wrote { s with m := { s.m with timers := u.m.timers } } u t d 0 [] (nextPc (s.m.th t).pc)) := by
  obtain ⟨u, he, hwrote⟩ := answers_setW (i := .wrt t c d a b) h (ready_setTimer h b.toNat ((s.m.th t).rw a)) rfl rfl
    (decide_eq_true hk) (congrArg Res.ok (wrt_pending t d b.toNat hw))
  have htimers : u.m.timers = (s.m.setTimer t b.toNat ((s.m.th t).rw a)).timers :=
    congrArg (fun w : State => w.m.timers) hwrote.only.device
  have htimer : ∀ n j, u.m.timer n j = (s.m.setTimer t b.toNat ((s.m.th t).rw a)).timer n j := fun n j => by
    rw [Dev.timer, htimers]; rfl
  refine ⟨u, he, ?_, fun n j hj hne => ?_, ?_⟩
  · rw [htimer, timer_setTimer_same]
  · rw [htimer, timer_setTimer_other s.m _ hk hj hne]
  · rw [htimers]; exact hwrote

/-- Settles O16: the reads and the refused write put a word in W[d], the accepted write stores a deadline as well, and TADD is an
ALU command. -/
theorem timeResults : Obligations.TimeResults := by
  unfold Obligations.TimeResults
  intro s t c d a b h
  refine ⟨fun hk => answers_setW h h rfl rfl (decide_eq_true hk) rfl, fun hk => ?illegal,
    fun hk h0 hw => answers_setW h h rfl rfl (decide_eq_true hk) (congrArg Res.ok (wrt_invalid s t d b.toNat h0 hw)),
    fun hk hw => wrt_stores h hk hw,
    fun hn => ⟨timeWord s.m.now, answers_setW h h rfl rfl rfl rfl, timeWord_seconds hn, timeWord_nanos _⟩, ?sum⟩
  case illegal =>
    have hl : decide (b.toNat < 4) = false := decide_eq_false (by omega)
    exact ⟨traps_illegal h rfl hl, traps_illegal h rfl hl⟩
  case sum =>
    obtain ⟨v, hv, hspec⟩ := aluTadd_spec ((s.m.th t).rw a) ((s.m.th t).rw b)
    exact ⟨_, v, computes_alu h rfl rfl hv, hspec⟩

end Sys2Proof.Laws
end
